-- ==== Sys2Proof/Word.lean ====
section
/-! DEFINITION. The words the WB6 moves on its link and in its records (0.5.4, Table 10-1). -/

namespace Sys2Proof

/-- One byte of a frame, of a stored record or of the result buffer. -/
abbrev Byte := BitVec 8

/-- A converter result, 0..4,095 (Table 0-2, 1.1). -/
abbrev Count := BitVec 12

/-- A 16-bit check word (R148, R175). -/
abbrev Word16 := BitVec 16

end Sys2Proof
end

