-- ==== Sys2Proof/Config.lean ====
section
/-! DEFINITION. The working set of parameters (Chapter 11), and the constants the manual leaves open. -/

namespace Sys2Proof

/-- A channel's fail-safe or standby pattern (Table 2-2), coded in this order (11.2). -/
inductive Pattern where
  | follow | forceOn | forceOff
deriving DecidableEq, Repr

/-- Thermostat node kinds (Table 3-1), coded in this order (11.2). -/
inductive NodeKind where
  | sensor | dial | contact
deriving DecidableEq, Repr

/-- Zone modes (Table 3-7), coded in this order (11.2). -/
inductive HeatMode where
  | comfort | economy | frost | off
deriving DecidableEq, Repr

/-- Who may order a burner reset (Table 5-3), coded in this order (11.2). -/
inductive Authority where
  | openToAll | remoteOnly | attended
deriving DecidableEq, Repr

/-- The settings of one zone (Table 3-7): temperatures in tenths of a degree, travel in s, duty in %. -/
structure ZoneSettings where
  enabled  : Bool
  node     : Nat
  kind     : NodeKind
  comfort  : Nat
  economy  : Nat
  frost    : Nat
  hyst     : Nat
  travel   : Nat
  duty     : Nat
  failSafe : HeatMode
deriving DecidableEq, Repr

/-- The settings of one channel (Tables 2-2, 2-3): currents in mA. -/
structure ChannelSettings where
  failSafe : Pattern
  standby  : Pattern
  minMA    : Nat
  maxMA    : Nat
deriving DecidableEq, Repr

/-- One point of a strapping table: a depth in mm and a volume in dl (R110). -/
structure Point where
  depth  : Nat
  volume : Nat
deriving DecidableEq, Repr

/-- The working set (R175): every parameter of Table 11-1 and the working strapping table. -/
structure Settings where
  silence    : Nat
  sink       : Fin 6
  zones      : Vector ZoneSettings 6
  channels   : Vector ChannelSettings 10
  ignition   : Nat
  satisfied  : Nat
  minOff     : Nat
  overTemp   : Nat
  overMax    : Nat
  authority  : Authority
  budget     : Nat
  cooldown   : Nat
  prove      : Nat
  zeroCount  : Nat
  fullCount  : Nat
  fullDepth  : Nat
  coeff      : Nat
  nozzle     : Nat
  period     : Nat
  leak       : Nat
  delivery   : Nat
  low        : Nat
  reserve    : Nat
  dry        : Nat
  wax        : Int
  table      : List Point
deriving DecidableEq, Repr

/-- The check word that closes the stored image (R148, R175). The manual says that there is one and
not how it is computed: an uninterpreted function of the image's contents (log entry 18). -/
opaque Config.checkWord : List Int → Word16

/-- Whether a running timer with a part of a second left is reported rounded up (true) or down
(false). The manual gives the unit of each remaining time and no rounding (log entry 17). -/
opaque Config.secondsRoundUp : Bool

/-- Whether the `n`th program that was to open a sector and was cut short by a loss of supply or a
restart left the sector's header torn (R139, R142, R152; log entry 19). -/
opaque Config.cutTearsHeader : Nat → Bool

/-- The bytes of the fourth of "the four stage settings" in the FUEL_STAGE notice: R132 counts four and
Table 7-1 gives the three thresholds LOW, RESERVE and DRY (log entry 37). -/
opaque Config.fourthStageSetting : Settings → List Byte

end Sys2Proof
end

