-- ==== Sys2Proof/Machine/Defaults.lean ====
section
/-! DEFINITION. The factory defaults (R179). -/

namespace Sys2Proof.Machine

/-- The default column of Table 3-7. -/
def factoryZone : ZoneSettings :=
  { enabled := false, node := 0, kind := .sensor, comfort := 210, economy := 170, frost := 70,
    hyst := 5, travel := 60, duty := 30, failSafe := .economy }

/-- A row of Table 2-3: both patterns FOLLOW, and the window. -/
def factoryChannel (minMA maxMA : Nat) : ChannelSettings :=
  { failSafe := .follow, standby := .follow, minMA := minMA, maxMA := maxMA }

/-- Table 2-3. -/
def factoryChannels : Vector ChannelSettings 10 :=
  ((((Vector.replicate 10 (factoryChannel 10 300)).set 0 (factoryChannel 20 500)).set 1
    (factoryChannel 0 500)).set 2 (factoryChannel 80 600)).set 3 (factoryChannel 50 1500)

/-- The factory strapping table (R110, R179). -/
def factoryTable : List Point := [⟨0, 0⟩, ⟨1200, 25000⟩]

/-- The factory defaults: Tables 2-3, 3-7, 4-3, 5-3, 6-2, 7-1, silence time 120 s, sink zone 1 (R179). -/
def factorySettings : Settings :=
  { silence := 120, sink := 0, zones := Vector.replicate 6 factoryZone, channels := factoryChannels,
    ignition := 60, satisfied := 650, minOff := 180, overTemp := 550, overMax := 300,
    authority := .openToAll, budget := 2, cooldown := 3, prove := 120,
    zeroCount := 819, fullCount := 4095, fullDepth := 1200, coeff := 840,
    nozzle := 2500, period := 6, leak := 20, delivery := 100, low := 400, reserve := 200, dry := 60,
    wax := 2, table := factoryTable }

end Sys2Proof.Machine
end

