-- ==== Sys2Proof/Syntax.lean ====
section
/-! DEFINITION. The commands of the WB6: one constructor per row of spec/opcode_table.json.
A host request carries the payload bytes of its frame (Table 10-2), of any length, so that the length
checks of R159 and R163 are part of the meaning; an abandoned frame carries the bytes after its start byte;
an event carries what the plant or another block gives it. -/

namespace Sys2Proof

/-- A debounced input (R153). Zones are numbered 0..5 here for zones 1..6. -/
inductive Input where
  | mainsOk | lockoutSense | valveSense | serviceKey | localReset
  | endSwitch (z : Fin 6)
deriving DecidableEq, Repr

/-- What a node's good report holds (R39); a contact is `true` when closed. -/
structure Report where
  temp       : Option Int
  dial       : Option Int
  contact    : Option Bool
  batteryLow : Bool
deriving DecidableEq, Repr

/-- The conversions of one scan pass (Table 1-1); the three references count on a self-test pass. -/
structure PassCounts where
  probe : Count
  tank  : Count
  flow  : Count
  cs    : Vector Count 10
  low   : Count
  mid   : Count
  high  : Count
deriving DecidableEq, Repr

/-- A block that takes a posted fuel stage (R132). -/
inductive StageTaker where
  | burn | zone | loop
deriving DecidableEq, Repr

/-- Which telling of a beginning SUPPLY_HOLD reaches BURN first (R156): SUPPLY's own, the fall of
the heat request that ZONE then tells, or the loss of pump proven that OUT then tells. -/
inductive HoldOrder where
  | supplyFirst | heatFirst | pumpFirst
deriving DecidableEq, Repr

/-- The commands, in the table's order. -/
inductive Instr where
  | powerOn
  | restart
  | resetNRelease
  | firstLevel (input : Input) (high : Bool)
  | handOver
  | burnerDerivation
  | endOfStartUp
  | scanPassStart
  | passCompletion (counts : PassCounts)
  | selftest (payload : List Byte)
  | jobDemandChange (ch : Fin 10)
  | resume (payload : List Byte)
  | silenceTimerExpiry
  | override (payload : List Byte)
  | overrideExpiry (ch : Fin 10)
  | clearTrip (payload : List Byte)
  | runMinute
  | windowStampExpiry
  | pollSlotEnd (answer : Option Report)
  | writeSlotEnd (acknowledged : Bool)
  | statWrite (payload : List Byte)
  | zoneMode (payload : List Byte)
  | blindCycleStart (z : Fin 6)
  | blindDutyEnd (z : Fin 6)
  | endMade (z : Fin 6)
  | endBroken (z : Fin 6)
  | travelTimerExpiry (z : Fin 6)
  | faultRetryExpiry (z : Fin 6)
  | heatRequest
  | pumpProven
  | overrunState
  | fuelStage (takers : List StageTaker)
  | valveSenseRise
  | valveSenseFall
  | ignitionWindowExpiry
  | stopTimerExpiry
  | antiCycleExpiry
  | noStartExpiry
  | overrunTimerExpiry
  | accumulatorFull
  | lockoutSenseRise
  | lockoutSenseFall
  | cooldownExpiry
  | pulseTimerExpiry
  | checkTimerExpiry
  | proveTimerExpiry
  | burnerReset (payload : List Byte)
  | proofLimitExpiry
  | localResetPress
  | holdTimerExpiry
  | localResetRelease
  | serviceKeyEdge
  | duePass
  | settlingTimeout
  | periodEnd
  | clearLeak (payload : List Byte)
  | trendEntry
  | tableBegin (payload : List Byte)
  | tableRows (payload : List Byte)
  | tableEnd (payload : List Byte)
  | inactivityTimerExpiry
  | setClock (payload : List Byte)
  | programCompletion (good : Bool)
  | eraseCompletion
  | historyRead (payload : List Byte)
  | keep (payload : List Byte)
  | mainsOkFall (order : HoldOrder)
  | mainsOkRise
  | returnTimerExpiry
  | interByteGap
  | unknownKind (kind : Byte) (payload : List Byte)
  | ident (payload : List Byte)
  | status (payload : List Byte)
  | getParam (payload : List Byte)
  | setParam (payload : List Byte)
  | restartOrder
  | trendRead (payload : List Byte)
  | nextTrend (payload : List Byte)
  | fetch (payload : List Byte)
  | abort (payload : List Byte)
  | transmitComplete
  | startByte
  | abandonedFrame (bytes : List Byte := [])
  | lossOfSupply
deriving DecidableEq, Repr

end Sys2Proof
end

