-- ==== Sys2Proof/Machine/State.lean ====
section
/-! DEFINITION. The state of the WB6, block by block, as plain data, and the state after reset. -/

namespace Sys2Proof.Machine

/-- A timer shorter than a minute: stopped, or running with the milliseconds that remain. -/
abbrev Timer := Option Nat

/-! ## SCAN (Chapter 1) -/

/-- Input state of a temperature input (R2). -/
inductive TempState where
  | empty | valid | sensorFault
deriving DecidableEq, Repr

/-- Latest-result record of TANK_PROBE: its count, none while empty (R2). -/
structure ProbeRecord where
  count : Option Nat
  fresh : Bool
deriving DecidableEq, Repr

/-- Latest-result record of a temperature input: count with converted value (R2, R3). -/
structure TempRecord where
  reading : Option (Nat × Int)
  state   : TempState
  fresh   : Bool
deriving DecidableEq, Repr

/-- Latest-result record of a current input: count with converted value (R2, R5). -/
structure CurrentRecord where
  reading : Option (Nat × Nat)
  fresh   : Bool
deriving DecidableEq, Repr

/-- A self-test result (R9). -/
structure SelfTest where
  low   : Nat
  mid   : Nat
  high  : Nat
  pass  : Bool
  stamp : Nat
deriving DecidableEq, Repr

/-- Where a SELFTEST task stands with its pass (R13, R15). -/
inductive SelfTestWait where
  | none | forStart | inPass
deriving DecidableEq, Repr

/-- SCAN's state (R1, R2, R8 to R11, R13). -/
structure Scan where
  passTimer    : Timer
  inFlight     : Option Bool        -- a pass in flight, with whether it carries the REF slot
  probe        : ProbeRecord
  tankTemp     : TempRecord
  flowTemp     : TempRecord
  cs           : Vector CurrentRecord 10
  measureFault : Bool
  passCounter  : Nat
  consecPass   : Nat
  lastTest     : Option SelfTest
  taskWait     : SelfTestWait
deriving DecidableEq, Repr

/-! ## OUT (Chapter 2) -/

inductive LoadState where
  | ok | openLoad | tripped | stuckOn
deriving DecidableEq, Repr

inductive Judgement where
  | none | below | within | above
deriving DecidableEq, Repr

/-- One entry of the channel table (Table 2-2); patterns and window stand in the working set. The
effective state is whether DRV energises the relay. -/
structure Channel where
  demand    : Bool
  override  : Option (Bool × Nat)
  load      : LoadState
  low       : Nat
  high      : Nat
  offs      : Nat
  judgement : Judgement
  settle    : Nat
  effective : Bool
deriving DecidableEq, Repr

inductive OutMode where
  | run | standby | failsafe
deriving DecidableEq, Repr

inductive ModeCause where
  | start | resume | silence
deriving DecidableEq, Repr

/-- OUT's state (R18, R19, R33). -/
structure Out where
  channels   : Vector Channel 10
  mode       : OutMode
  cause      : ModeCause
  pumpProven : Bool
deriving DecidableEq, Repr

/-! ## LOOP (Chapter 3) -/

inductive FuelStage where
  | normal | low | reserve | dry
deriving DecidableEq, Repr

/-- What a node shows (Table 3-3), coded in this order (11.2). -/
inductive Item where
  | shownSetpoint | oilLamp | faultLamp
deriving DecidableEq, Repr

/-- One node record (Table 3-2). -/
structure Node where
  zone       : Option (Fin 6)
  miss       : Nat
  statLost   : Bool
  polled     : Bool
  batteryLow : Bool
  staleOil   : Bool
  staleSet   : Bool
  staleFault : Bool
deriving DecidableEq, Repr

/-- One entry of the write queue (R41); `merged` marks a merge during the open slot (Table 3-4). The
value is coded as 11.2 codes STAT_WRITE values, NONE as 0xFFFF. -/
structure WriteEntry where
  node       : Fin 15
  item       : Item
  value      : Nat
  failedOnce : Bool
  inSlot     : Bool
  merged     : Bool
deriving DecidableEq, Repr

/-- The slot the loop has open (R38, R42): none, a poll, or a write with the value its entry held when
the slot opened (R42). `lost` marks a slot whose node stopped being bound while it was open, so that its
result is discarded (R38). -/
inductive LoopSlot where
  | quiet
  | poll  (node : Fin 15) (lost : Bool)
  | write (value : Nat) (lost : Bool)
deriving DecidableEq, Repr

/-- LOOP's state (R37, R38, R41, R44). Node address a stands at index a - 1. -/
structure StatLoop where
  nodes      : Vector Node 15
  queue      : List WriteEntry
  slot       : LoopSlot
  lastPolled : Option (Fin 15)
  stage      : FuelStage
deriving DecidableEq, Repr

/-! ## ZONE (Chapter 3) -/

inductive Sighted where
  | awaiting | sighted | blind
deriving DecidableEq, Repr

inductive ZoneState where
  | idle | opening | opened | hold | closing | fault
deriving DecidableEq, Repr

inductive ZoneFault where
  | none | noOpen | stuckOpen | switchLost | channel
deriving DecidableEq, Repr

/-- A zone's state timer (Table 3-8): stopped, travel ms remaining, or fault retry minutes remaining. -/
inductive ZoneTimer where
  | stopped | travel (ms : Nat) | retry (minutes : Nat)
deriving DecidableEq, Repr

/-- The runtime fields of one zone (Table 3-8); the blind cycle position is in ms. -/
structure Zone where
  hostMode    : HeatMode
  temp        : Option Int
  dial        : Option Int
  contact     : Option Bool
  statLost    : Bool
  sighted     : Sighted
  blindPos    : Nat
  target      : Option Nat
  modeCall    : Bool
  frostCall   : Bool
  sinkDrive   : Bool
  call        : Bool
  state       : ZoneState
  timer       : ZoneTimer
  cause       : ZoneFault
  writeFailed : Bool
deriving DecidableEq, Repr

/-- ZONE's state (R46, R48, R57 to R60). -/
structure ZoneBlock where
  zones       : Vector Zone 6
  heatRequest : Bool
  boilerFrost : Bool
  pumpDemand  : Bool
  overrun     : Bool
  stage       : FuelStage
deriving DecidableEq, Repr

/-! ## BURN (Chapters 4 and 5) -/

inductive BurnState where
  | idle | inhibited | called | firing | satisfied | stopping
  | locked | cooldown | resetting | held | latched
deriving DecidableEq, Repr

/-- Inhibit reasons (Table 4-2), in R63's order. -/
inductive Reason where
  | fuelDry | pump | overheat | supply | antiCycle | noStart
deriving DecidableEq, Repr

/-- The inhibit reason set (R63): each reason at most once, in no order. -/
structure InhibitSet where
  fuelDry   : Bool
  pump      : Bool
  overheat  : Bool
  supply    : Bool
  antiCycle : Bool
  noStart   : Bool
deriving DecidableEq, Repr

inductive LockCause where
  | ignitionFail | flameLoss | unknown | starvation
deriving DecidableEq, Repr

/-- The newest lockout (Table 5-2); `left` is none for the start-up marking. -/
structure Lockout where
  cause      : LockCause
  left       : Option BurnState
  stage      : FuelStage
  wasPending : Bool              -- proof was pending: the lockout is a relock (R84)
deriving DecidableEq, Repr

inductive LockStep where
  | awaitRecord | awaitMains
deriving DecidableEq, Repr

inductive LockAnswer where
  | none | stored | refused
deriving DecidableEq, Repr

inductive HeldReason where
  | awaitOrder | budget | store
deriving DecidableEq, Repr

inductive Origin where
  | auto | host | localPress | attended | external
deriving DecidableEq, Repr

inductive ResetPhase where
  | recording | pulse | check
deriving DecidableEq, Repr

inductive LatchReason where
  | starvation | relock
deriving DecidableEq, Repr

inductive OutcomeKind where
  | recovered | relock | resetFailed | abandoned
deriving DecidableEq, Repr

/-- The payload of a record, by kind (Table 8-3). -/
inductive Payload where
  | lockout (cause : LockCause) (left : Option BurnState) (stage : FuelStage) (pending : Bool)
  | reset (origin : Origin) (attended : Bool) (budgetAfter : Nat)
  | outcome (kind : OutcomeKind) (relockAfter : Nat) (origin : Option Origin)
  | latch (reason : LatchReason) (relock : Nat)
  | ack (reason : LatchReason)
  | noStart (windowS : Nat) (flow : Option Int) (stage : FuelStage)
  | gauge (v15 meter reference lifetime : Nat)
  | delivery (amount before after : Nat)
  | leak (suspect : Bool) (d : Int)
  | mains (minutes : Nat)
  | settingsKept (check : Word16)
deriving DecidableEq, Repr

/-- What BURN asked a safety-class record for, and so what its answer means (R85, R88, R91, R96). -/
inductive Tag where
  | lockout (serial : Nat)   -- the record of the lockout so numbered (R84, R87, R88, R94)
  | reset                    -- the RESET record a reset needs before its pulse (R88)
  | closing                  -- RESET of origin EXTERNAL, OUTCOME, LATCH: owed when refused (R91)
  | owed                     -- the oldest owed record, asked again (R91)
  | ack                      -- ACK (R96)
deriving DecidableEq, Repr

/-- A record BURN is to ask for once its owed records are stored (R91). A RESET record of a reset in
progress is formed when it is asked, after the budget test (R88). -/
inductive Ask where
  | record (tag : Tag) (payload : Payload)
  | resetRecord
deriving DecidableEq, Repr

/-- How far a BURNER_RESET task is (R98, R99). -/
inductive ResetTaskStage where
  | waiting | serving | proving
deriving DecidableEq, Repr

/-- A BURNER_RESET task's origin and stage (R97 to R99). -/
structure ResetTask where
  origin : Origin
  stage  : ResetTaskStage
deriving DecidableEq, Repr

/-- BURN's state: the normal fields of R62, R77, R78 and the recovery fields of Table 5-2. -/
structure Burn where
  state         : BurnState
  inhibit       : InhibitSet
  firedInCall   : Bool
  ignitionTimer : Timer
  stopTimer     : Timer
  stoppingLeft  : Bool              -- the MODEL's own: this step's withdrawal left STOPPING at once
                                    -- (log entry 47)
  antiCycle     : Timer
  noStart       : Timer
  overrunTimer  : Timer
  overrun       : Bool
  runaway       : Bool
  uncontrolled  : Bool
  stage         : FuelStage
  heat          : Bool              -- the heat request as told (R67)
  pump          : Bool              -- pump proven as told (R67)
  accMs         : Nat
  accRunning    : Bool
  totalSeconds  : Nat
  starts        : Nat
  lockStep      : LockStep
  newest        : Option Lockout
  lockouts      : Nat               -- the MODEL's own: entries into LOCKED so far, which number the
                                    -- LOCKOUT records asked (log entry 48)
  answer        : LockAnswer
  lockoutOwed   : Bool
  lockoutAsked  : Bool              -- the newest LOCKOUT record is asked and unanswered
  cooldown      : Option Nat        -- run minutes
  heldReason    : HeldReason
  resetOrigin   : Origin
  resetPhase    : ResetPhase
  pulseTimer    : Timer
  checkTimer    : Timer
  attendedOwed  : Bool
  pressWaiting  : Bool
  darkWaiting   : Bool
  proofPending  : Bool
  pendingOrigin : Option Origin
  proofLimit    : Option Nat        -- run minutes
  ackAwaited    : Bool
  proveTimer    : Timer
  relock        : Nat
  window        : List Nat          -- run stamps, oldest first
  owed          : List Payload
  owedAsked     : Bool              -- the oldest owed record is asked and unanswered
  asks          : List Ask
  latchReason   : Option LatchReason
  abandonWait   : Option Origin     -- a RESET record still awaited when the hold left RESETTING (R100)
  latchMissing  : Bool              -- a LATCH record to be asked once start-up ends (R102)
  task          : Option ResetTask
  lastNoStart   : Option (Nat × Option Int)      -- stamp and flow of the last NO_START (R69)
  lastProof     : Option (Nat × Option Origin)   -- stamp and origin of the last proof (R92)
deriving DecidableEq, Repr

/-! ## GAUGE (Chapter 6) -/

/-- The latest sample (Table 6-1): its count, and its depth when GOOD. -/
structure Sample where
  count : Nat
  depth : Option Nat
deriving DecidableEq, Repr

inductive GaugeCause where
  | none | probe | measure
deriving DecidableEq, Repr

inductive ValueStatus where
  | good | estimate | restored
deriving DecidableEq, Repr

/-- A table load in progress (R116): the announced count and check, and the staged points. -/
structure TableLoad where
  expected : Nat
  check    : Nat
  slots    : List (Option Point)
  timer    : Timer
deriving DecidableEq, Repr

/-- GAUGE's state (Table 6-1). `due` is a due pass not yet taken: its probe count, and whether
MEASURE_FAULT stood at it (R105). -/
structure Gauge where
  counter    : Nat
  due        : Option (Nat × Bool)
  latest     : Option Sample
  faulty     : Nat
  window     : List Nat
  filtered   : Option Nat
  vol        : Option Nat
  heldTemp   : Option Int
  usedTemp   : Int × TempState   -- T used with the last V15, and TANK_TEMP's state then (R106)
  v15        : Option Nat
  fault      : Bool
  cause      : GaugeCause
  basis      : Nat
  basisGood  : Bool
  metered    : Nat
  offered    : Nat
  status     : ValueStatus
  load       : Option TableLoad
deriving DecidableEq, Repr

/-! ## FUEL (Chapter 7) -/

inductive AwaitRef where
  | none | start | table
deriving DecidableEq, Repr

/-- A delivery being measured (Table 7-2). -/
structure Settling where
  steady   : Nat
  previous : Nat
  minutes  : Nat
deriving DecidableEq, Repr

/-- One entry of the trend ring (R134). -/
structure TrendEntry where
  stamp  : Nat
  value  : Nat
  status : ValueStatus
  meter  : Nat
  firing : Nat
deriving DecidableEq, Repr

/-- The last confirmed delivery, for the DELIVERY notice (R130). -/
structure DeliveryNote where
  amount : Nat
  before : Nat
  after  : Nat
  stamp  : Nat
deriving DecidableEq, Repr

/-- FUEL's state (Table 7-2). -/
structure Fuel where
  value          : Nat
  status         : ValueStatus
  reference      : Nat
  refStamp       : Nat
  refGood        : Bool
  awaiting       : AwaitRef
  meter          : Nat
  remainder      : Nat
  lifetime       : Nat
  periodTimer    : Nat
  ungauged       : Bool
  deferred       : Bool
  leakCount      : Nat
  lastD          : Option Int
  leakFlag       : Bool
  settling       : Option Settling
  stage          : FuelStage
  lineHeat       : Bool
  trendTimer     : Nat
  hourMeter      : Nat
  hourFiring     : Nat
  trend          : List TrendEntry
  lastDelivery   : Option DeliveryNote
deriving DecidableEq, Repr

/-! ## STORE (Chapter 8) -/

/-- A good record (Table 8-2): `orig` is the original sequence number of a carried copy; `wall` is
none while the wall clock was UNSET. -/
structure Record where
  seq     : Nat
  payload : Payload
  stamp   : Nat
  wall    : Option Nat
  orig    : Option Nat
deriving DecidableEq, Repr

/-- A programmed slot: a good record, or bytes that fail their check (R142, R150). -/
inductive Slot where
  | good (r : Record)
  | bad
deriving DecidableEq, Repr

/-- A sector header's mark (Table 8-1), or a torn header. -/
inductive SectorMark where
  | erased | valid (first : Nat) | retiring | torn
deriving DecidableEq, Repr

/-- A sector: its header and its programmed slots, slot 0 first; the rest are unprogrammed (R139). -/
structure Sector where
  mark  : SectorMark
  slots : List Slot
deriving DecidableEq, Repr

/-- An entry of the append queue (R141); `tag` is none for an ordinary record. -/
structure QueueEntry where
  payload : Payload
  tag     : Option Tag
deriving DecidableEq, Repr

inductive Erase where
  | sector (i : Fin 4)
  | settings
deriving DecidableEq, Repr

/-- A program operation in flight (R142, R145, R148). -/
inductive Program where
  | append (r : Record) (opens : Option (Fin 4))
  | carry (r : Record) (opens : Option (Fin 4))
  | keepBlock (n : Nat)
deriving DecidableEq, Repr

/-- The array state (R143). -/
inductive ArrayState where
  | free
  | programming (p : Program)
  | reading
  | erasing (e : Erase) (ms : Nat)
deriving DecidableEq, Repr

/-- The rotation state (R144). -/
inductive Rotation where
  | none | byGuard | byHold | byRead | carrying | eraseDue | erasing
deriving DecidableEq, Repr

/-- KEEP's phases (Table 8-6); PROGRAMMING holds the image taken, the next block and whether every
block read back so far equals the byte programmed. -/
inductive KeepPhase where
  | none
  | waiting
  | erasing
  | programming (image : Settings) (block : Nat) (good : Bool)
  | verifying (image : Settings) (good : Bool)
deriving DecidableEq, Repr

/-- A HISTORY_READ task's reading (R146): first sequence number and deliverable count. -/
structure ReadTask where
  first : Nat
  count : Nat
deriving DecidableEq, Repr

/-- STORE's answer to a safety-class append (R141, R142): stored with its sequence number and its run
stamp, or refused. -/
structure Answer where
  tag     : Tag
  payload : Payload
  stored  : Option (Nat × Nat)
deriving DecidableEq, Repr

/-- What the settings sector holds: a valid image, or none that a start finds valid (R148, R149). -/
inductive SettingsSector where
  | invalid
  | image (s : Settings)
deriving DecidableEq, Repr

/-- STORE's state (R137 to R151). -/
structure Store where
  runMinute   : Nat
  minutesSet  : Bool                -- the counter is set and the timebase runs (R137, R152)
  timebase    : Nat                 -- ms since the last run minute
  wall        : Nat
  wallSet     : Bool
  sectors     : Vector Sector 4
  head        : Option (Fin 4)
  nextSeq     : Nat
  queue       : List QueueEntry
  array       : ArrayState
  suspended   : Option (Erase × Nat)
  eraseDue    : List Erase          -- the one that became due first stands first (R143)
  carryWork   : List Record
  carryList   : List Record
  rotation    : Rotation
  setBack     : Option Rotation     -- why a started rotation's erase may not begin (R144; log entry 49)
  dropped     : Nat
  droppedFlag : Bool
  keep        : KeepPhase
  reading     : Option ReadTask
  answers     : List Answer
  badRecords  : Nat
  reErased    : Nat
  reErase     : List (Fin 4)        -- sectors the start-up scan is still to erase again (R150)
  settings    : SettingsSector
deriving DecidableEq, Repr

/-! ## SUPPLY (Chapter 9) -/

/-- SUPPLY's state (R156); the level of MAINS_OK stands with the inputs. -/
structure Supply where
  hold         : Bool
  returnTimer  : Timer
  holdStart    : Nat
  lastDuration : Option Nat
deriving DecidableEq, Repr

/-! ## LINK (Chapter 10) -/

inductive Receiver where
  | hunting | inFrame | complete
deriving DecidableEq, Repr

/-- Results of a reply (R161), coded in this order. -/
inductive ReplyResult where
  | ok | clamped | taken | busy | refused
deriving DecidableEq, Repr

/-- Reasons of replies and task ends (Table 10-3), coded in this order. -/
inductive ReasonCode where
  | none | unknownKind | badLength | badValue | order | keyRequired | notNow | bufferHeld
  | nothingHeld | queueFull | supply | budget | latched | notLocked | notAbortable | noTask
  | noFollow | recovered | relock | resetFailed | store | proof | abort | missing | check
  | inactive | verifyFail
deriving DecidableEq, Repr

/-- A formed reply (R161). `releases`: a releasing FETCH answered OK or CLAMPED (R169);
`restarts`: the reply to the restart order (R152). -/
structure Reply where
  kind     : Byte
  result   : ReplyResult
  reason   : ReasonCode
  data     : List Byte
  releases : Bool
  restarts : Bool
deriving DecidableEq, Repr

/-- Notice kinds in the code order of Table 10-5. -/
inductive Notice where
  | taskEnd | lockout | latch | held | recovered | mains | mode | fuelStage | leakSuspect
  | delivery | gauge | measure | channelFault | zoneFault | statLost | noStart | settings
deriving DecidableEq, Repr

/-- What TXD carries (R165): nothing, the owed reply, or a notice with its snapshot. -/
inductive TxLine where
  | free
  | reply
  | notice (n : Notice) (snapshot : List Byte)
deriving DecidableEq, Repr

inductive TaskKind where
  | keep | burnerReset | selftest | tableLoad | historyRead
deriving DecidableEq, Repr

inductive TaskOutcome where
  | done | rejected | timedOut | aborted
deriving DecidableEq, Repr

/-- The last task end (R166). -/
structure TaskEnd where
  kind    : TaskKind
  serial  : Nat
  outcome : TaskOutcome
  reason  : ReasonCode
  size    : Nat
deriving DecidableEq, Repr

inductive BufferState where
  | empty | filled | held
deriving DecidableEq, Repr

/-- Follow mode while on (R171). -/
structure Follow where
  index : Nat
  count : Nat
  wrap  : Bool
deriving DecidableEq, Repr

/-- LINK's state (R159, R160, R165 to R174). The content size is the length of the content. -/
structure Link where
  receiver : Receiver
  owed     : Option Reply
  tx       : TxLine
  overrun  : Bool
  slot     : Option (TaskKind × Nat)
  serial   : Nat
  lastEnd  : Option TaskEnd
  buffer   : BufferState
  content  : List Byte
  follow   : Option Follow
  notices  : List Notice            -- each at most once, lowest code first
  silence  : Timer
deriving DecidableEq, Repr

/-! ## SET (Chapter 11) and SVC (Chapter 12) -/

/-- SET's state (R175): `imageState` is the check word while VALID. -/
structure SetBlock where
  working    : Settings
  imageState : Option Word16
  changed    : Bool
  defaulted  : Bool
deriving DecidableEq, Repr

inductive PressState where
  | idle | timing | ackGiven | blocked
deriving DecidableEq, Repr

/-- SVC's state (R181): the hold timer is stopped in a long hold. -/
structure Svc where
  press     : PressState
  holdTimer : Timer
deriving DecidableEq, Repr

/-! ## Lines, meeting points and start-up -/

/-- What waits for a block that has not yet taken the values its start gives it: a debounced edge of an input
to a level, behind the input's first level (R153; log entry 27), or SUPPLY's telling that SUPPLY_HOLD begins
or ends, behind the hold of step 3 from which BURN derives its state (R154; log entry 83). -/
inductive Held where
  | edge (x : Input) (v : Bool)
  | hold (stands : Bool)
deriving DecidableEq, Repr

/-- The debounced level of every debounced input; none until its first level (R153). SUPPLY takes
MAINS_OK and BURN its two sense lines later than the first level: `held` keeps the edges debounced
meanwhile and, until BURN derives its state, SUPPLY's tellings to it, oldest first, and the level stays the
first one until it is taken (R153, R154; log entries 27 and 83). -/
structure Inputs where
  mainsOk    : Option Bool
  lockout    : Option Bool
  valve      : Option Bool
  key        : Option Bool
  localReset : Option Bool
  ends       : Vector (Option Bool) 6
  held       : List Held
deriving DecidableEq, Repr

/-- Tellings posted by one block to another and not yet taken (Table 0-1), oldest first. -/
structure Posts where
  demand    : Vector (List Bool) 10
  heat      : List Bool
  pump      : List Bool
  overrun   : List Bool
  stageBurn : List FuelStage
  stageZone : List FuelStage
  stageLoop : List FuelStage
deriving DecidableEq, Repr

/-- Where the part stands in its start (R152, R154): without supply; outputs released while RESET_N is
low; debouncing and scan; hand-over waiting for MAINS_OK's level; hand-over waiting for BURN's share;
hand-over complete; start-up ended. -/
inductive Phase where
  | unpowered | released | scanning | supplyWait | burnerWait | derived | running
deriving DecidableEq, Repr

/-- The state of the WB6. -/
structure State where
  phase   : Phase
  inputs  : Inputs
  scan    : Scan
  out     : Out
  loop    : StatLoop
  zone    : ZoneBlock
  burn    : Burn
  gauge   : Gauge
  fuel    : Fuel
  store   : Store
  supply  : Supply
  link    : Link
  sett    : SetBlock
  svc     : Svc
  posts   : Posts
  free    : Nat                     -- the MODEL's own: how many free values have been drawn (log entry 19)
  pending : List Instr              -- commands waiting, oldest first
deriving DecidableEq, Repr

/-- Why the part stops. No rule of the manual stops the part: every meaning answers a next state, so
no fault is ever raised; the one constructor names what none of them does. Safe. -/
inductive Fault where
  /-- Raised by no meaning. Safe. -/
  | none
deriving DecidableEq, Repr

/-- Why the model gives no answer. -/
inductive Refusal where
  /-- A command without a meaning in this model; raised by no arm of `exec`. Safe. -/
  | notModelled (mnemonic : String)
deriving DecidableEq, Repr

/-! ## First values -/

/-- SCAN after each reset (R16). -/
def Scan.first : Scan :=
  { passTimer := none, inFlight := none, probe := ⟨none, false⟩,
    tankTemp := ⟨none, .empty, false⟩, flowTemp := ⟨none, .empty, false⟩,
    cs := Vector.replicate 10 ⟨none, false⟩, measureFault := false, passCounter := 0,
    consecPass := 0, lastTest := none, taskWait := .none }

/-- A channel after each reset (R35). -/
def Channel.first : Channel :=
  { demand := false, override := none, load := .ok, low := 0, high := 0, offs := 0,
    judgement := .none, settle := 1, effective := false }

/-- OUT after each reset (R19, R35). -/
def Out.first : Out :=
  { channels := Vector.replicate 10 Channel.first, mode := .failsafe, cause := .start,
    pumpProven := false }

/-- A node record that binds no zone (R37). -/
def Node.unbound : Node :=
  { zone := none, miss := 0, statLost := false, polled := false, batteryLow := false,
    staleOil := false, staleSet := false, staleFault := false }

/-- LOOP after each reset (R45), before the working set names the bound nodes. -/
def StatLoop.first : StatLoop :=
  { nodes := Vector.replicate 15 Node.unbound, queue := [], slot := .quiet, lastPolled := none,
    stage := .normal }

/-- A zone after each reset (R61). -/
def Zone.first : Zone :=
  { hostMode := .economy, temp := none, dial := none, contact := none, statLost := false,
    sighted := .awaiting, blindPos := 0, target := none, modeCall := false, frostCall := false,
    sinkDrive := false, call := false, state := .idle, timer := .stopped, cause := .none,
    writeFailed := false }

/-- ZONE after each reset (R61). -/
def ZoneBlock.first : ZoneBlock :=
  { zones := Vector.replicate 6 Zone.first, heatRequest := false, boilerFrost := false,
    pumpDemand := false, overrun := false, stage := .normal }

/-- The empty inhibit reason set. -/
def InhibitSet.empty : InhibitSet :=
  { fuelDry := false, pump := false, overheat := false, supply := false, antiCycle := false,
    noStart := false }

/-- BURN after each reset, before it derives its state (R79, R81). -/
def Burn.first : Burn :=
  { state := .idle, inhibit := InhibitSet.empty, firedInCall := false, ignitionTimer := none,
    stopTimer := none, stoppingLeft := false, antiCycle := none, noStart := none,
    overrunTimer := none, overrun := false,
    runaway := false, uncontrolled := false, stage := .normal, heat := false, pump := false,
    accMs := 0, accRunning := false, totalSeconds := 0, starts := 0, lockStep := .awaitRecord,
    newest := none, lockouts := 0, answer := .none, lockoutOwed := false, lockoutAsked := false,
    cooldown := none,
    heldReason := .awaitOrder, resetOrigin := .auto, resetPhase := .recording, pulseTimer := none,
    checkTimer := none, attendedOwed := false, pressWaiting := false, darkWaiting := false,
    proofPending := false, pendingOrigin := none, proofLimit := none, ackAwaited := false,
    proveTimer := none, relock := 0, window := [], owed := [], owedAsked := false, asks := [],
    latchReason := none, abandonWait := none, latchMissing := false, task := none,
    lastNoStart := none, lastProof := none }

/-- GAUGE after each reset, with nothing restored (R120; T and its marking by log entry 50). -/
def Gauge.first : Gauge :=
  { counter := 0, due := none, latest := none, faulty := 0, window := [], filtered := none,
    vol := none, heldTemp := none, usedTemp := (15, .empty), v15 := none, fault := false, cause := .none,
    basis := 0, basisGood := false, metered := 0, offered := 0, status := .restored, load := none }

/-- FUEL after each reset, with nothing restored (R134, R135; period ungauged clear and the timers 0, which no
rule gives before the end of start-up, log entry 3). -/
def Fuel.first : Fuel :=
  { value := 0, status := .restored, reference := 0, refStamp := 0, refGood := false,
    awaiting := .start, meter := 0, remainder := 0, lifetime := 0, periodTimer := 0,
    ungauged := false, deferred := false, leakCount := 0, lastD := none, leakFlag := false,
    settling := none, stage := .normal, lineHeat := false, trendTimer := 0, hourMeter := 0,
    hourFiring := 0, trend := [], lastDelivery := none }

/-- A sector as an erase leaves it (Table 8-1). -/
def Sector.blank : Sector := { mark := .erased, slots := [] }

/-- STORE on a new part at POWER_ON (R137, R138, R140, R150; log entry 2). -/
def Store.first : Store :=
  { runMinute := 0, minutesSet := false, timebase := 0, wall := 0, wallSet := false,
    sectors := Vector.replicate 4 Sector.blank, head := none, nextSeq := 0, queue := [],
    array := .free, suspended := none, eraseDue := [], carryWork := [], carryList := [],
    rotation := .none, setBack := none, dropped := 0, droppedFlag := false, keep := .none, reading := none,
    answers := [], badRecords := 0, reErased := 0, reErase := [], settings := .invalid }

/-- SUPPLY after each reset (R156). -/
def Supply.first : Supply :=
  { hold := false, returnTimer := none, holdStart := 0, lastDuration := none }

/-- LINK after each reset: the pending-notice set holds MODE (R174). -/
def Link.first : Link :=
  { receiver := .hunting, owed := none, tx := .free, overrun := false, slot := none, serial := 0,
    lastEnd := none, buffer := .empty, content := [], follow := none, notices := [.mode],
    silence := none }

/-- SET before the hand-over loads a working set (R175; log entry 3). -/
def SetBlock.first : SetBlock :=
  { working := factorySettings, imageState := none, changed := false, defaulted := false }

/-- SVC after each reset (R181). -/
def Svc.first : Svc := { press := .blocked, holdTimer := none }

/-- Every debounced input without a level (R153). -/
def Inputs.first : Inputs :=
  { mainsOk := none, lockout := none, valve := none, key := none, localReset := none,
    ends := Vector.replicate 6 none, held := [] }

/-- No telling on its way. -/
def Posts.first : Posts :=
  { demand := Vector.replicate 10 [], heat := [], pump := [], overrun := [], stageBurn := [],
    stageZone := [], stageLoop := [] }

/-- The machine right after reset: a new part at the beginning of phase 2 of the start-up that its
first POWER_ON begins (R152; log entry 1). -/
def State.reset : State :=
  { phase := .scanning, inputs := Inputs.first, scan := Scan.first, out := Out.first,
    loop := StatLoop.first, zone := ZoneBlock.first, burn := Burn.first, gauge := Gauge.first,
    fuel := Fuel.first, store := Store.first, supply := Supply.first, link := Link.first,
    sett := SetBlock.first, svc := Svc.first, posts := Posts.first, free := 0, pending := [] }

end Sys2Proof.Machine
end

