-- ==== Sys2Proof/Machine/Arith.lean ====
section
/-! DEFINITION. The arithmetic of the manual: rounding (0.5.3), conversions (R3, R5), the gauge's
chain (R106 to R111) and the ordering of lists. -/

namespace Sys2Proof.Machine

/-- `num / den` rounded to the nearest integer with halves up, for a product that is not negative (0.5.3). -/
def roundHalfUp (num den : Nat) : Nat := (2 * num + den) / (2 * den)

/-- `num / den` rounded to the nearest integer with halves away from zero (0.5.3). -/
def roundHalfAway (num : Int) (den : Nat) : Int :=
  if 0 ≤ num then ((2 * num.toNat + den) / (2 * den) : Nat)
  else -(((2 * (-num).toNat + den) / (2 * den) : Nat) : Int)

/-- "Clamped to a..b" (0.5.3). -/
def clampInt (lo hi v : Int) : Int := if v < lo then lo else if hi < v then hi else v

/-- A temperature count in tenths of a degree (R3). -/
def convertTemp (c : Nat) : Int := (roundHalfUp (c * 1600) 4095 : Int) - 400

/-- A current count in milliamperes (R5). -/
def convertCurrent (c : Nat) : Nat := roundHalfUp (c * 2000) 4095

/-- The state a temperature count gives its input (R4). -/
def tempStateOf (c : Nat) : TempState := if 16 ≤ c ∧ c ≤ 4079 then .valid else .sensorFault

/-- Whether the three reference counts lie in their bands (Table 1-3a, R9). -/
def refsPass (low mid high : Nat) : Bool :=
  decide (370 ≤ low ∧ low ≤ 450) && decide (2008 ≤ mid ∧ mid ≤ 2088)
    && decide (3646 ≤ high ∧ high ≤ 3726)

/-- A probe count is FAULTY (R107). -/
def probeFaulty (z c : Nat) : Bool := decide (c + 100 < z) || decide (4090 < c)

/-- The depth of a GOOD count (R107). -/
def depthOf (z f dfull c : Nat) : Nat :=
  if c ≤ z then 0 else if f ≤ c then dfull else roundHalfUp ((c - z) * dfull) (f - z)

/-- Insert into an ascending list. -/
def insertAsc (n : Nat) : List Nat → List Nat
  | [] => [n]
  | m :: rest => if n ≤ m then n :: m :: rest else m :: insertAsc n rest

/-- Sort by value. -/
def sortAsc : List Nat → List Nat
  | [] => []
  | n :: rest => insertAsc n (sortAsc rest)

/-- The third of five sorted depths (R109). -/
def medianOf (window : List Nat) : Nat := ((sortAsc window)[2]?).getD 0

/-- A depth joins the sample window; of six, the oldest leaves (R109). -/
def pushDepth (window : List Nat) (d : Nat) : List Nat :=
  if 5 ≤ window.length then window.tail ++ [d] else window ++ [d]

/-- The volume at a depth by the strapping table (R110). -/
def volumeAt : List Point → Nat → Nat
  | [], _ => 0
  | [p], _ => p.volume
  | p :: q :: rest, d =>
    if d ≤ p.depth then p.volume
    else if d < q.depth then
      p.volume + roundHalfUp ((d - p.depth) * (q.volume - p.volume)) (q.depth - p.depth)
    else volumeAt (q :: rest) d

/-- The whole-degree temperature used for V15 (R106). -/
def tankDegrees : Option Int → Int
  | none => 15
  | some t => clampInt (-30) 50 (roundHalfAway t 10)

/-- V compensated to 15 °C (R111). -/
def compensate (v k : Nat) (t : Int) : Nat :=
  (clampInt 0 65535 ((v : Int) - roundHalfAway ((v : Int) * k * (t - 15)) 1000000)).toNat

/-- An estimate: the basis less the millilitres metered since, in decilitres, floored at 0 (R114). -/
def estimateOf (basis metered : Nat) : Nat := basis - metered / 100

/-- Add, stopping at the largest value of 32 bits (R112, R123, R137). -/
def addStop (a b : Nat) : Nat := min (a + b) 4294967295

/-- Add, wrapping past the largest value of 32 bits (R78, R123). -/
def addWrap (a b : Nat) : Nat := (a + b) % 4294967296

end Sys2Proof.Machine
end

