-- ==== Sys2Proof/Machine/Ops.lean ====
section
/-! DEFINITION. The named operations over the state that the meanings share: updates block by block,
the entries of the tables, posting tellings and notices, tasks and the result buffer. -/

namespace Sys2Proof.Machine

/-! ## Updates -/

/-- Change inputs alone. -/
def State.onInputs (s : State) (f : Inputs → Inputs) : State := { s with inputs := f s.inputs }

/-- Change scan alone. -/
def State.onScan (s : State) (f : Scan → Scan) : State := { s with scan := f s.scan }

/-- Change out alone. -/
def State.onOut (s : State) (f : Out → Out) : State := { s with out := f s.out }

/-- Change loop alone. -/
def State.onLoop (s : State) (f : StatLoop → StatLoop) : State := { s with loop := f s.loop }

/-- Change zone alone. -/
def State.onZoneBlock (s : State) (f : ZoneBlock → ZoneBlock) : State := { s with zone := f s.zone }

/-- Change burn alone. -/
def State.onBurn (s : State) (f : Burn → Burn) : State := { s with burn := f s.burn }

/-- Change gauge alone. -/
def State.onGauge (s : State) (f : Gauge → Gauge) : State := { s with gauge := f s.gauge }

/-- Change fuel alone. -/
def State.onFuel (s : State) (f : Fuel → Fuel) : State := { s with fuel := f s.fuel }

/-- Change store alone. -/
def State.onStore (s : State) (f : Store → Store) : State := { s with store := f s.store }

/-- Change supply alone. -/
def State.onSupply (s : State) (f : Supply → Supply) : State := { s with supply := f s.supply }

/-- Change link alone. -/
def State.onLink (s : State) (f : Link → Link) : State := { s with link := f s.link }

/-- Change sett alone. -/
def State.onSett (s : State) (f : SetBlock → SetBlock) : State := { s with sett := f s.sett }

/-- Change svc alone. -/
def State.onSvc (s : State) (f : Svc → Svc) : State := { s with svc := f s.svc }

/-- Change posts alone. -/
def State.onPosts (s : State) (f : Posts → Posts) : State := { s with posts := f s.posts }

/-- Change the start-up phase alone. -/
def State.withPhase (s : State) (p : Phase) : State := { s with phase := p }

/-- Change the queue of waiting commands alone. -/
def State.withPending (s : State) (q : List Instr) : State := { s with pending := q }

/-- Count one free value as drawn (log entry 19). -/
def State.drawFree (s : State) : State := { s with free := s.free + 1 }

/-! ## Entries of the tables -/

/-- The entry of channel `ch` (R18). -/
def State.chan (s : State) (ch : Fin 10) : Channel := s.out.channels[ch]

/-- Change the entry of channel `ch` alone (R18). -/
def State.onChan (s : State) (ch : Fin 10) (f : Channel → Channel) : State :=
  s.onOut fun o => { o with channels := o.channels.set ch (f o.channels[ch]) }

/-- Zone `z`'s runtime fields (R46). -/
def State.zoneAt (s : State) (z : Fin 6) : Zone := s.zone.zones[z]

/-- Change zone `z`'s runtime fields alone (R46). -/
def State.onZone (s : State) (z : Fin 6) (f : Zone → Zone) : State :=
  s.onZoneBlock fun b => { b with zones := b.zones.set z (f b.zones[z]) }

/-- The record of the node at index `n`, address n + 1 (R37). -/
def State.nodeAt (s : State) (n : Fin 15) : Node := s.loop.nodes[n]

/-- Change one node record alone (R37). -/
def State.onNode (s : State) (n : Fin 15) (f : Node → Node) : State :=
  s.onLoop fun l => { l with nodes := l.nodes.set n (f l.nodes[n]) }

/-- The working set's parameters (R175). -/
def State.par (s : State) : Settings := s.sett.working

/-- Zone `z`'s settings (R46). -/
def State.zoneSet (s : State) (z : Fin 6) : ZoneSettings := s.sett.working.zones[z]

/-- Channel `ch`'s settings (R18). -/
def State.chanSet (s : State) (ch : Fin 10) : ChannelSettings := s.sett.working.channels[ch]

/-- The ten channels in order. -/
def allChannels : List (Fin 10) := [0, 1, 2, 3, 4, 5, 6, 7, 8, 9]

/-- The six zones in order. -/
def allZones : List (Fin 6) := [0, 1, 2, 3, 4, 5]

/-- The fifteen node addresses in ascending order. -/
def allNodes : List (Fin 15) := [0, 1, 2, 3, 4, 5, 6, 7, 8, 9, 10, 11, 12, 13, 14]

/-- The VALVE channel of zone `z`: CH4 for zone 1 to CH9 for zone 6 (R57). -/
def valveChannel (z : Fin 6) : Fin 10 := ⟨z.val + 4, by omega⟩

/-- The zone whose VALVE channel is `ch`, if it is one (Table 0-6). -/
def channelZone (ch : Fin 10) : Option (Fin 6) :=
  if h : 4 ≤ ch.val then some ⟨ch.val - 4, by omega⟩ else none

/-! ## Levels and conditions -/

/-- The part has ended its start-up, so every block does its own work (R155). -/
def State.running (s : State) : Bool := s.phase == .running

/-- BURN has derived its state (R79), so that it takes edges and orders. -/
def State.burnActive (s : State) : Bool := s.phase == .running || s.phase == .derived

/-- SUPPLY_HOLD as BURN knows it. While BURN derives its state and takes what waited, it is what it was last
told, which its inhibit set holds: the hold of step 3, then each telling that waited, in order (R79, R80, R154;
log entry 83). From then on it is SUPPLY's. -/
def State.burnHold (s : State) : Bool :=
  if s.phase == .burnerWait then s.burn.inhibit.supply else s.supply.hold

/-- STORE's own state has begun: the scan's findings are handed over, which waits for MAINS_OK's first level
(R151, R154; log entry 68). -/
def State.storeActive (s : State) : Bool :=
  s.phase == .running || s.phase == .derived || s.phase == .burnerWait

/-- The lockout lamp is lit: the debounced level of LOCKOUT_SENSE is high (0.5.6). -/
def State.lampLit (s : State) : Bool := s.inputs.lockout == some true

/-- The oil valve is open: the debounced level of VALVE_SENSE is high (4.1). -/
def State.valveOpen (s : State) : Bool := s.inputs.valve == some true

/-- SERVICE_KEY is active (R180). -/
def State.keyActive (s : State) : Bool := s.inputs.key == some true

/-- Zone `z`'s end switch is made; broken until its first level (R153). -/
def State.endIsMade (s : State) (z : Fin 6) : Bool := s.inputs.ends[z] == some true

/-- The current run minute (R137). -/
def State.now (s : State) : Nat := s.store.runMinute

/-- The flow temperature as BURN and ZONE know it: none while EMPTY, in SENSOR_FAULT or while
MEASURE_FAULT stands (R58, R65). -/
def State.flowKnown (s : State) : Option Int :=
  if s.scan.measureFault then none
  else match s.scan.flowTemp.state with
    | .valid => s.scan.flowTemp.reading.map Prod.snd
    | _ => none

/-! ## Tellings between blocks (Table 0-1) -/

/-- A demand owner posts a change of its channel's job demand to OUT (R18). -/
def postDemand (ch : Fin 10) (v : Bool) (s : State) : State :=
  s.onPosts fun p => { p with demand := p.demand.set ch (p.demand[ch] ++ [v]) }

/-- ZONE tells BURN the new heat request (R57). -/
def postHeat (v : Bool) (s : State) : State := s.onPosts fun p => { p with heat := p.heat ++ [v] }

/-- OUT tells BURN the new pump proven (R33). -/
def postPump (v : Bool) (s : State) : State := s.onPosts fun p => { p with pump := p.pump ++ [v] }

/-- BURN tells ZONE the overrun state, as a report or as an answer (R60, R74). -/
def postOverrun (v : Bool) (s : State) : State :=
  s.onPosts fun p => { p with overrun := p.overrun ++ [v] }

/-- FUEL posts a fuel stage to BURN, ZONE and LOOP (R132). -/
def postStage (g : FuelStage) (s : State) : State :=
  s.onPosts fun p =>
    { p with stageBurn := p.stageBurn ++ [g], stageZone := p.stageZone ++ [g],
             stageLoop := p.stageLoop ++ [g] }

/-! ## Notices (R172) -/

/-- A notice's code (Table 10-5). -/
def Notice.code : Notice → Nat
  | .taskEnd => 1 | .lockout => 2 | .latch => 3 | .held => 4 | .recovered => 5 | .mains => 6
  | .mode => 7 | .fuelStage => 8 | .leakSuspect => 9 | .delivery => 10 | .gauge => 11
  | .measure => 12 | .channelFault => 13 | .zoneFault => 14 | .statLost => 15 | .noStart => 16
  | .settings => 17

/-- Add a kind to the pending-notice set, kept in code order; a kind already in it stays once (R172). -/
def insertNotice (n : Notice) : List Notice → List Notice
  | [] => [n]
  | m :: rest =>
    if n = m then m :: rest
    else if n.code < m.code then n :: m :: rest
    else m :: insertNotice n rest

/-- A block posts a notice (R172). -/
def postNotice (n : Notice) (s : State) : State :=
  s.onLink fun l => { l with notices := insertNotice n l.notices }

/-! ## Tasks and the result buffer (R166, R168) -/

/-- A task is taken: the serial rises by one and the slot holds the task with it (R166). -/
def startTask (k : TaskKind) (s : State) : State :=
  s.onLink fun l =>
    { l with serial := (l.serial + 1) % 65536, slot := some (k, (l.serial + 1) % 65536) }

/-- The task in the slot ends: the last task end is recorded, the slot emptied and TASK_END posted
(R166). Without a task nothing happens. -/
def endTask (o : TaskOutcome) (r : ReasonCode) (size : Nat) (s : State) : State :=
  match s.link.slot with
  | none => s
  | some (k, serial) =>
    postNotice .taskEnd
      (s.onLink fun l => { l with slot := none, lastEnd := some ⟨k, serial, o, r, size⟩ })

/-- The task kind in the slot (R166). -/
def State.taskKind (s : State) : Option TaskKind := s.link.slot.map Prod.fst

/-- The result buffer is filled at once and held (R168; log entry 20). -/
def fillBuffer (content : List Byte) (s : State) : State :=
  s.onLink fun l => { l with buffer := .held, content := content }

/-! ## Timers -/

/-- A timer loaded with `n` seconds. -/
def secondsTimer (n : Nat) : Timer := some (1000 * n)

/-- One down, stopping at 0: a run-minute count at a run minute (0.5.5). -/
def countDown (n : Nat) : Nat := n - 1

end Sys2Proof.Machine
end

