-- ==== Sys2Proof/Machine/Flags.lean ====
section
/-! DEFINITION. The conditions the blocks form from their state: the inhibit set, fuel stages, zone
modes, targets and calls, the heat request, the pump demand, a channel's effective state, pump proven. -/

namespace Sys2Proof.Machine

/-! ## The inhibit reason set (R63) -/

/-- Whether the set holds a reason. -/
def InhibitSet.has (i : InhibitSet) : Reason → Bool
  | .fuelDry => i.fuelDry | .pump => i.pump | .overheat => i.overheat | .supply => i.supply
  | .antiCycle => i.antiCycle | .noStart => i.noStart

/-- The set with a reason in it or out of it. -/
def InhibitSet.put (i : InhibitSet) (v : Bool) : Reason → InhibitSet
  | .fuelDry => { i with fuelDry := v }
  | .pump => { i with pump := v }
  | .overheat => { i with overheat := v }
  | .supply => { i with supply := v }
  | .antiCycle => { i with antiCycle := v }
  | .noStart => { i with noStart := v }

/-- Whether no reason stands. -/
def InhibitSet.isEmpty (i : InhibitSet) : Bool :=
  !(i.fuelDry || i.pump || i.overheat || i.supply || i.antiCycle || i.noStart)

/-- The states with a CH0 demand of on (R62, Table 4-1). -/
def BurnState.calling : BurnState → Bool
  | .called => true | .firing => true | .satisfied => true
  | .idle => false | .inhibited => false | .stopping => false | .locked => false
  | .cooldown => false | .resetting => false | .held => false | .latched => false

/-- The six normal states (R62). -/
def BurnState.normal : BurnState → Bool
  | .idle => true | .inhibited => true | .called => true | .firing => true | .satisfied => true
  | .stopping => true
  | .locked => false | .cooldown => false | .resetting => false | .held => false | .latched => false

/-- The cause of a lockout that found state `st` (Table 4-4). -/
def causeOfState : BurnState → LockCause
  | .called => .ignitionFail
  | .firing => .flameLoss
  | .satisfied => .flameLoss
  | .stopping => .flameLoss
  | _ => .unknown

/-- Fuel stages that make a lockout a starvation suspect (R75). -/
def FuelStage.scarce : FuelStage → Bool
  | .reserve => true | .dry => true | .normal => false | .low => false

/-- The cause, replaced by STARVATION_SUSPECT on RESERVE or DRY (R75). -/
def lockoutCause (st : BurnState) (g : FuelStage) : LockCause :=
  if g.scarce then .starvation else causeOfState st

/-- An origin of the class non-attended (Table 5-4). -/
def Origin.nonAttended : Origin → Bool
  | .auto => true | .host => true | .localPress => false | .attended => false | .external => false

/-! ## Fuel stages (R131) -/

/-- The plain stage of a volume in decilitres (Table 7-5). -/
def plainStage (p : Settings) (v : Nat) : FuelStage :=
  if 10 * p.low ≤ v then .normal
  else if 10 * p.reserve ≤ v then .low
  else if 10 * p.dry ≤ v then .reserve
  else .dry

/-- How full a stage is: DRY 0 to NORMAL 3. -/
def FuelStage.rank : FuelStage → Nat
  | .dry => 0 | .reserve => 1 | .low => 2 | .normal => 3

/-- The stage one step up, with its rise bound in decilitres (Table 7-5). -/
def riseStep (p : Settings) : FuelStage → Option (FuelStage × Nat)
  | .normal => none
  | .low => some (.normal, 10 * (p.low + 30))
  | .reserve => some (.low, 10 * (p.reserve + 30))
  | .dry => some (.reserve, 10 * (p.dry + 30))

/-- The fuel stage after a computation from volume `v` (R131). -/
def stageFrom (p : Settings) (present : FuelStage) (v : Nat) : FuelStage :=
  if (plainStage p v).rank < present.rank then plainStage p v
  else match riseStep p present with
    | some (up, bound) => if bound ≤ v then up else present
    | none => present

/-! ## Zones -/

/-- The mode in force of zone `z` (Table 3-9). -/
def State.modeInForce (s : State) (z : Fin 6) : HeatMode :=
  match s.out.mode with
  | .run => (s.zoneAt z).hostMode
  | .standby => .frost
  | .failsafe => (s.zoneSet z).failSafe

/-- The comfort target: the setpoint, or a DIAL zone's dial clamped to 50..300 (R48). -/
def comfortTarget (p : ZoneSettings) (dial : Option Int) : Nat :=
  match p.kind, dial with
  | .dial, some d => (clampInt 50 300 d).toNat
  | _, _ => p.comfort

/-- The target of zone `z` (R48). -/
def State.targetOf (s : State) (z : Fin 6) : Option Nat :=
  match s.modeInForce z with
  | .comfort =>
    if s.zone.stage.scarce then some (s.zoneSet z).economy
    else some (comfortTarget (s.zoneSet z) (s.zoneAt z).dial)
  | .economy => some (s.zoneSet z).economy
  | .frost => some (s.zoneSet z).frost
  | .off => none

/-- On-time of the blind duty in milliseconds: duty × 12 s (R51). -/
def dutyMs (duty : Nat) : Nat := duty * 12000

/-- Length of the blind cycle in milliseconds (R51). -/
def blindCycleMs : Nat := 1200000

/-- A blind zone's cycle position: the cycle is over before it reaches 1,200 s, and the next one starts
then (R51; log entry 5). -/
def Zone.cyclePos (zn : Zone) : Nat := min zn.blindPos (blindCycleMs - 1)

/-- The mode call of a sighted SENSOR or DIAL zone (R49). -/
def hysteresisCall (held : Bool) (target : Option Nat) (h : Nat) (t : Int) : Bool :=
  match target with
  | none => false
  | some g => if t < (g : Int) - h then true else if (g : Int) ≤ t then false else held

/-- The frost call of a sighted SENSOR or DIAL zone (R49). -/
def frostHysteresis (held : Bool) (frost h : Nat) (t : Int) : Bool :=
  if t < (frost : Int) then true else if (frost : Int) + h ≤ t then false else held

/-- The mode call and the frost call of zone `z` as its rules form them (R49 to R51). -/
def State.callsOf (s : State) (z : Fin 6) : Bool × Bool :=
  let zn := s.zoneAt z
  let p := s.zoneSet z
  let isOff := s.modeInForce z == .off
  match zn.sighted with
  | .awaiting => (false, false)
  | .blind => (!isOff && decide (zn.cyclePos < dutyMs p.duty), false)
  | .sighted =>
    match p.kind with
    | .contact => (zn.contact == some true && !isOff, false)
    | _ =>
      match zn.temp with
      | none => (zn.modeCall, zn.frostCall)
      | some t =>
        (hysteresisCall zn.modeCall zn.target p.hyst t, frostHysteresis zn.frostCall p.frost p.hyst t)

/-- States with a VALVE demand of on (Table 3-11). -/
def ZoneState.valveDemand : ZoneState → Bool
  | .opening => true | .opened => true | .hold => true
  | .idle => false | .closing => false | .fault => false

/-- Zone `z` contributes to the heat request (R57). -/
def State.heats (s : State) (z : Fin 6) : Bool :=
  (s.zoneAt z).state == .opened && (s.zoneAt z).call

/-- The heat request as R57 forms it. -/
def State.heatFormed (s : State) : Bool := allZones.any s.heats

/-- The pump demand as R59 forms it. -/
def State.pumpFormed (s : State) : Bool :=
  allZones.any (fun z => (s.zoneAt z).state.valveDemand) || s.zone.overrun || s.zone.boilerFrost

/-! ## Channels -/

/-- The pattern that acts in the present mode (R21). -/
def State.patternNow (s : State) (ch : Fin 10) : Pattern :=
  match s.out.mode with
  | .run => .follow
  | .standby => (s.chanSet ch).standby
  | .failsafe => (s.chanSet ch).failSafe

/-- The effective state Table 2-4 gives channel `ch` (R22); during start-up every DRV line is released
(R35, R152). -/
def State.resolved (s : State) (ch : Fin 10) : Bool :=
  if !s.running then false
  else if s.supply.hold then false
  else if (s.chan ch).load = .tripped then false
  else match s.patternNow ch with
    | .forceOn => true
    | .forceOff => false
    | .follow =>
      match s.out.mode, (s.chan ch).override with
      | .run, some (v, _) => v
      | _, _ => (s.chan ch).demand

/-- The condition pump proven (R33). -/
def State.pumpIsProven (s : State) : Bool :=
  (s.chan 2).effective
    && (((s.chan 2).load == .ok && (s.chan 2).judgement == .within) || s.scan.measureFault)

/-- A load state that stands as a channel fault for the pump and the valves (R32). -/
def LoadState.faulty : LoadState → Bool
  | .openLoad => true | .tripped => true | .ok => false | .stuckOn => false

end Sys2Proof.Machine
end

