-- ==== Sys2Proof/Machine/Operands.lean ====
section
/-! DEFINITION. The byte forms of operands, replies, snapshots and records: little-endian fields
(0.5.4), the coding of R162, the codes of Tables 8-4, 10-2, 10-3, 10-4 and 11.2, and the stored record
of Tables 8-2 and 8-3. -/

namespace Sys2Proof.Machine

/-! ## Numbers -/

/-- One byte. -/
def byte8 (n : Nat) : List Byte := [BitVec.ofNat 8 n]

/-- Two bytes, least significant first. -/
def byte16 (n : Nat) : List Byte := [BitVec.ofNat 8 n, BitVec.ofNat 8 (n / 256)]

/-- Four bytes, least significant first. -/
def byte32 (n : Nat) : List Byte :=
  [BitVec.ofNat 8 n, BitVec.ofNat 8 (n / 256), BitVec.ofNat 8 (n / 65536),
   BitVec.ofNat 8 (n / 16777216)]

/-- A signed number in `2 ^ bits` two's complement as a natural number (0.5.3). -/
def twos (bits : Nat) (z : Int) : Nat := (z % (2 ^ bits : Nat)).toNat

/-- A signed number in one byte. -/
def signed8 (z : Int) : List Byte := byte8 (twos 8 z)

/-- A signed number in two bytes. -/
def signed16 (z : Int) : List Byte := byte16 (twos 16 z)

/-- A signed number in four bytes. -/
def signed32 (z : Int) : List Byte := byte32 (twos 32 z)

/-- A flag or two-valued mark (R162). -/
def flag (b : Bool) : List Byte := byte8 (if b then 1 else 0)

/-- A numeric field that may be missing: a presence byte, and zeros for a missing value (R162). -/
def optional (enc : Nat → List Byte) (o : Option Nat) : List Byte :=
  match o with
  | none => byte8 0 ++ enc 0
  | some n => byte8 1 ++ enc n

/-- A signed field that may be missing: four bytes, as every range with negative values takes (R162). -/
def optionalSigned32 (o : Option Int) : List Byte :=
  match o with
  | none => byte8 0 ++ signed32 0
  | some z => byte8 1 ++ signed32 z

/-- Remaining whole seconds of milliseconds; the rounding of a part of a second is the manual's open
point (log entry 17). -/
def wholeSeconds (ms : Nat) : Nat :=
  if ms % 1000 = 0 then ms / 1000
  else if Config.secondsRoundUp then ms / 1000 + 1 else ms / 1000

/-- A running timer as its remaining seconds, a stopped one as a missing value (R162). -/
def timerSeconds (enc : Nat → List Byte) (t : Timer) : List Byte := optional enc (t.map wholeSeconds)

/-- A list: a count byte and `most` entries, the unused ones zeros of `width` bytes (R162). -/
def listField (most width : Nat) (entries : List (List Byte)) : List Byte :=
  byte8 entries.length ++ (entries.take most).flatten
    ++ List.replicate ((most - entries.length) * width) 0

/-! ## Operands of requests -/

/-- A byte as a number. -/
def num8 (b : Byte) : Nat := b.toNat

/-- Two bytes, least significant first, as a number. -/
def num16 (a b : Byte) : Nat := a.toNat + 256 * b.toNat

/-- Four bytes, least significant first, as a number. -/
def num32 (a b c d : Byte) : Nat := a.toNat + 256 * b.toNat + 65536 * c.toNat + 16777216 * d.toNat

/-- Two bytes, least significant first, in two's complement (0.5.3). -/
def int16 (a b : Byte) : Int := (BitVec.ofNat 16 (num16 a b)).toInt

/-- The points of a TABLE_ROWS payload, four bytes each; none when bytes are left over (R163). -/
def pointsOf : List Byte → Option (List Point)
  | [] => some []
  | a :: b :: c :: d :: rest =>
    (pointsOf rest).map fun ps => ⟨num16 a b, num16 c d⟩ :: ps
  | _ => none

/-! ## Enumeration codes -/

/-- Fuel stage codes (Table 8-4); OIL_LAMP values are the same with OFF for NORMAL (11.2). -/
def FuelStage.code : FuelStage → Nat
  | .normal => 0 | .low => 1 | .reserve => 2 | .dry => 3

/-- Zone mode codes (11.2). -/
def HeatMode.code : HeatMode → Nat
  | .comfort => 0 | .economy => 1 | .frost => 2 | .off => 3

/-- A zone mode by its code (11.2). -/
def heatModeOf : Nat → Option HeatMode
  | 0 => some .comfort | 1 => some .economy | 2 => some .frost | 3 => some .off | _ => none

/-- Pattern codes (11.2). -/
def Pattern.code : Pattern → Nat
  | .follow => 0 | .forceOn => 1 | .forceOff => 2

/-- A pattern by its code (11.2). -/
def patternOf : Nat → Option Pattern
  | 0 => some .follow | 1 => some .forceOn | 2 => some .forceOff | _ => none

/-- Node kind codes (11.2). -/
def NodeKind.code : NodeKind → Nat
  | .sensor => 0 | .dial => 1 | .contact => 2

/-- A node kind by its code (11.2). -/
def nodeKindOf : Nat → Option NodeKind
  | 0 => some .sensor | 1 => some .dial | 2 => some .contact | _ => none

/-- Authority codes (11.2). -/
def Authority.code : Authority → Nat
  | .openToAll => 0 | .remoteOnly => 1 | .attended => 2

/-- An authority by its code (11.2). -/
def authorityOf : Nat → Option Authority
  | 0 => some .openToAll | 1 => some .remoteOnly | 2 => some .attended | _ => none

/-- Display item codes (11.2). -/
def Item.code : Item → Nat
  | .shownSetpoint => 0 | .oilLamp => 1 | .faultLamp => 2

/-- A display item by its code (11.2). -/
def itemOf : Nat → Option Item
  | 0 => some .shownSetpoint | 1 => some .oilLamp | 2 => some .faultLamp | _ => none

/-- Load states in Table 2-2's order (R162). -/
def LoadState.code : LoadState → Nat
  | .ok => 0 | .openLoad => 1 | .tripped => 2 | .stuckOn => 3

/-- Judgements in Table 2-2's order (R162). -/
def Judgement.code : Judgement → Nat
  | .none => 0 | .below => 1 | .within => 2 | .above => 3

/-- Output modes: RUN 0 and STANDBY 1 (11.2), FAILSAFE after them (R19, R162). -/
def OutMode.code : OutMode → Nat
  | .run => 0 | .standby => 1 | .failsafe => 2

/-- Causes in R19's order (R162). -/
def ModeCause.code : ModeCause → Nat
  | .start => 0 | .resume => 1 | .silence => 2

/-- Temperature input states in R2's order (R162). -/
def TempState.code : TempState → Nat
  | .empty => 0 | .valid => 1 | .sensorFault => 2

/-- Sighted values in Table 3-8's order (R162). -/
def Sighted.code : Sighted → Nat
  | .awaiting => 0 | .sighted => 1 | .blind => 2

/-- Zone states in Table 3-8's order (R162). -/
def ZoneState.code : ZoneState → Nat
  | .idle => 0 | .opening => 1 | .opened => 2 | .hold => 3 | .closing => 4 | .fault => 5

/-- Zone fault causes in Table 3-8's order (R162). -/
def ZoneFault.code : ZoneFault → Nat
  | .none => 0 | .noOpen => 1 | .stuckOpen => 2 | .switchLost => 3 | .channel => 4

/-- Contact values in Table 3-8's order: absent, open, closed (R162). -/
def contactCode : Option Bool → Nat
  | none => 0 | some false => 1 | some true => 2

/-- Burner states: the normal ones as Table 8-4's "state left", the rest on in R62's order (R162). -/
def BurnState.code : BurnState → Nat
  | .idle => 0 | .inhibited => 1 | .called => 2 | .firing => 3 | .satisfied => 4 | .stopping => 5
  | .locked => 6 | .cooldown => 7 | .resetting => 8 | .held => 9 | .latched => 10

/-- A state left (Table 8-4), 0xFF for the start-up marking. -/
def leftCode : Option BurnState → Nat
  | none => 0xFF | some st => st.code

/-- Lockout causes (Table 8-4). -/
def LockCause.code : LockCause → Nat
  | .ignitionFail => 1 | .flameLoss => 2 | .unknown => 3 | .starvation => 4

/-- Reset origins (Table 8-4). -/
def Origin.code : Origin → Nat
  | .auto => 1 | .host => 2 | .localPress => 3 | .attended => 4 | .external => 5

/-- An origin that may be none, coded 0 then (Table 5-2, R162). -/
def originCode : Option Origin → Nat
  | none => 0 | some o => o.code

/-- Outcomes (Table 8-4). -/
def OutcomeKind.code : OutcomeKind → Nat
  | .recovered => 1 | .relock => 2 | .resetFailed => 3 | .abandoned => 4

/-- Latch reasons (Table 8-4). -/
def LatchReason.code : LatchReason → Nat
  | .starvation => 1 | .relock => 2

/-- A latch reason that may be none, coded 0 then (Table 5-2, R162). -/
def latchCode : Option LatchReason → Nat
  | none => 0 | some r => r.code

/-- HELD reasons in Table 5-2's order (R162). -/
def HeldReason.code : HeldReason → Nat
  | .awaitOrder => 0 | .budget => 1 | .store => 2

/-- Reset phases in Table 5-2's order (R162). -/
def ResetPhase.code : ResetPhase → Nat
  | .recording => 0 | .pulse => 1 | .check => 2

/-- LOCKED steps in Table 5-2's order (R162). -/
def LockStep.code : LockStep → Nat
  | .awaitRecord => 0 | .awaitMains => 1

/-- LOCKOUT answers in Table 5-2's order (R162). -/
def LockAnswer.code : LockAnswer → Nat
  | .none => 0 | .stored => 1 | .refused => 2

/-- Gauge fault causes in Table 6-1's order (R162). -/
def GaugeCause.code : GaugeCause → Nat
  | .none => 0 | .probe => 1 | .measure => 2

/-- Value statuses (Table 10-6). -/
def ValueStatus.code : ValueStatus → Nat
  | .good => 0 | .estimate => 1 | .restored => 2

/-- Awaiting-reference values in Table 7-2's order (R162). -/
def AwaitRef.code : AwaitRef → Nat
  | .none => 0 | .start => 1 | .table => 2

/-- Reply results (R161). -/
def ReplyResult.code : ReplyResult → Nat
  | .ok => 0 | .clamped => 1 | .taken => 2 | .busy => 3 | .refused => 4

/-- Reasons (Table 10-3). -/
def ReasonCode.code : ReasonCode → Nat
  | .none => 0 | .unknownKind => 1 | .badLength => 2 | .badValue => 3 | .order => 4
  | .keyRequired => 5 | .notNow => 6 | .bufferHeld => 7 | .nothingHeld => 8 | .queueFull => 9
  | .supply => 10 | .budget => 11 | .latched => 12 | .notLocked => 13 | .notAbortable => 14
  | .noTask => 15 | .noFollow => 16 | .recovered => 17 | .relock => 18 | .resetFailed => 19
  | .store => 20 | .proof => 21 | .abort => 22 | .missing => 23 | .check => 24 | .inactive => 25
  | .verifyFail => 26

/-- Task kinds (Table 10-4). -/
def TaskKind.code : TaskKind → Nat
  | .keep => 1 | .burnerReset => 2 | .selftest => 3 | .tableLoad => 4 | .historyRead => 5

/-- Task outcomes (Table 10-4). -/
def TaskOutcome.code : TaskOutcome → Nat
  | .done => 1 | .rejected => 2 | .timedOut => 3 | .aborted => 4

/-- Buffer states in R168's order (R162). -/
def BufferState.code : BufferState → Nat
  | .empty => 0 | .filled => 1 | .held => 2

/-- KEEP phases in Table 8-6's order, none while no KEEP is in progress (R162). -/
def KeepPhase.code : KeepPhase → Option Nat
  | .none => Option.none
  | .waiting => some 0 | .erasing => some 1 | .programming _ _ _ => some 2 | .verifying _ _ => some 3

/-- Array states in R143's order (R162). -/
def ArrayState.code : ArrayState → Nat
  | .free => 0 | .programming _ => 1 | .reading => 2 | .erasing _ _ => 3

/-- Rotation states in R144's order: none, deferred with its cause, in flight (R162); a started one whose
erase has not begun counts as in flight (DESIGN CHOICE, log entry 49). -/
def Rotation.code : Rotation → Nat
  | .none => 0 | .byGuard => 1 | .byHold => 2 | .byRead => 3
  | .carrying => 4 | .eraseDue => 4 | .erasing => 4

/-- The inhibit set as a bit mask in R63's order (R162). -/
def InhibitSet.mask (i : InhibitSet) : Nat :=
  (if i.fuelDry then 1 else 0) + (if i.pump then 2 else 0) + (if i.overheat then 4 else 0)
    + (if i.supply then 8 else 0) + (if i.antiCycle then 16 else 0) + (if i.noStart then 32 else 0)

/-! ## The stored record (Tables 8-2 and 8-3) -/

/-- The code of a record's kind (Table 8-3). -/
def Payload.kindCode : Payload → Nat
  | .lockout .. => 0x01 | .reset .. => 0x02 | .outcome .. => 0x03 | .latch .. => 0x04
  | .ack .. => 0x05 | .noStart .. => 0x11 | .gauge .. => 0x12 | .delivery .. => 0x13
  | .leak .. => 0x14 | .mains .. => 0x15 | .settingsKept .. => 0x16

/-- Whether a kind is safety-class (Table 8-3). -/
def Payload.safety : Payload → Bool
  | .lockout .. => true | .reset .. => true | .outcome .. => true | .latch .. => true
  | .ack .. => true
  | .noStart .. => false | .gauge .. => false | .delivery .. => false | .leak .. => false
  | .mains .. => false | .settingsKept .. => false

/-- The kind's fields from payload byte 0 (Table 8-3). -/
def Payload.fields : Payload → List Byte
  | .lockout c l g p => byte8 c.code ++ byte8 (leftCode l) ++ byte8 g.code ++ flag p
  | .reset o a b => byte8 o.code ++ flag a ++ byte8 b
  | .outcome k n o => byte8 k.code ++ byte8 n ++ byte8 (originCode o)
  | .latch r n => byte8 r.code ++ byte8 n
  | .ack r => byte8 r.code
  | .noStart w f g =>
    byte16 w ++ (match f with | none => byte16 0x8000 | some t => signed16 t) ++ byte8 g.code
  | .gauge v m r l => byte16 v ++ byte32 m ++ byte16 r ++ byte32 l
  | .delivery a b c => byte32 a ++ byte16 b ++ byte16 c
  | .leak s d => byte8 (if s then 1 else 2) ++ signed32 d
  | .mains n => byte32 n
  | .settingsKept w => byte16 w.toNat

/-- The 18 payload bytes: the fields, zeros after them, and the original sequence number of a carried
copy in bytes 14..17 (Table 8-2). -/
def Record.payloadBytes (r : Record) : List Byte :=
  r.payload.fields ++ List.replicate (14 - r.payload.fields.length) 0 ++ byte32 (r.orig.getD 0)

/-- The byte that makes a sum of bytes 0 mod 256 (Tables 8-2 and 10-1). -/
def checkByte (bs : List Byte) : Byte := BitVec.ofNat 8 (256 - (bs.map BitVec.toNat).sum % 256)

/-- The first 31 bytes of a stored record (Table 8-2). -/
def Record.body (r : Record) : List Byte :=
  byte32 r.seq
    ++ byte8 (r.payload.kindCode + (if r.orig.isSome then 0x80 else 0))
    ++ byte32 r.stamp
    ++ byte32 (r.wall.getD 0xFFFFFFFF)
    ++ r.payloadBytes

/-- The 32 bytes of a stored record (Table 8-2). -/
def Record.bytes (r : Record) : List Byte := r.body ++ [checkByte r.body]

/-- A frame with its envelope (Table 10-1). -/
def envelope (kind : Byte) (payload : List Byte) : List Byte :=
  let body := byte8 (payload.length + 1) ++ [kind] ++ payload
  0xC3 :: body ++ [checkByte body]

/-- The payload of a reply frame (R161). -/
def Reply.payload (r : Reply) : List Byte :=
  r.kind :: byte8 r.result.code ++ byte8 r.reason.code ++ r.data

/-- A reply frame, kind REPLY (Table 10-2, R161). -/
def Reply.frame (r : Reply) : List Byte := envelope 0x40 r.payload

/-- A notice frame, kind 0x80 plus the notice's code (Table 10-5). -/
def noticeFrame (n : Notice) (snapshot : List Byte) : List Byte :=
  envelope (BitVec.ofNat 8 (0x80 + n.code)) snapshot

end Sys2Proof.Machine
end

