-- ==== Sys2Proof/Machine/Params.lean ====
section
/-! DEFINITION. The parameter catalogue: addressing, widths, domains, protection and order (Table 11-1,
11.2, R177). -/

namespace Sys2Proof.Machine

/-- Items of Table 3-7, in row order. -/
inductive ZoneItem where
  | enabled | node | kind | comfort | economy | frost | hyst | travel | duty | failSafe
deriving DecidableEq, Repr

/-- Items of the CHANNEL group, in order (Table 11-1). -/
inductive ChannelItem where
  | failSafe | standby | minMA | maxMA
deriving DecidableEq, Repr

/-- Items of the BURNER group: Table 4-3, then Table 5-3. -/
inductive BurnerItem where
  | ignition | satisfied | minOff | overTemp | overMax | authority | budget | cooldown | prove
deriving DecidableEq, Repr

/-- Items of the TANK group (Table 6-2). -/
inductive TankItem where
  | zero | full | depth | coeff
deriving DecidableEq, Repr

/-- Items of the FUEL group (Table 7-1). -/
inductive FuelItem where
  | nozzle | period | leak | delivery | low | reserve | dry | wax
deriving DecidableEq, Repr

/-- A writable item of Table 11-1. -/
inductive Param where
  | silence
  | restart
  | sink
  | zone (z : Fin 6) (i : ZoneItem)
  | channel (ch : Fin 10) (i : ChannelItem)
  | burner (i : BurnerItem)
  | tank (i : TankItem)
  | fuel (i : FuelItem)
deriving DecidableEq, Repr

/-- Items by number, from 1 in row order (11.2). -/
def zoneItems : List ZoneItem :=
  [.enabled, .node, .kind, .comfort, .economy, .frost, .hyst, .travel, .duty, .failSafe]

/-- Items by number, from 1 in row order (11.2). -/
def channelItems : List ChannelItem := [.failSafe, .standby, .minMA, .maxMA]

/-- Items by number, from 1 in row order (11.2). -/
def burnerItems : List BurnerItem :=
  [.ignition, .satisfied, .minOff, .overTemp, .overMax, .authority, .budget, .cooldown, .prove]

/-- Items by number, from 1 in row order (11.2). -/
def tankItems : List TankItem := [.zero, .full, .depth, .coeff]

/-- Items by number, from 1 in row order (11.2). -/
def fuelItems : List FuelItem :=
  [.nozzle, .period, .leak, .delivery, .low, .reserve, .dry, .wax]

/-- The item numbered `t` of a list numbered from 1. -/
def itemNumbered {α : Type} (l : List α) (t : Nat) : Option α :=
  match t with
  | 0 => none
  | n + 1 => l[n]?

/-- A zone index 1..6. -/
def zoneOfIndex (i : Nat) : Option (Fin 6) :=
  if h : 1 ≤ i ∧ i ≤ 6 then some ⟨i - 1, by omega⟩ else none

/-- A channel index 0..9. -/
def channelOfIndex (i : Nat) : Option (Fin 10) :=
  if h : i < 10 then some ⟨i, h⟩ else none

/-- The writable item a triple names (Table 11-1). -/
def paramOf (group index item : Nat) : Option Param :=
  match group with
  | 1 =>
    if index = 0 then (match item with | 1 => some .silence | 2 => some .restart | _ => none)
    else none
  | 2 =>
    if index = 0 then (if item = 1 then some .sink else none)
    else match zoneOfIndex index, itemNumbered zoneItems item with
      | some z, some i => some (.zone z i)
      | _, _ => none
  | 3 =>
    match channelOfIndex index, itemNumbered channelItems item with
    | some ch, some i => some (.channel ch i)
    | _, _ => none
  | 4 => if index = 0 then (itemNumbered burnerItems item).map .burner else none
  | 5 => if index = 0 then (itemNumbered tankItems item).map .tank else none
  | 6 => if index = 0 then (itemNumbered fuelItems item).map .fuel else none
  | _ => none

/-- What values an item admits: so many enumeration codes, a range of numbers, or the leak threshold's
0 and 5..200 (Tables 3-7, 2-2, 4-3, 5-3, 6-2, 7-1). -/
inductive Domain where
  | codes (n : Nat)
  | range (lo hi : Int)
  | leakThreshold
deriving DecidableEq, Repr

/-- The domain of each item. The restart item's one value is 1 and is checked apart (R177). -/
def Param.domain : Param → Domain
  | .silence => .range 10 600
  | .restart => .codes 256
  | .sink => .range 1 6
  | .zone _ .enabled => .codes 2
  | .zone _ .node => .range 0 15
  | .zone _ .kind => .codes 3
  | .zone _ .comfort => .range 50 300
  | .zone _ .economy => .range 50 300
  | .zone _ .frost => .range 30 150
  | .zone _ .hyst => .range 2 20
  | .zone _ .travel => .range 10 120
  | .zone _ .duty => .range 0 100
  | .zone _ .failSafe => .codes 4
  | .channel _ .failSafe => .codes 3
  | .channel _ .standby => .codes 3
  | .channel _ .minMA => .range 0 1990
  | .channel _ .maxMA => .range 10 2000
  | .burner .ignition => .range 20 180
  | .burner .satisfied => .range 300 900
  | .burner .minOff => .range 0 900
  | .burner .overTemp => .range 300 800
  | .burner .overMax => .range 60 1800
  | .burner .authority => .codes 3
  | .burner .budget => .range 0 3
  | .burner .cooldown => .range 1 30
  | .burner .prove => .range 60 600
  | .tank .zero => .range 0 4095
  | .tank .full => .range 0 4095
  | .tank .depth => .range 100 4000
  | .tank .coeff => .range 0 1500
  | .fuel .nozzle => .range 1000 12000
  | .fuel .period => .range 1 24
  | .fuel .leak => .leakThreshold
  | .fuel .delivery => .range 50 1000
  | .fuel .low => .range 20 6000
  | .fuel .reserve => .range 20 6000
  | .fuel .dry => .range 20 6000
  | .fuel .wax => .range (-10) 10

/-- Two bytes wide: the range does not fit in 0..255 (11.2). -/
def Param.wide (p : Param) : Bool :=
  match p.domain with
  | .codes _ => false
  | .leakThreshold => false
  | .range lo hi => decide (255 < hi ∨ lo < 0)

/-- Signed in two's complement: the range has negative values (11.2). -/
def Param.isSigned (p : Param) : Bool :=
  match p.domain with
  | .range lo _ => decide (lo < 0)
  | _ => false

/-- Width of an item's value in bytes (11.2). -/
def Param.width (p : Param) : Nat := if p.wide then 2 else 1

/-- The value bytes of an item's value (11.2). -/
def Param.encode (p : Param) (v : Int) : List Byte :=
  if p.wide then signed16 v else signed8 v

/-- The value a SET payload's bytes name for the item, when their number is the item's width (R163). -/
def Param.decode (p : Param) : List Byte → Option Int
  | [a] => if p.wide then none else some (num8 a : Int)
  | [a, b] =>
    if p.wide then some (if p.isSigned then int16 a b else (num16 a b : Int)) else none
  | _ => none

/-- Protected by SERVICE_KEY (Table 11-1). -/
def Param.keyed : Param → Bool
  | .silence => false
  | .restart => true
  | .sink => false
  | .zone _ _ => false
  | .channel ch _ => decide (ch.val ≤ 1)
  | .burner _ => true
  | .tank _ => true
  | .fuel .nozzle => true
  | .fuel _ => false

/-- An item's value in a working set; the restart item reads 0 (R176). -/
def Param.value (w : Settings) : Param → Int
  | .silence => w.silence
  | .restart => 0
  | .sink => w.sink.val + 1
  | .zone z .enabled => if (w.zones[z]).enabled then 1 else 0
  | .zone z .node => (w.zones[z]).node
  | .zone z .kind => NodeKind.code (w.zones[z]).kind
  | .zone z .comfort => (w.zones[z]).comfort
  | .zone z .economy => (w.zones[z]).economy
  | .zone z .frost => (w.zones[z]).frost
  | .zone z .hyst => (w.zones[z]).hyst
  | .zone z .travel => (w.zones[z]).travel
  | .zone z .duty => (w.zones[z]).duty
  | .zone z .failSafe => HeatMode.code (w.zones[z]).failSafe
  | .channel ch .failSafe => Pattern.code (w.channels[ch]).failSafe
  | .channel ch .standby => Pattern.code (w.channels[ch]).standby
  | .channel ch .minMA => (w.channels[ch]).minMA
  | .channel ch .maxMA => (w.channels[ch]).maxMA
  | .burner .ignition => w.ignition
  | .burner .satisfied => w.satisfied
  | .burner .minOff => w.minOff
  | .burner .overTemp => w.overTemp
  | .burner .overMax => w.overMax
  | .burner .authority => Authority.code w.authority
  | .burner .budget => w.budget
  | .burner .cooldown => w.cooldown
  | .burner .prove => w.prove
  | .tank .zero => w.zeroCount
  | .tank .full => w.fullCount
  | .tank .depth => w.fullDepth
  | .tank .coeff => w.coeff
  | .fuel .nozzle => w.nozzle
  | .fuel .period => w.period
  | .fuel .leak => w.leak
  | .fuel .delivery => w.delivery
  | .fuel .low => w.low
  | .fuel .reserve => w.reserve
  | .fuel .dry => w.dry
  | .fuel .wax => w.wax

/-- A zone's settings with one item changed to a value of its domain. -/
def ZoneItem.store (p : ZoneSettings) (v : Nat) : ZoneItem → ZoneSettings
  | .enabled => { p with enabled := v == 1 }
  | .node => { p with node := v }
  | .kind => { p with kind := (nodeKindOf v).getD p.kind }
  | .comfort => { p with comfort := v }
  | .economy => { p with economy := v }
  | .frost => { p with frost := v }
  | .hyst => { p with hyst := v }
  | .travel => { p with travel := v }
  | .duty => { p with duty := v }
  | .failSafe => { p with failSafe := (heatModeOf v).getD p.failSafe }

/-- A channel's settings with one item changed to a value of its domain. -/
def ChannelItem.store (p : ChannelSettings) (v : Nat) : ChannelItem → ChannelSettings
  | .failSafe => { p with failSafe := (patternOf v).getD p.failSafe }
  | .standby => { p with standby := (patternOf v).getD p.standby }
  | .minMA => { p with minMA := v }
  | .maxMA => { p with maxMA := v }

/-- A sink zone by its number 1..6. -/
def sinkOf (w : Settings) (v : Nat) : Fin 6 := (zoneOfIndex v).getD w.sink

/-- A working set with one item changed to a value of its domain (R177 step 6). -/
def Param.store (w : Settings) (v : Int) : Param → Settings
  | .silence => { w with silence := v.toNat }
  | .restart => w
  | .sink => { w with sink := sinkOf w v.toNat }
  | .zone z i => { w with zones := w.zones.set z (i.store w.zones[z] v.toNat) }
  | .channel ch i => { w with channels := w.channels.set ch (i.store w.channels[ch] v.toNat) }
  | .burner .ignition => { w with ignition := v.toNat }
  | .burner .satisfied => { w with satisfied := v.toNat }
  | .burner .minOff => { w with minOff := v.toNat }
  | .burner .overTemp => { w with overTemp := v.toNat }
  | .burner .overMax => { w with overMax := v.toNat }
  | .burner .authority => { w with authority := (authorityOf v.toNat).getD w.authority }
  | .burner .budget => { w with budget := v.toNat }
  | .burner .cooldown => { w with cooldown := v.toNat }
  | .burner .prove => { w with prove := v.toNat }
  | .tank .zero => { w with zeroCount := v.toNat }
  | .tank .full => { w with fullCount := v.toNat }
  | .tank .depth => { w with fullDepth := v.toNat }
  | .tank .coeff => { w with coeff := v.toNat }
  | .fuel .nozzle => { w with nozzle := v.toNat }
  | .fuel .period => { w with period := v.toNat }
  | .fuel .leak => { w with leak := v.toNat }
  | .fuel .delivery => { w with delivery := v.toNat }
  | .fuel .low => { w with low := v.toNat }
  | .fuel .reserve => { w with reserve := v.toNat }
  | .fuel .dry => { w with dry := v.toNat }
  | .fuel .wax => { w with wax := v }

/-- Step 3: an enumeration code outside its list, a pattern R21 forbids, or a restart value other than
1 is refused (R177). -/
def Param.codeOk (v : Int) : Param → Bool
  | .restart => v == 1
  | .channel ch .failSafe => decide (v < 3) && (ch != 0 || v != 1) && (ch != 1 || v == 0)
  | .channel ch .standby => decide (v < 3) && (ch != 0 || v != 1) && (ch != 1 || v == 0)
  | p => match p.domain with
    | .codes n => decide (v < n)
    | _ => true

/-- Step 4: a number outside its range goes to the nearer limit; leak thresholds 1..4 go to 5 (R177). -/
def Param.clamp (v : Int) (p : Param) : Int :=
  match p.domain with
  | .codes _ => v
  | .range lo hi => clampInt lo hi v
  | .leakThreshold => if v = 0 then 0 else clampInt 5 200 v

/-- Enabled zones name each node address at most once (R37). -/
def bindingsOk (w : Settings) : Bool :=
  allZones.all fun z => allZones.all fun y =>
    y == z || !(w.zones[z]).enabled || !(w.zones[y]).enabled || (w.zones[z]).node == 0
      || (w.zones[z]).node != (w.zones[y]).node

/-- Step 5: the order checks that the item's value bears on, in the working set as it would be (R177,
R37, R58). -/
def Param.orderOk (w : Settings) : Param → Bool
  | .tank .zero => decide (w.zeroCount + 100 ≤ w.fullCount)
  | .tank .full => decide (w.zeroCount + 100 ≤ w.fullCount)
  | .channel ch .minMA => decide ((w.channels[ch]).minMA + 10 ≤ (w.channels[ch]).maxMA)
  | .channel ch .maxMA => decide ((w.channels[ch]).minMA + 10 ≤ (w.channels[ch]).maxMA)
  | .fuel .low => decide (w.reserve < w.low ∧ w.dry < w.reserve)
  | .fuel .reserve => decide (w.reserve < w.low ∧ w.dry < w.reserve)
  | .fuel .dry => decide (w.reserve < w.low ∧ w.dry < w.reserve)
  | .zone z .comfort =>
    decide ((w.zones[z]).economy ≤ (w.zones[z]).comfort ∧ (w.zones[z]).frost ≤ (w.zones[z]).economy)
  | .zone z .economy =>
    decide ((w.zones[z]).economy ≤ (w.zones[z]).comfort ∧ (w.zones[z]).frost ≤ (w.zones[z]).economy)
  | .zone z .frost =>
    decide ((w.zones[z]).economy ≤ (w.zones[z]).comfort ∧ (w.zones[z]).frost ≤ (w.zones[z]).economy)
  | .zone _ .node => bindingsOk w
  | .zone z .enabled => bindingsOk w && ((w.zones[z]).enabled || w.sink != z)
  | .sink => (w.zones[w.sink]).enabled
  | _ => true

/-- Every item of the catalogue that holds a value, in Table 11-1's order; the restart item, which reads 0,
takes no place (R175, R176; DESIGN CHOICE, log entry 67). -/
def allParams : List Param :=
  [.silence]
    ++ allZones.flatMap (fun z => zoneItems.map (Param.zone z))
    ++ [.sink]
    ++ allChannels.flatMap (fun ch => channelItems.map (Param.channel ch))
    ++ burnerItems.map Param.burner ++ tankItems.map Param.tank ++ fuelItems.map Param.fuel

/-- What the stored image holds, as a list of numbers: every parameter of Table 11-1 and the working
strapping table with its point count (R175). -/
def imageValues (w : Settings) : List Int :=
  allParams.map (fun p => p.value w) ++ [(w.table.length : Int)]
    ++ w.table.flatMap (fun q => [(q.depth : Int), (q.volume : Int)])

/-- The check word of an image of these settings (R148, R175). -/
def checkWordOf (w : Settings) : Word16 := Config.checkWord (imageValues w)

end Sys2Proof.Machine
end

