-- ==== Sys2Proof/Machine/RecordStore.lean ====
section
/-! DEFINITION. STORE's shared operations: the record area, the append queue, the array, rotation,
KEEP's phases and HISTORY_READ's reading (Chapter 8). -/

namespace Sys2Proof.Machine

/-! ## The record area (R139, R140) -/

/-- Slots of a sector (R139). -/
def slotsPerSector : Nat := 64

/-- Slots not yet programmed. -/
def Sector.room (x : Sector) : Nat := slotsPerSector - x.slots.length

/-- The sector after this one round the ring (R139). -/
def sectorAfter (i : Fin 4) : Fin 4 := i + 1

/-- The four sectors in order. -/
def allSectors : List (Fin 4) := [0, 1, 2, 3]

/-- The original sequence number: a copy's from its payload, otherwise the record's own (R145, R150). -/
def Record.origin (r : Record) : Nat := r.orig.getD r.seq

/-- Whether a sector's mark is VALID. -/
def Sector.isValid (x : Sector) : Bool :=
  match x.mark with
  | .valid _ => true
  | _ => false

/-- The first sequence number of a VALID sector. -/
def Sector.firstSeq (x : Sector) : Option Nat :=
  match x.mark with
  | .valid n => some n
  | _ => none

/-- The good records of the slots from the position numbered `n`: a slot whose stored sequence number
disagrees with its position is a bad record (R140, R150). -/
def goodsFrom (n : Nat) : List Slot → List Record
  | [] => []
  | .good r :: rest => if r.seq = n then r :: goodsFrom (n + 1) rest else goodsFrom (n + 1) rest
  | .bad :: rest => goodsFrom (n + 1) rest

/-- The good records of a VALID sector, in slot order (R140). -/
def Sector.goods (x : Sector) : List Record :=
  match x.firstSeq with
  | some n => goodsFrom n x.slots
  | none => []

/-- The VALID sector with the highest first sequence number (R139). -/
def headOf (v : Vector Sector 4) : Option (Fin 4) :=
  allSectors.foldl
    (fun best i =>
      match v[i].firstSeq, best with
      | none, b => b
      | some _, none => some i
      | some n, some b => if (v[b].firstSeq).getD 0 < n then some i else some b)
    none

/-- Insert a record into a list ascending by sequence number. -/
def insertSeq (r : Record) : List Record → List Record
  | [] => [r]
  | x :: rest => if r.seq ≤ x.seq then r :: x :: rest else x :: insertSeq r rest

/-- The good records of the VALID sectors, ascending by sequence number: those HISTORY_READ can
deliver (R144, R146). -/
def Store.available (st : Store) : List Record :=
  (allSectors.flatMap fun i => st.sectors[i].goods).foldr insertSeq []

/-- Insert a record into a list ascending by original sequence; of equal ones the one with the lower
sequence number, the original, stands and the other is passed over (R150 step 4); so too of two copies with
the original gone (DESIGN CHOICE, log entry 77). -/
def insertOrigin (r : Record) : List Record → List Record
  | [] => [r]
  | x :: rest =>
    if r.origin < x.origin then r :: x :: rest
    else if r.origin = x.origin then (if r.seq < x.seq then r else x) :: rest
    else x :: insertOrigin r rest

/-- The good records in order by original sequence (R150 step 4). -/
def Store.history (st : Store) : List Record := st.available.foldr insertOrigin []

/-! ## What the history shows (R102, R145, R151) -/

/-- The newest record that satisfies `p`. -/
def newest (p : Record → Bool) (h : List Record) : Option Record := (h.filter p).getLast?

/-- The records newer than `r` by original sequence. -/
def newerThan (r : Record) (h : List Record) : List Record :=
  h.filter fun x => decide (r.origin < x.origin)

/-- A LOCKOUT record. -/
def Record.isLockout (r : Record) : Bool := match r.payload with | .lockout .. => true | _ => false
/-- A RESET record. -/
def Record.isReset (r : Record) : Bool := match r.payload with | .reset .. => true | _ => false
/-- An OUTCOME record. -/
def Record.isOutcome (r : Record) : Bool := match r.payload with | .outcome .. => true | _ => false
/-- A LATCH record. -/
def Record.isLatch (r : Record) : Bool := match r.payload with | .latch .. => true | _ => false
/-- An ACK record. -/
def Record.isAck (r : Record) : Bool := match r.payload with | .ack .. => true | _ => false
/-- A GAUGE record. -/
def Record.isGauge (r : Record) : Bool := match r.payload with | .gauge .. => true | _ => false
/-- A DELIVERY record. -/
def Record.isDelivery (r : Record) : Bool := match r.payload with | .delivery .. => true | _ => false
/-- A LEAK record. -/
def Record.isLeak (r : Record) : Bool := match r.payload with | .leak .. => true | _ => false
/-- An OUTCOME RECOVERED record. -/
def Record.isRecovered (r : Record) : Bool :=
  match r.payload with | .outcome .recovered _ _ => true | _ => false
/-- An OUTCOME RELOCK or RESET_FAILED record. -/
def Record.isFailure (r : Record) : Bool :=
  match r.payload with
  | .outcome .relock _ _ => true
  | .outcome .resetFailed _ _ => true
  | _ => false
/-- A LOCKOUT record with cause STARVATION_SUSPECT. -/
def Record.isStarvation (r : Record) : Bool :=
  match r.payload with | .lockout .starvation _ _ _ => true | _ => false
/-- A LEAK record with event SUSPECT. -/
def Record.isSuspect (r : Record) : Bool :=
  match r.payload with | .leak true _ => true | _ => false

/-- `r` as a list, when no record of `stop` follows it. -/
def standing (stop : Record → Bool) (h : List Record) (r : Record) : List Record :=
  if (newerThan r h).any stop then [] else [r]

/-- The newest record of a kind, unless one of `stop` follows it. -/
def newestUnless (p stop : Record → Bool) (h : List Record) : List Record :=
  match newest p h with
  | some r => standing stop h r
  | none => []

/-- The RELOCK and RESET_FAILED outcomes newer than the newest RECOVERED and the newest ACK (R102, R145). -/
def failuresSince (h : List Record) : List Record :=
  match newest (fun r => r.isRecovered || r.isAck) h with
  | none => h.filter Record.isFailure
  | some r => (newerThan r h).filter Record.isFailure

/-- The records a rotation carries forward, over the whole store (R145). -/
def liveRecords (h : List Record) : List Record :=
  let live :=
    newestUnless Record.isLatch Record.isAck h
      ++ (newestUnless Record.isLockout (fun r => r.isReset || r.isAck) h).filter Record.isStarvation
      ++ newestUnless Record.isReset Record.isOutcome h
      ++ failuresSince h
      ++ newestUnless Record.isGauge (fun _ => false) h
      ++ (newestUnless Record.isLeak Record.isDelivery h).filter Record.isSuspect
  h.filter fun r => decide (r ∈ live)

/-! ## Where the next record goes (R142) -/

/-- The place of the next program: the head's next slot, a sector to open, the end of an erase, or none. -/
inductive Place where
  | inHead | opens (i : Fin 4) | waitErase | noRoom
deriving DecidableEq, Repr

/-- The sector of a rotation erase in flight or suspended (R144). -/
def Store.erasing (st : Store) : Option (Fin 4) :=
  match st.array, st.suspended with
  | .erasing (.sector i) _, _ => some i
  | _, some (.sector i, _) => some i
  | _, _ => none

/-- Where the next record goes (R140, R142). -/
def Store.place (st : Store) : Place :=
  match st.head with
  | none => .opens 0
  | some h =>
    if 0 < st.sectors[h].room then .inHead
    else if st.sectors[sectorAfter h].mark = .erased then .opens (sectorAfter h)
    else if st.erasing = some (sectorAfter h) then .waitErase
    else .noRoom

/-- The head's free slots. -/
def Store.headRoom (st : Store) : Nat :=
  match st.head with
  | some h => st.sectors[h].room
  | none => 0

/-- A rotation that is needed and deferred (R144). -/
def Rotation.deferred : Rotation → Bool
  | .byGuard => true | .byHold => true | .byRead => true
  | .none => false | .carrying => false | .eraseDue => false | .erasing => false

/-- One more dropped record: the count stops at its maximum, and the flag is set there too (R141; DESIGN
CHOICE, log entry 64). -/
def Store.drop (st : Store) : Store :=
  { st with dropped := min (st.dropped + 1) 65535, droppedFlag := true }

/-! ## Joining the append queue (R141) -/

/-- The most entries the append queue holds (R141). -/
def appendQueueMost : Nat := 4

/-- The entry at the front is in flight (R141). -/
def Store.frontInFlight (st : Store) : Bool :=
  match st.array with
  | .programming (.append _ _) => true
  | _ => false

/-- Remove the newest ordinary entry of a list, if it has one. -/
def dropNewestOrdinary : List QueueEntry → Option (List QueueEntry)
  | [] => none
  | e :: rest =>
    match dropNewestOrdinary rest with
    | some kept => some (e :: kept)
    | none => if e.payload.safety then none else some rest

/-- The queue without its newest ordinary entry whose program is not in flight (Table 8-5). -/
def Store.displace (st : Store) : Option (List QueueEntry) :=
  if st.frontInFlight then
    match st.queue with
    | [] => none
    | e :: rest => (dropNewestOrdinary rest).map (e :: ·)
  else dropNewestOrdinary st.queue

/-- An answer waits for BURN: STORED with the record's sequence number and run stamp, or STORE_FULL (R141,
R142). -/
def Store.answerTo (tag : Option Tag) (p : Payload) (stored : Option (Nat × Nat)) (st : Store) : Store :=
  match tag with
  | some t => { st with answers := st.answers ++ [⟨t, p, stored⟩] }
  | none => st

/-- An append joins the queue, or is dropped or refused (Table 8-5). -/
def Store.join (p : Payload) (tag : Option Tag) (st : Store) : Store :=
  if st.queue.length < appendQueueMost then { st with queue := st.queue ++ [⟨p, tag⟩] }
  else if p.safety then
    match st.displace with
    | some q => { st.drop with queue := q ++ [⟨p, tag⟩] }
    | none => st.answerTo tag p none
  else st.drop

/-! ## Rotation (R144, R145) -/

/-- The head has 8 free slots or fewer and the sector after it is not ERASED (R144). -/
def Store.rotationNeeded (st : Store) : Bool :=
  match st.head with
  | none => false
  | some h => decide (st.sectors[h].room ≤ 8) && decide (st.sectors[sectorAfter h].mark ≠ .erased)

/-- A started rotation, its erase included, is under way. -/
def Rotation.started : Rotation → Bool
  | .carrying => true | .eraseDue => true | .erasing => true
  | .none => false | .byGuard => false | .byHold => false | .byRead => false

/-- The rotation is deferred, or a started one is set back before its erase has begun (R144; log entry 49). -/
def Store.rotationDeferred (st : Store) : Bool :=
  st.rotation.deferred || (st.rotation.started && st.setBack.isSome)

/-- The guard's length in run minutes (R144). -/
def guardMinutes : Nat := 1440

/-- Minutes until the guard over a sector ends: what its youngest safety-class record still needs (R144). -/
def guardLeft (now : Nat) (x : Sector) : Nat :=
  (x.goods.filter fun r => r.payload.safety).foldl
    (fun m r => max m (guardMinutes - (now - r.stamp))) 0

/-- The tail: the sector a needed rotation would erase (R144). -/
def Store.tail (st : Store) : Option (Fin 4) := st.head.map sectorAfter

/-- What keeps a started rotation's erase from beginning, by R144's cases for a rotation that is not in
flight: the hold, or a reading (log entry 49), the hold first (log entry 72). -/
def Store.whySetBack (hold : Bool) (st : Store) : Option Rotation :=
  if st.rotation = .erasing then none
  else if hold then some .byHold
  else if st.reading.isSome then some .byRead
  else none

/-- STORE looks at rotation (R144): of several causes that defer it the guard is taken before the hold and the
hold before the reading (DESIGN CHOICE, log entry 72). A rotation that starts lists the tail's live records at
once, as the store stands then (R145; DESIGN CHOICE, log entry 65). -/
def Store.lookRotation (hold : Bool) (st : Store) : Store :=
  if st.rotation.started then { st with setBack := st.whySetBack hold }
  else if st.rotationNeeded then
    match st.tail with
    | none => st
    | some t =>
      if 0 < guardLeft st.runMinute st.sectors[t] then { st with rotation := .byGuard }
      else if hold then { st with rotation := .byHold }
      else if st.reading.isSome then { st with rotation := .byRead }
      else
        { st with
          rotation := .carrying
          carryWork := st.carryWork
            ++ (liveRecords st.history).filter fun r => decide (r ∈ st.sectors[t].goods) }
  else { st with rotation := .none }

/-! ## Starting operations (R142, R143) -/

/-- The wall stamp of a record (R138). -/
def Store.wallStamp (st : Store) : Option Nat := if st.wallSet then some st.wall else none

/-- The program of an append (R142). -/
def Store.programOf (e : QueueEntry) (opens : Option (Fin 4)) (st : Store) : Store :=
  { st with
    array := .programming (.append
      { seq := st.nextSeq, payload := e.payload, stamp := st.runMinute, wall := st.wallStamp,
        orig := none } opens) }

/-- The program of a carried copy: payload and stamps kept (R145). -/
def Store.carryOf (r : Record) (opens : Option (Fin 4)) (st : Store) : Store :=
  { st with array := .programming (.carry { r with seq := st.nextSeq, orig := some r.origin } opens) }

/-- The oldest append when the array takes it (R142); none while it waits for an erase, or with the
queue empty. -/
def Store.serveAppend (st : Store) : Option Store :=
  match st.queue with
  | [] => none
  | e :: rest =>
    match st.place with
    | .inHead =>
      if st.rotationDeferred && decide (st.headRoom ≤ 4) && !e.payload.safety then
        some ({ st with queue := rest }).drop
      else some (st.programOf e none)
    | .opens i => some (st.programOf e (some i))
    | .waitErase => none
    | .noRoom =>
      if e.payload.safety then some (({ st with queue := rest }).answerTo e.tag e.payload none)
      else some ({ st with queue := rest }).drop

/-- Carry work when the array takes it: the next copy is programmed, or the copies that find no slot
go to the carry list; a started rotation with no copy left makes its erase due (R145). Copies go into the
head's last 4 free slots too, of whatever class (R142; DESIGN CHOICE, log entry 66). -/
def Store.serveCarry (st : Store) : Option Store :=
  match st.carryWork with
  | r :: _ =>
    match st.place with
    | .inHead => some (st.carryOf r none)
    | .opens i => some (st.carryOf r (some i))
    | _ => some { st with carryWork := [], carryList := st.carryList ++ st.carryWork }
  | [] =>
    match st.rotation, st.tail with
    | .carrying, some t =>
      some { st with rotation := .eraseDue, eraseDue := st.eraseDue ++ [.sector t] }
    | _, _ => none

/-- The next block of a KEEP image (R148). -/
def Store.serveKeep (st : Store) : Option Store :=
  match st.keep with
  | .programming _ n _ => some { st with array := .programming (.keepBlock n) }
  | _ => none

/-- The suspended erase resumes (R143). -/
def Store.serveSuspended (st : Store) : Option Store :=
  match st.suspended with
  | some (e, ms) => some { st with array := .erasing e ms, suspended := none }
  | none => none

/-- Erase time of a sector in milliseconds (R143). -/
def eraseMs : Nat := 300

/-- The order in which a free array takes what waits, but for reads and due erases (R143). -/
def Store.serveInner (st : Store) : Option Store :=
  match st.serveCarry with
  | some t => some t
  | none =>
    match st.serveAppend with
    | some t => some t
    | none =>
      match st.serveKeep with
      | some t => some t
      | none => st.serveSuspended

/-- A due erase starts: a rotation erase marks its sector RETIRING; KEEP's ends the stored image
(R144, R148, R175). No erase starts in SUPPLY_HOLD (R143). -/
def startErase (s : State) : Option State :=
  if s.supply.hold then none
  else
    match s.store.eraseDue with
    | [] => none
    | .sector i :: rest =>
      some (s.onStore fun st =>
        { st with
          eraseDue := rest
          array := .erasing (.sector i) eraseMs
          rotation := .erasing
          setBack := none
          sectors := st.sectors.set i { st.sectors[i] with mark := .retiring } })
    | .settings :: rest =>
      some ((s.onStore fun st =>
          { st with
            eraseDue := rest
            array := .erasing .settings eraseMs
            keep := .erasing
            settings := .invalid }).onSett fun b => { b with imageState := none })

/-! ## HISTORY_READ's reading (R146, R147) -/

/-- The most records the buffer holds after its header (R146). -/
def historyMost : Nat := 15

/-- The first record of a task and its deliverable count, fixed when it is taken (R146); `start` is
none for NEWEST. NEWEST with no record stored starts at the next sequence, so that a record whose program is in
flight is delivered (DESIGN CHOICE, log entry 74). -/
def Store.fixRead (start : Option Nat) (count : Nat) (st : Store) : ReadTask :=
  let a := st.available
  let n := min count historyMost
  match start with
  | none =>
    match a[a.length - n]? with
    | some r => { first := r.seq, count := n }
    | none => { first := st.nextSeq, count := n }
  | some q =>
    match a.find? (fun r => decide (q ≤ r.seq)) with
    | some r => { first := r.seq, count := n }
    | none => { first := st.nextSeq, count := 0 }

/-- The records a reading delivers (R146). -/
def Store.delivered (t : ReadTask) (st : Store) : List Record :=
  (st.available.filter fun r => decide (t.first ≤ r.seq)).take t.count

/-- The sequence number in the result's header: the first record's, or the next sequence (R146). -/
def Store.headerSeq (t : ReadTask) (st : Store) : Nat :=
  match st.delivered t with
  | r :: _ => r.seq
  | [] => st.nextSeq

/-- The distance from the oldest available record back to the first delivered, 0 when none is stored
(R146; log entry 36 for a result without records). -/
def Store.headerDistance (t : ReadTask) (st : Store) : Nat :=
  match st.available with
  | r :: _ => st.headerSeq t - r.seq
  | [] => 0

/-- The result: its 8-byte header and the records (R146). -/
def Store.readResult (t : ReadTask) (st : Store) : List Byte :=
  byte32 (st.headerSeq t) ++ byte16 (st.delivered t).length ++ byte16 (st.headerDistance t)
    ++ ((st.delivered t).map Record.bytes).flatten

/-- The reading ends: DONE with the result in an EMPTY buffer, else REJECTED BUFFER_HELD; a rotation
deferred by the reading is looked at again (R147). -/
def endReading (t : ReadTask) (s : State) : State :=
  let content := s.store.readResult t
  let u := s.onStore fun st => { st with reading := none }
  let v :=
    if s.link.buffer = .empty then endTask .done .none content.length (fillBuffer content u)
    else endTask .rejected .bufferHeld 0 u
  v.onStore (Store.lookRotation s.supply.hold)

/-! ## The array (R143) -/

/-- The array is FREE. -/
def Store.isFree (st : Store) : Bool :=
  match st.array with
  | .free => true
  | _ => false

/-- The first waiting request of a free array, in R143's order; none when nothing waits. -/
def serveOnce (s : State) : Option State :=
  match s.store.reading with
  | some t => some (endReading t s)
  | none =>
    match s.store.serveInner with
    | some st => some (s.onStore fun _ => st)
    | none => startErase s

/-- A free array takes what waits until it is busy or nothing waits (R143). -/
def serve : Nat → State → State
  | 0, s => s
  | n + 1, s =>
    if s.store.isFree then
      match serveOnce s with
      | some t => serve n t
      | none => s
    else s

/-- Enough turns for every request that can wait: a read, the end of carrying, four appends that find
no room, and the operation that makes the array busy. -/
def serveTurns : Nat := 16

/-- A read or an append that can take the array waits (R143). -/
def Store.interrupts (st : Store) : Bool :=
  st.reading.isSome || !st.carryWork.isEmpty
    || (!st.queue.isEmpty && decide (st.place ≠ .waitErase))

/-- A request arrives, or the array becomes FREE: an erase in flight gives way to a read or an append,
and a free array takes what waits (R143). -/
def kick (s : State) : State :=
  match s.store.array with
  | .free => serve serveTurns s
  | .erasing e ms =>
    if s.store.interrupts then
      serve serveTurns (s.onStore fun st => { st with array := .free, suspended := some (e, ms) })
    else s
  | _ => s

/-- A block asks STORE to append a record (R141). -/
def appendRecord (p : Payload) (tag : Option Tag) (s : State) : State :=
  kick (s.onStore (Store.join p tag))

/-- STORE looks at rotation and takes what waits (R144). -/
def lookAtRotation (s : State) : State := kick (s.onStore (Store.lookRotation s.supply.hold))

/-! ## Completions -/

/-- A programmed slot takes its place; the next sequence moves on whatever the outcome (R140). -/
def Store.writeSlot (slot : Slot) (opens : Option (Fin 4)) (st : Store) : Store :=
  match opens, st.head with
  | some i, _ =>
    { st with
      sectors := st.sectors.set i { mark := .valid st.nextSeq, slots := [slot] }
      head := some i, nextSeq := st.nextSeq + 1 }
  | none, some h =>
    { st with
      sectors := st.sectors.set h { st.sectors[h] with slots := st.sectors[h].slots ++ [slot] }
      nextSeq := st.nextSeq + 1 }
  | none, none => st

/-- The slot a program leaves: its record, or bytes that fail their check (R140, R142). -/
def slotOf (good : Bool) (r : Record) : Slot := if good then .good r else .bad

/-- The completion of an append: the entry leaves the queue and its appender is told STORED (R142). -/
def Store.appendDone (good : Bool) (r : Record) (opens : Option (Fin 4)) (st : Store) : Store :=
  let t := { st.writeSlot (slotOf good r) opens with queue := st.queue.tail, array := .free }
  match st.queue with
  | e :: _ => t.answerTo e.tag e.payload (some (r.seq, r.stamp))
  | [] => t

/-- The completion of a carried copy's program (R145); a bad one is not carried again (DESIGN CHOICE, log
entry 73). -/
def Store.carryDone (good : Bool) (r : Record) (opens : Option (Fin 4)) (st : Store) : Store :=
  { st.writeSlot (slotOf good r) opens with carryWork := st.carryWork.tail, array := .free }

/-- Blocks of a KEEP image (R148). -/
def keepBlocks : Nat := 64

/-- The end of VERIFYING (R148, R175). -/
def keepVerified (image : Settings) (good : Bool) (s : State) : State :=
  let t := s.onStore fun st => { st with keep := .none }
  if good then
    let check := checkWordOf image
    let u := (t.onStore fun st => { st with settings := .image image }).onSett fun b =>
      { b with imageState := some check, defaulted := false }
    let v := if s.sett.defaulted then postNotice .settings u else u
    appendRecord (.settingsKept check) none (endTask .done .none 0 v)
  else
    kick (endTask .rejected .verifyFail 0 (t.onSett fun b => { b with changed := true }))

/-- The completion of one block of KEEP's image (R148). -/
def keepBlockDone (good : Bool) (s : State) : State :=
  let t := s.onStore fun st => { st with array := .free }
  match s.store.keep with
  | .programming image n ok =>
    if n + 1 < keepBlocks then
      kick (t.onStore fun st =>
        ({ st with keep := .programming image (n + 1) (ok && good) }).lookRotation s.supply.hold)
    else keepVerified image (ok && good) (t.onStore (Store.lookRotation s.supply.hold))
  | _ => kick t

/-- A program completes (R140, R142, R145, R148). -/
def programDone (good : Bool) (s : State) : State :=
  match s.store.array with
  | .programming (.append r opens) =>
    lookAtRotation (s.onStore (Store.appendDone good r opens))
  | .programming (.carry r opens) =>
    lookAtRotation (s.onStore (Store.carryDone good r opens))
  | .programming (.keepBlock _) => keepBlockDone good s
  | _ => s

/-- A sector's erase completes: it is ERASED, and the carry list is to be programmed (R144, R145). -/
def Store.sectorErased (i : Fin 4) (st : Store) : Store :=
  { st with
    array := .free
    sectors := st.sectors.set i Sector.blank
    rotation := .none
    setBack := none
    carryWork := st.carryWork ++ st.carryList
    carryList := [] }

/-- The settings sector's erase completes: KEEP takes its image (R148, R175). -/
def settingsErased (s : State) : State :=
  (s.onStore fun st =>
      { st with array := .free, keep := .programming s.par 0 true }).onSett fun b =>
    { b with changed := false }

/-- The erase in flight completes, outside the start-up scan (R143, R144, R148). -/
def eraseDone (s : State) : State :=
  match s.store.array with
  | .erasing (.sector i) _ => kick (s.onStore (Store.sectorErased i))
  | .erasing .settings _ => kick (settingsErased s)
  | _ => s

/-! ## A reset and the start-up scan (R142, R144, R149, R150) -/

/-- The slot or header a program cut short leaves: a partial record; a header that was being written
is torn or complete, which the manual leaves open (log entry 19). -/
def Store.cutProgram (tears : Bool) (opens : Option (Fin 4)) (st : Store) : Store :=
  match opens, st.head with
  | some i, _ =>
    if tears then { st with sectors := st.sectors.set i { mark := .torn, slots := [] } }
    else { st with sectors := st.sectors.set i { mark := .valid st.nextSeq, slots := [.bad] } }
  | none, some h =>
    { st with sectors := st.sectors.set h { st.sectors[h] with slots := st.sectors[h].slots ++ [.bad] } }
  | none, none => st

/-- What a reset leaves in the array: the program in flight is cut short, an erased sector stays
RETIRING, and a KEEP past WAITING leaves no valid image (R142, R149, R150). -/
def cutArray (s : State) : State :=
  let tears := Config.cutTearsHeader s.free
  match s.store.array with
  | .programming (.append _ (some i)) => (s.onStore (Store.cutProgram tears (some i))).drawFree
  | .programming (.carry _ (some i)) => (s.onStore (Store.cutProgram tears (some i))).drawFree
  | .programming (.append _ none) => s.onStore (Store.cutProgram false none)
  | .programming (.carry _ none) => s.onStore (Store.cutProgram false none)
  | _ => s

/-- Two first sequence numbers a multiple of 64 apart (R139). -/
def inStep (n m : Nat) : Bool := n % slotsPerSector == m % slotsPerSector

/-- A VALID mark whose sequence number is in step with none of the other VALID sectors', when there are
others, is torn (R139; DEDUCED, log entry 42). -/
def Store.outOfStep (st : Store) (i : Fin 4) : Bool :=
  match st.sectors[i].firstSeq with
  | none => false
  | some n =>
    let others := (allSectors.filter fun j => decide (j ≠ i)).filterMap fun j => st.sectors[j].firstSeq
    !others.isEmpty && !others.any (inStep n)

/-- A sector the scan erases again: RETIRING or torn (R150 step 1). -/
def Store.erasesAgain (st : Store) (i : Fin 4) : Bool :=
  match st.sectors[i].mark with
  | .retiring => true | .torn => true
  | .erased => false | .valid _ => st.outOfStep i

/-- The sectors the scan erases again (R150 step 1), sector 0 first (DESIGN CHOICE, log entry 82). -/
def Store.toErase (st : Store) : List (Fin 4) := allSectors.filter st.erasesAgain

/-- The bad records of the VALID sectors: the programmed slots that hold no good one (R150 step 2). -/
def Store.countBad (st : Store) : Nat :=
  (allSectors.map fun i =>
    if st.sectors[i].isValid then st.sectors[i].slots.length - st.sectors[i].goods.length else 0).sum

/-- Steps 2 and 3 of the scan: bad records, the head and the next sequence (R150). -/
def Store.scanRecords (st : Store) : Store :=
  let h := headOf st.sectors
  { st with
    head := h
    nextSeq := match h with
      | some i => (st.sectors[i].firstSeq).getD 0 + st.sectors[i].slots.length
      | none => 0
    badRecords := st.countBad }

/-- Step 1 of the scan: the first sector to erase again has its erase in flight (R150), its mark left as it is
until the erase is over (DESIGN CHOICE, log entry 76). -/
def Store.startScan (st : Store) : Store :=
  match st.toErase with
  | [] => ({ st with reErased := 0, reErase := [] }).scanRecords
  | i :: rest => { st with reErased := 0, reErase := i :: rest, array := .erasing (.sector i) eraseMs }

/-- An erase of the scan completes: the next one starts, or the scan goes on to the records (R150). -/
def Store.scanErased (st : Store) : Store :=
  match st.reErase with
  | [] => st
  | i :: rest =>
    let t := { st with
      sectors := st.sectors.set i Sector.blank, reErased := st.reErased + 1, reErase := rest,
      array := .free }
    match rest with
    | [] => t.scanRecords
    | j :: _ => { t with array := .erasing (.sector j) eraseMs }

/-- STORE's volatile state at the beginning of either start; what stands in the record area, the
settings sector, the counter and the clock stays (R137, R138, R151). -/
def Store.restartState (st : Store) : Store :=
  { Store.first with
    runMinute := st.runMinute, minutesSet := st.minutesSet, timebase := st.timebase,
    wall := st.wall, wallSet := st.wallSet, sectors := st.sectors, settings := st.settings }

/-- The counter's value after POWER_ON: the highest run stamp found plus one, or 0 (R137). -/
def Store.countFrom (st : Store) : Nat :=
  match st.available with
  | [] => 0
  | r :: rest => min (rest.foldl (fun m x => max m x.stamp) r.stamp + 1) 4294967295

end Sys2Proof.Machine
end

