-- ==== Sys2Proof/Machine/FuelAccount.lean ====
section
/-! DEFINITION. FUEL's shared operations: the meter, values, the account, deliveries, stages, line heat
and the trend (Chapter 7). -/

namespace Sys2Proof.Machine

/-! ## The meter (R123, R124) -/

/-- The millilitres a posting of `sec` seconds adds, and the remainder it leaves (R123). -/
def meterStep (q r sec : Nat) : Nat × Nat := ((r + sec * q) / 3600, (r + sec * q) % 3600)

/-- FUEL takes a posting of `sec` seconds of firing, and hands GAUGE the millilitres (R112, R123). -/
def fuelMeters (sec : Nat) (s : State) : State :=
  let ml := (meterStep s.par.nozzle s.fuel.remainder sec).1
  (s.onFuel fun f =>
      { f with
        meter := addStop f.meter ml
        remainder := (meterStep s.par.nozzle f.remainder sec).2
        lifetime := addWrap f.lifetime ml
        hourMeter := min (f.hourMeter + ml) 65535
        hourFiring := min (f.hourFiring + sec) 65535 }).onGauge fun g =>
    { g with metered := addStop g.metered ml }

/-! ## Stages (R131, R132) -/

/-- The fuel stage becomes `g`; a change is posted to BURN, ZONE and LOOP with its notice (R132). -/
def setStage (g : FuelStage) (s : State) : State :=
  if g = s.fuel.stage then s
  else postNotice .fuelStage (postStage g (s.onFuel fun f => { f with stage := g }))

/-- FUEL computes the stage from a volume (R131). -/
def computeStage (v : Nat) (s : State) : State := setStage (stageFrom s.par s.fuel.stage v) s

/-! ## The period and the reference (R125, R126) -/

/-- Restart the reconciliation period (R126). -/
def restartPeriod (s : State) : State :=
  s.onFuel fun f =>
    { f with periodTimer := 60 * s.par.period, deferred := false, ungauged := s.gauge.fault }

/-- The reference becomes `v`, marked GOOD and stamped now; the meter starts again (R125, R127, R130). -/
def setReference (v : Nat) (s : State) : State :=
  s.onFuel fun f =>
    { f with reference := v, refStamp := s.now, refGood := true, meter := 0 }

/-- Rebase: a new reference, nothing awaited, the period restarted (R125). -/
def rebase (v : Nat) (s : State) : State :=
  restartPeriod ((setReference v s).onFuel fun f => { f with awaiting := .none })

/-- An ungauged period end (R126). -/
def ungaugedEnd (s : State) : State := restartPeriod (s.onFuel fun f => { f with lastD := none })

/-- A deferred period end is taken as an ungauged one (R130). -/
def takeDeferred (s : State) : State := if s.fuel.deferred then ungaugedEnd s else s

/-! ## Deliveries (R129, R130) -/

/-- The volume at which a rise counts as a delivery (R129). -/
def State.deliveryBound (s : State) : Nat := s.fuel.reference + 10 * s.par.delivery

/-- Settling begins at a value (R129). -/
def startSettling (v : Nat) (s : State) : State :=
  s.onFuel fun f => { f with settling := some ⟨0, v, 0⟩ }

/-- Settling ends without a delivery: a RESTORED reference is awaited again (R130). -/
def dropSettling (s : State) : State :=
  takeDeferred (s.onFuel fun f =>
    { f with
      settling := none
      awaiting := if f.awaiting = .none ∧ !f.refGood then .start else f.awaiting })

/-- LEAK_SUSPECT is cleared, with its notice when it stood (R128). -/
def clearLeakFlag (s : State) : State :=
  if s.fuel.leakFlag then postNotice .leakSuspect (s.onFuel fun f => { f with leakFlag := false })
  else s

/-- A delivery is confirmed (R130). -/
def confirmDelivery (final : Nat) (s : State) : State :=
  let before := s.fuel.reference
  let amount := final - before + s.fuel.meter / 100
  let t := appendRecord (.delivery amount before final) none
    (s.onFuel fun f => { f with settling := none })
  let u := clearLeakFlag ((setReference final t).onFuel fun f => { f with leakCount := 0 })
  let v := setStage (plainStage u.par final) u
  takeDeferred (postNotice .delivery (v.onFuel fun f =>
    { f with lastDelivery := some ⟨amount, before, final, s.now⟩ }))

/-- Settling finishes with a final value (R130). -/
def finishSettling (final : Nat) (s : State) : State :=
  if s.deliveryBound ≤ final then confirmDelivery final s else dropSettling s

/-- Two volumes lie within 50 dl (R129). -/
def isSteady (a b : Nat) : Bool := decide (a ≤ b + 50) && decide (b ≤ a + 50)

/-- A GOOD value is counted toward settling (R129). -/
def settleValue (v : Nat) (x : Settling) (s : State) : State :=
  let steady := if isSteady v x.previous then x.steady + 1 else 0
  let t := s.onFuel fun f => { f with settling := some { x with steady := steady, previous := v } }
  if 10 ≤ steady then finishSettling v t else t

/-! ## GAUGE's values and events (R125) -/

/-- Stage 3: FUEL acts on a GOOD value (R125). -/
def actOnGood (v : Nat) (s : State) : State :=
  match s.fuel.awaiting with
  | .table => rebase v s
  | .start =>
    if s.deliveryBound ≤ v then startSettling v (s.onFuel fun f => { f with awaiting := .none })
    else rebase v s
  | .none =>
    match s.fuel.settling with
    | some x => settleValue v x s
    | none => if s.deliveryBound ≤ v then startSettling v s else s

/-- FUEL takes an offered value (R125). -/
def fuelTakesValue (v : Nat) (st : ValueStatus) (s : State) : State :=
  let t := computeStage v (s.onFuel fun f => { f with value := v, status := st })
  if st = .good then actOnGood v t else t

/-- FUEL is told of an entry into GAUGE_FAULT (R125). -/
def fuelFaultEntered (s : State) : State :=
  let t := s.onFuel fun f => { f with ungauged := true }
  if t.fuel.settling.isSome then dropSettling t else t

/-- FUEL is told of a table replacement (R125). -/
def fuelTableReplaced (s : State) : State :=
  let t := s.onFuel fun f => { f with awaiting := .table }
  if t.fuel.settling.isSome then dropSettling t else t

/-! ## Reconciliation (R126 to R128) -/

/-- LEAK_SUSPECT is raised (R128). -/
def raiseLeak (d : Int) (s : State) : State :=
  postNotice .leakSuspect
    (appendRecord (.leak true d) none (s.onFuel fun f => { f with leakFlag := true, leakCount := 0 }))

/-- The unexplained loss of a gauged period (R127). -/
def State.unexplained (s : State) : Int :=
  ((s.fuel.reference : Int) - s.fuel.value) * 100 - s.fuel.meter

/-- D is stored and judged (R127). -/
def judgeLoss (s : State) : State :=
  let d := s.unexplained
  let t := s.onFuel fun f => { f with lastD := some d }
  if s.par.leak = 0 ∨ d ≤ 1000 * s.par.leak then t.onFuel fun f => { f with leakCount := 0 }
  else if s.fuel.leakCount = 0 then t.onFuel fun f => { f with leakCount := 1 }
  else raiseLeak d t

/-- A gauged period end (R127). -/
def reconcile (s : State) : State :=
  let t := judgeLoss s
  let u := appendRecord (.gauge t.fuel.value t.fuel.meter t.fuel.reference t.fuel.lifetime) none t
  restartPeriod (setReference s.fuel.value u)

/-- A period end with settling off is gauged (R126). -/
def Fuel.endGauged (f : Fuel) : Bool :=
  !f.ungauged && f.awaiting == .none && f.refGood && f.status == .good

/-- The period ends (R126). -/
def periodEnds (s : State) : State :=
  if s.fuel.settling.isSome then s.onFuel fun f => { f with deferred := true }
  else if s.fuel.endGauged then reconcile s
  else ungaugedEnd s

/-! ## Line heat (R133), the trend (R134) and the run minute -/

/-- The line-heat demand an offer of the tank temperature gives (R133). -/
def lineHeatOf (held : Bool) (wax : Int) (state : TempState) (t : Option Int) : Bool :=
  match state, t with
  | .valid, some v => if v ≤ 10 * wax then true else if 10 * (wax + 2) ≤ v then false else held
  | _, _ => held

/-- FUEL takes an offer of the tank temperature (R133). -/
def evaluateLineHeat (s : State) : State :=
  let r := s.scan.tankTemp
  let new := lineHeatOf s.fuel.lineHeat s.par.wax r.state (r.reading.map Prod.snd)
  if new = s.fuel.lineHeat then s
  else postDemand 3 new (s.onFuel fun f => { f with lineHeat := new })

/-- The most entries the trend ring holds (R134). -/
def trendMost : Nat := 48

/-- A new entry joins the ring (R134). -/
def pushTrend (ring : List TrendEntry) (e : TrendEntry) : List TrendEntry :=
  if trendMost ≤ ring.length then ring.tail ++ [e] else ring ++ [e]

/-- A trend entry is made (R134). -/
def addTrendEntry (s : State) : State :=
  s.onFuel fun f =>
    { f with
      trend := pushTrend f.trend ⟨s.now, f.value, f.status, f.hourMeter, f.hourFiring⟩
      hourMeter := 0, hourFiring := 0, trendTimer := 60 }

/-- FUEL at a run minute: the period timer, the settling minutes and the trend timer (R126, R129, R134). -/
def Fuel.minute (f : Fuel) : Fuel :=
  { f with
    periodTimer := countDown f.periodTimer
    settling := f.settling.map fun x => { x with minutes := min (x.minutes + 1) 60 }
    trendTimer := countDown f.trendTimer }

/-! ## Start-up (R135) -/

/-- What the newest GAUGE record gives: V15, run stamp and lifetime total, zeros without one. -/
def restoredGauge (h : List Record) : Nat × Nat × Nat :=
  match newest Record.isGauge h with
  | some r =>
    match r.payload with
    | .gauge v _ _ l => (v, r.stamp, l)
    | _ => (0, 0, 0)
  | none => (0, 0, 0)

/-- The leak flag the history gives (R135). -/
def restoredLeak (h : List Record) : Bool :=
  ((newestUnless Record.isLeak Record.isDelivery h).filter Record.isSuspect).length != 0

/-- FUEL's account after a start, with its stage posted and no notice (R135), none of LEAK_SUSPECT for a flag so
restored either (R128; DESIGN CHOICE, log entry 71). -/
def restoreFuel (s : State) : State :=
  let h := s.store.history
  let (v, stamp, life) := restoredGauge h
  postStage (plainStage s.par v)
    (s.onFuel fun f =>
      { f with
        value := v, status := .restored, reference := v, refStamp := stamp, refGood := false,
        awaiting := .start, lifetime := life, leakFlag := restoredLeak h,
        stage := plainStage s.par v })

end Sys2Proof.Machine
end

