-- ==== Sys2Proof/Machine/Burner.lean ====
section
/-! DEFINITION. BURN's shared operations in the normal states: the state and its CH0 demand, calling,
withdrawing, the inhibit set, overrun, RUNAWAY and firing time (Chapter 4). -/

namespace Sys2Proof.Machine

/-! ## The state and the CH0 demand (R62) -/

/-- The prove timer's load and stop at entries into and leavings of FIRING (R92). -/
def proveTimerAt (prove : Nat) (pending : Bool) (old new : BurnState) (t : Timer) : Timer :=
  if new = .firing then (if old = .firing then t else if pending then secondsTimer prove else none)
  else none

/-- The burner state becomes `st`; a change of the CH0 demand is posted to OUT (R62, R92). -/
def burnTo (st : BurnState) (s : State) : State :=
  let t := s.onBurn fun b =>
    { b with
      state := st
      stoppingLeft := b.stoppingLeft && (st == .idle || st == .inhibited)
      proveTimer := proveTimerAt s.par.prove b.proofPending b.state st b.proveTimer }
  if s.burn.state.calling = st.calling then t else postDemand 0 st.calling t

/-! ## Overrun (R74) -/

/-- A running overrun becomes STOPPED, and ZONE is told (R74). -/
def stopOverrun (s : State) : State :=
  if s.burn.overrun then
    postOverrun false (s.onBurn fun b => { b with overrun := false, overrunTimer := none })
  else s

/-- The overrun becomes RUNNING with its full time; ZONE is told of a change (R74). -/
def runOverrun (s : State) : State :=
  let t := s.onBurn fun b =>
    { b with overrun := true, overrunTimer := secondsTimer s.par.overMax }
  if s.burn.overrun then t else postOverrun true t

/-- A known flow below the overrun temperature (R74). -/
def State.flowCool (s : State) : Bool :=
  match s.flowKnown with
  | some t => decide (t < (s.par.overTemp : Int))
  | none => false

/-- The overrun is asked to start (R74). -/
def askOverrun (s : State) : State := if s.flowCool then stopOverrun s else runOverrun s

/-! ## Calling (R67, R68) -/

/-- The call conditions (R67). -/
def Burn.callConditions (b : Burn) : Bool := b.heat && b.inhibit.isEmpty && b.pump

/-- FIRING in a call: the fired-in-call mark set and the window timer stopped (R68, R70). -/
def enterFiring (s : State) : State :=
  (burnTo .firing s).onBurn fun b => { b with firedInCall := true, ignitionTimer := none }

/-- Entry into CALLED; with the oil valve already open, on to FIRING at once (R67; log entry 15). -/
def enterCalled (s : State) : State :=
  let t := stopOverrun ((burnTo .called s).onBurn fun b =>
    { b with firedInCall := false, ignitionTimer := secondsTimer s.par.ignition })
  if t.valveOpen then enterFiring t else t

/-- In IDLE, the call conditions are looked at (R67). -/
def lookCall (s : State) : State := if s.burn.callConditions then enterCalled s else s

/-- Entry into IDLE, or into INHIBITED when the set is non-empty (R63, R67, R72). -/
def goIdle (s : State) : State :=
  if s.burn.inhibit.isEmpty then lookCall (burnTo .idle s) else burnTo .inhibited s

/-! ## Withdrawing (R66, R71) -/

/-- Seconds of the stop timer (R71). -/
def stopSeconds : Nat := 10

/-- ANTI_CYCLE is added with its timer; a minimum off time of 0 adds nothing (R66). -/
def addAntiCycle (s : State) : State :=
  if s.par.minOff = 0 then s
  else s.onBurn fun b =>
    { b with inhibit := b.inhibit.put true .antiCycle, antiCycle := secondsTimer s.par.minOff }

/-- What follows a released call in which the valve opened (R66, R71, R72). -/
def afterFiring (s : State) : State := askOverrun (addAntiCycle s)

/-- The call is withdrawn (R71); with the valve low STOPPING is left at once, and an edge that came together
with the withdrawal finds it still (R68, R75; log entry 47). The ignition window timer, which acts in
CALLED alone, is stopped (DESIGN CHOICE, log entry 53). -/
def withdraw (s : State) : State :=
  let t := (burnTo .stopping s).onBurn fun b =>
    { b with ignitionTimer := none, stopTimer := secondsTimer stopSeconds }
  let u := if s.burn.firedInCall then afterFiring t else t
  if u.valveOpen then u
  else (goIdle (u.onBurn fun b => { b with stopTimer := none })).onBurn fun b =>
    { b with stoppingLeft := true }

/-- An edge of a sense line that comes together with the withdrawal that left STOPPING finds STOPPING, its
stop timer still to run in full (R68, R72, R75; log entry 47). -/
def findStopping (s : State) : State :=
  if s.burn.stoppingLeft ∧ (s.burn.state = .idle ∨ s.burn.state = .inhibited) then
    (burnTo .stopping s).onBurn fun b => { b with stopTimer := secondsTimer stopSeconds }
  else s

/-- Time has passed since the withdrawal: no edge comes together with it any more (log entry 47). -/
def endTogether (s : State) : State := s.onBurn fun b => { b with stoppingLeft := false }

/-! ## The inhibit set (R63) -/

/-- A reason is added to the inhibit set (R63). -/
def addReason (r : Reason) (s : State) : State :=
  if s.burn.inhibit.has r then s
  else
    let t := s.onBurn fun b => { b with inhibit := b.inhibit.put true r }
    match s.burn.state with
    | .idle => burnTo .inhibited t
    | .called => withdraw t
    | .firing => withdraw t
    | .satisfied => withdraw t
    | _ => t

/-- A reason is removed from the inhibit set (R63). -/
def removeReason (r : Reason) (s : State) : State :=
  if s.burn.inhibit.has r then
    let t := s.onBurn fun b => { b with inhibit := b.inhibit.put false r }
    if s.burn.state = .inhibited ∧ t.burn.inhibit.isEmpty then goIdle t else t
  else s

/-- A reason is added when `v`, removed otherwise. -/
def setReason (r : Reason) (v : Bool) (s : State) : State :=
  if v then addReason r s else removeReason r s

/-- BURN evaluates OVERHEAT (R65). -/
def evaluateOverheat (s : State) : State :=
  match s.flowKnown with
  | none => s
  | some t =>
    if 950 ≤ t then addReason .overheat s
    else if t < 850 then removeReason .overheat s
    else s

/-- BURN takes an offer of the flow temperature: OVERHEAT, and the overrun's end (R65, R74). -/
def burnTakesFlow (s : State) : State :=
  let t := evaluateOverheat s
  if t.flowCool then stopOverrun t else t

/-- BURN takes a posted fuel stage (R64). -/
def burnTakesStage (g : FuelStage) (s : State) : State :=
  setReason .fuelDry (g == .dry) (s.onBurn fun b => { b with stage := g })

/-- BURN takes a change of the heat request (R67, R71). -/
def burnTakesHeat (v : Bool) (s : State) : State :=
  if v = s.burn.heat then s
  else
    let t := s.onBurn fun b => { b with heat := v }
    if v then (if t.burn.state = .idle then lookCall t else t)
    else
      let u := if t.burn.state.calling then withdraw t else t
      postOverrun u.burn.overrun u

/-- BURN takes a change of pump proven (R67, R71). -/
def burnTakesPump (v : Bool) (s : State) : State :=
  if v = s.burn.pump then s
  else
    let t := s.onBurn fun b => { b with pump := v }
    if v then (if t.burn.state = .idle then lookCall t else t)
    else if t.burn.state.calling then withdraw t else t

/-! ## RUNAWAY (R73) and call uncontrolled -/

/-- The RUNAWAY flag becomes `v`; a change posts the LOCKOUT notice (R73). -/
def setRunaway (v : Bool) (s : State) : State :=
  if s.burn.runaway = v then s
  else postNotice .lockout (s.onBurn fun b => { b with runaway := v })

/-- RUNAWAY for an open oil valve in IDLE or INHIBITED (R73, R80). -/
def runawayIfIdle (s : State) : State :=
  if s.burn.state = .idle ∨ s.burn.state = .inhibited then setRunaway true s else s

/-! ## Firing time (R77, R78) -/

/-- A posting: the whole seconds of the accumulator go to FUEL, the remainder stays (R77). -/
def postFiring (s : State) : State :=
  let sec := s.burn.accMs / 1000
  let t := s.onBurn fun b =>
    { b with accMs := b.accMs % 1000, totalSeconds := addWrap b.totalSeconds sec }
  if sec = 0 then t else fuelMeters sec t

/-- The accumulator runs, or is stopped (R77). -/
def runAccumulator (v : Bool) (s : State) : State := s.onBurn fun b => { b with accRunning := v }

/-- The accumulator gains: it runs, and VALVE_SENSE is high (R77, R80). -/
def Burn.gaining (valveOpen : Bool) (b : Burn) : Bool := b.accRunning && valveOpen

/-- A start is counted (R78). -/
def countStart (s : State) : State := s.onBurn fun b => { b with starts := addWrap b.starts 1 }

/-- The largest value of the accumulator, in ms (R77). -/
def accumulatorFullMs : Nat := 60000

/-! ## The oil valve's edges (R68, R70, R72, R73) -/

/-- BURN takes a rise of VALVE_SENSE by the state it finds. -/
def valveRiseIn (s : State) : State :=
  match s.burn.state with
  | .called => countStart (enterFiring s)
  | .satisfied => countStart (enterFiring s)
  | .stopping =>
    let t := countStart s
    if t.burn.firedInCall then t
    else afterFiring (t.onBurn fun b => { b with firedInCall := true })
  | .idle => setRunaway true s
  | .inhibited => setRunaway true s
  | _ => s

/-- BURN takes a rise of VALVE_SENSE (R68, R70, R72, R73). -/
def burnValveRise (s : State) : State := valveRiseIn (findStopping s)

/-- BURN takes a fall of VALVE_SENSE by its state. -/
def burnValveFall (s : State) : State :=
  match s.burn.state with
  | .firing => burnTo .satisfied s
  | .stopping => goIdle (s.onBurn fun b => { b with stopTimer := none })
  | _ => s

/-- An edge of a mains-sense input of the burner: ignored in SUPPLY_HOLD (R80). -/
def outsideHold (f : State → State) (s : State) : State := if s.burnHold then s else f s

/-- BURN takes a rise of VALVE_SENSE: the accumulator runs from it (R68, R70, R72, R73, R77). -/
def valveRises (s : State) : State := burnValveRise (runAccumulator true s)

/-- BURN takes a fall of VALVE_SENSE: RUNAWAY cleared, firing time posted, then the state's rule (R70,
R72, R73, R77). -/
def valveFalls (s : State) : State :=
  burnValveFall (postFiring (runAccumulator false (setRunaway false s)))

/-! ## NO_START (R69) -/

/-- Seconds of the NO_START inhibit (R66). -/
def noStartSeconds : Nat := 600

/-- A call ends NO_START (R69). Its record holds the ignition window of the working set at the expiry, also
when the setting changed while the window ran (DESIGN CHOICE, log entry 54). -/
def endNoStart (s : State) : State :=
  let flow := s.flowKnown
  let t := withdraw (s.onBurn fun b =>
    { b with
      inhibit := b.inhibit.put true .noStart, noStart := secondsTimer noStartSeconds,
      lastNoStart := some (s.now, flow) })
  postNotice .noStart (appendRecord (.noStart s.par.ignition flow s.burn.stage) none t)

/-- The ignition window runs out in CALLED (R68). -/
def windowExpires (s : State) : State :=
  match s.flowKnown with
  | some t =>
    if (s.par.satisfied : Int) ≤ t then
      (burnTo .satisfied s).onBurn fun b => { b with ignitionTimer := none }
    else endNoStart s
  | none => endNoStart s

end Sys2Proof.Machine
end

