-- ==== Sys2Proof/Decode.lean ====
section
/-! DEFINITION. The command that a word spells, and what makes a frame's bytes a frame. The WB6 is
commanded by edges, timers and frames; the table gives none of its rows any bits, so that no word spells a
command. -/

namespace Sys2Proof

/-- The largest payload of a frame: L is at most 121 and counts the kind (Table 10-1, R159). -/
def maxPayload : Nat := 120

/-- The largest length byte (R159). -/
def maxLength : Nat := 121

/-- A frame that the receiver abandons by its bytes after the start byte: a length of 0 or above 121, which
ends it there, or L further bytes and a checksum whose sum from the length on is not 0 mod 256 (R159). -/
def frameFails : List Byte → Bool
  | [] => false
  | l :: rest =>
    if l.toNat = 0 ∨ maxLength < l.toNat then rest.isEmpty
    else decide (rest.length = l.toNat + 1)
      && decide ((l.toNat + (rest.map BitVec.toNat).sum) % 256 ≠ 0)

/-- The command a word of `nbits` bits spells: none, since no row of the table has bits. -/
def decodeTableWord (_nbits _w : Nat) : Option Instr := none

end Sys2Proof
end

