-- ==== Sys2Proof/Machine/Requests.lean ====
section
/-! DEFINITION. How LINK takes a valid request frame: the silence timer, the overrun, the reply owed
and its sending (R159 to R163, R165). -/

namespace Sys2Proof.Machine

/-- The outcome of a command. -/
abbrev Result := Host.Outcome State Fault Refusal

/-- A reply of result `r` to a request of kind `kind` (R161). -/
def replyOf (kind : Byte) (r : ReplyResult) (why : ReasonCode) (data : List Byte) : Reply :=
  { kind := kind, result := r, reason := why, data := data, releases := false, restarts := false }

/-- OK with data (R161). -/
def replyOk (kind : Byte) (data : List Byte) : Reply := replyOf kind .ok .none data

/-- CLAMPED with the stored value (R161). -/
def replyClamped (kind : Byte) (data : List Byte) : Reply := replyOf kind .clamped .none data

/-- REFUSED with a reason and no data (R161). -/
def replyRefused (kind : Byte) (why : ReasonCode) : Reply := replyOf kind .refused why []

/-- BUSY, no data (R161). -/
def replyBusy (kind : Byte) : Reply := replyOf kind .busy .none []

/-- TAKEN with the serial of the task just started (R161, R166). -/
def replyTaken (kind : Byte) (s : State) : Reply := replyOf kind .taken .none (byte16 s.link.serial)

/-- A request answered without any effect of its own. -/
def answer (r : Reply) (s : State) : State × Reply := (s, r)

/-- With TXD free, the owed reply begins to leave it (R165). -/
def beginReply (s : State) : State :=
  match s.link.tx, s.link.owed with
  | .free, some _ => s.onLink fun l => { l with tx := .reply }
  | _, _ => s

/-- LINK takes a valid frame: the silence timer restarts and the receiver is hunting again; with a reply
owed the frame is discarded and LINK_OVERRUN set; else the owning block takes the request and the reply it
forms becomes owed (R159, R160, R163). -/
def takeFrame (body : State → State × Reply) (s : State) : State :=
  let t := s.onLink fun l =>
    { l with silence := secondsTimer s.par.silence, receiver := .hunting }
  if t.link.owed.isSome then t.onLink fun l => { l with overrun := true }
  else beginReply ((body t).1.onLink fun l => { l with owed := some (body t).2 })

/-- The receiver is hunting again (R159). -/
def hunt (s : State) : State := s.onLink fun l => { l with receiver := .hunting }

/-- A frame with this payload arrives whole: discarded during start-up (R152); a payload that no length
byte up to 121 can announce is abandoned silently (R159); else the frame is taken. -/
def request (payload : List Byte) (body : List Byte → State → State × Reply) (s : State) : State :=
  if s.running then (if payload.length ≤ maxPayload then takeFrame (body payload) s else hunt s)
  else s

/-- A request that starts a task is answered BUSY while the slot holds one (R163). -/
def unlessBusy (kind : Byte) (body : State → State × Reply) (s : State) : State × Reply :=
  if s.link.slot.isSome then answer (replyBusy kind) s else body s

/-- A request that would fill the buffer is refused while it is HELD or FILLED (R163, R168). -/
def unlessHeld (kind : Byte) (body : State → State × Reply) (s : State) : State × Reply :=
  if s.link.buffer = .empty then body s else answer (replyRefused kind .bufferHeld) s

end Sys2Proof.Machine
end

