-- ==== Sys2Proof/Machine/StatLoop.lean ====
section
/-! DEFINITION. LOOP's shared operations: the write queue, the slots and the bindings (Chapter 3). -/

namespace Sys2Proof.Machine

/-- The index of a node address 1..15 (R37). -/
def nodeOfAddress (a : Nat) : Option (Fin 15) :=
  if h : 1 ≤ a ∧ a ≤ 15 then some ⟨a - 1, by omega⟩ else none

/-- The node a zone's settings bind (R37). -/
def boundNode (p : ZoneSettings) : Option (Fin 15) :=
  if p.enabled then nodeOfAddress p.node else none

/-- The zone that binds a node under settings `p`, if any (R37). -/
def zoneBinding (p : Settings) (n : Fin 15) : Option (Fin 6) :=
  allZones.find? fun z => boundNode p.zones[z] == some n

/-! ## The write queue (R41) -/

/-- An entry for the same node and item. -/
def WriteEntry.sameAs (n : Fin 15) (i : Item) (e : WriteEntry) : Bool := e.node == n && e.item == i

/-- The most entries the write queue holds (R41). -/
def writeQueueMost : Nat := 8

/-- A write merges into the entry for its node and item, or joins at the newest end, or finds the
queue full (R41). -/
def queueWrite (n : Fin 15) (i : Item) (v : Nat) (q : List WriteEntry) : Option (List WriteEntry) :=
  if q.any (WriteEntry.sameAs n i) then
    some (q.map fun e =>
      if e.sameAs n i then { e with value := v, failedOnce := false, merged := e.inSlot } else e)
  else if q.length < writeQueueMost then
    some (q ++ [{ node := n, item := i, value := v, failedOnce := false, inSlot := false,
                  merged := false }])
  else none

/-- An item joins the node's stale items (R44). -/
def Node.markStale (i : Item) (r : Node) : Node :=
  match i with
  | .oilLamp => { r with staleOil := true }
  | .shownSetpoint => { r with staleSet := true }
  | .faultLamp => { r with staleFault := true }

/-- An item leaves the node's stale items (R44). -/
def Node.clearStale (i : Item) (r : Node) : Node :=
  match i with
  | .oilLamp => { r with staleOil := false }
  | .shownSetpoint => { r with staleSet := false }
  | .faultLamp => { r with staleFault := false }

/-- Whether an item is stale at the node. -/
def Node.isStale (i : Item) (r : Node) : Bool :=
  match i with
  | .oilLamp => r.staleOil
  | .shownSetpoint => r.staleSet
  | .faultLamp => r.staleFault

/-- The part's own display write: merged or joined, or the item marked stale (R44). -/
def internalWrite (n : Fin 15) (i : Item) (v : Nat) (s : State) : State :=
  match queueWrite n i v s.loop.queue with
  | some q => s.onLoop fun l => { l with queue := q }
  | none => s.onNode n (Node.markStale i)

/-- A shown setpoint's value, NONE as 0xFFFF (11.2). -/
def setpointValue : Option Nat → Nat
  | none => 0xFFFF | some t => t

/-- The value an item has at this moment for zone `z`'s node (R44). -/
def State.itemValue (s : State) (z : Fin 6) : Item → Nat
  | .oilLamp => s.loop.stage.code
  | .shownSetpoint => setpointValue (s.zoneAt z).target
  | .faultLamp => if (s.zoneAt z).state = .fault then 1 else 0

/-- A write to the node of zone `z`, when the zone binds one (R44). -/
def writeToZoneNode (z : Fin 6) (i : Item) (v : Nat) (s : State) : State :=
  match boundNode (s.zoneSet z) with
  | some n => internalWrite n i v s
  | none => s

/-- One stale item is queued with its present value and leaves the stale set, or stays stale while the
queue is full (R44). -/
def queueStale (n : Fin 15) (z : Fin 6) (i : Item) (s : State) : State :=
  if (s.nodeAt n).isStale i then
    match queueWrite n i (s.itemValue z i) s.loop.queue with
    | some q => (s.onLoop fun l => { l with queue := q }).onNode n (Node.clearStale i)
    | none => s
  else s

/-- Stage 5 of a good report: the node's stale items, in R44's order (R39). -/
def queueStaleItems (n : Fin 15) (z : Fin 6) (s : State) : State :=
  s |> queueStale n z .oilLamp |> queueStale n z .shownSetpoint |> queueStale n z .faultLamp

/-- LOOP takes a posted fuel stage: the oil lamp of every bound node, ascending (R44). The stage FUEL posts
in the hand-over is taken like any other, once start-up has ended (DESIGN CHOICE, log entry 51). -/
def loopTakesStage (g : FuelStage) (s : State) : State :=
  allNodes.foldl
    (fun t n => if (t.nodeAt n).zone.isSome then internalWrite n .oilLamp g.code t else t)
    (s.onLoop fun l => { l with stage := g })

/-! ## Slots (R38) -/

/-- The bound addresses in ascending order. -/
def State.boundNodes (s : State) : List (Fin 15) :=
  allNodes.filter fun n => (s.nodeAt n).zone.isSome

/-- The address the next poll slot goes to: the lowest bound address above the one polled last, or
the lowest (R38). -/
def State.nextPoll (s : State) : Option (Fin 15) :=
  match s.loop.lastPolled with
  | none => s.boundNodes.head?
  | some m =>
    match s.boundNodes.find? (fun n => decide (m < n)) with
    | some n => some n
    | none => s.boundNodes.head?

/-- Open the next poll slot, or leave the loop quiet when no address is bound (R38). -/
def openPollSlot (s : State) : State :=
  match s.nextPoll with
  | some n => s.onLoop fun l => { l with slot := .poll n false, lastPolled := some n }
  | none => s.onLoop fun l => { l with slot := .quiet }

/-- After a poll slot: a write slot that carries the oldest entry with the value it holds now, or the next
poll slot (R38, R42). -/
def slotAfterPoll (s : State) : State :=
  match s.loop.queue with
  | [] => openPollSlot s
  | e :: rest =>
    s.onLoop fun l =>
      { l with queue := { e with inSlot := true, merged := false } :: rest
               slot := .write e.value false }

/-- The write-failed flag of the node's zone (Table 3-4). -/
def markWriteFailed (n : Fin 15) (v : Bool) (s : State) : State :=
  match (s.nodeAt n).zone with
  | some z => s.onZone z fun zn => { zn with writeFailed := v }
  | none => s

/-- The outcome of a write slot for the entry it carried (Table 3-4). -/
def writeOutcome (acknowledged : Bool) (s : State) : State :=
  match s.loop.queue with
  | [] => s
  | e :: rest =>
    if acknowledged then
      markWriteFailed e.node false
        (s.onLoop fun l =>
          { l with queue :=
              if e.merged then { e with inSlot := false, merged := false, failedOnce := false } :: rest
              else rest })
    else if e.merged then
      s.onLoop fun l =>
        { l with queue := { e with inSlot := false, merged := false, failedOnce := false } :: rest }
    else if e.failedOnce then
      markWriteFailed e.node true (s.onLoop fun l => { l with queue := rest })
    else
      s.onLoop fun l =>
        { l with queue := { e with inSlot := false, merged := false, failedOnce := true } :: rest }

/-! ## Bindings (R37) -/

/-- A slot open for node `n` loses its result (R38), and does not get it back when the node is bound again
before the slot ends (DESIGN CHOICE, log entry 78). -/
def loseSlot (n : Fin 15) (l : StatLoop) : StatLoop :=
  match l.slot with
  | .poll m _ => if m = n then { l with slot := .poll m true } else l
  | .write v _ =>
    match l.queue with
    | e :: _ => if e.node = n ∧ e.inSlot then { l with slot := .write v true } else l
    | [] => l
  | .quiet => l

/-- An address stops being bound (R37). -/
def unbindNode (n : Fin 15) (s : State) : State :=
  let lost := (s.nodeAt n).statLost
  let t := (s.onLoop fun l =>
      { loseSlot n l with queue := l.queue.filter fun e => e.node != n }).onNode n fun r =>
    { r with zone := none, miss := 0, statLost := false, staleOil := false, staleSet := false,
             staleFault := false }
  if lost then postNotice .statLost t else t

/-- An address becomes bound to zone `z`: all three items stale (R37). -/
def bindNode (n : Fin 15) (z : Fin 6) (s : State) : State :=
  s.onNode n fun _ =>
    { zone := some z, miss := 0, statLost := false, polled := false, batteryLow := false,
      staleOil := true, staleSet := true, staleFault := true }

/-- Bring one node record in step with the zone settings (R37). -/
def rebindNode (n : Fin 15) (s : State) : State :=
  let new := zoneBinding s.par n
  let old := (s.nodeAt n).zone
  if new = old then s
  else
    let t := if old.isSome then unbindNode n s else s
    match new with
    | some z => bindNode n z t
    | none => t

/-- Bring the node records in step with the zone settings; with the loop quiet and work to do, the
ring starts (R37, R38). -/
def rebindNodes (s : State) : State :=
  let t := allNodes.foldl (fun u n => rebindNode n u) s
  if t.running && t.loop.slot == .quiet then openPollSlot t else t

end Sys2Proof.Machine
end

