-- ==== Sys2Proof/Machine/Zones.lean ====
section
/-! DEFINITION. ZONE's shared operations: targets, calls, the valve sequence, the heat request and the
pump demand (Chapter 3). -/

namespace Sys2Proof.Machine

/-! ## What the zones give the plant (R57, R59) -/

/-- The heat request is formed again; a change is told to BURN (R57). -/
def formHeat (s : State) : State :=
  if s.heatFormed = s.zone.heatRequest then s
  else postHeat s.heatFormed (s.onZoneBlock fun b => { b with heatRequest := s.heatFormed })

/-- The pump demand is formed again; a change is posted to OUT for CH2 (R59). -/
def formPump (s : State) : State :=
  if s.pumpFormed = s.zone.pumpDemand then s
  else postDemand 2 s.pumpFormed (s.onZoneBlock fun b => { b with pumpDemand := s.pumpFormed })

/-- Both outputs, once a change of a zone's state or call has been taken (R57, R59). -/
def formOutputs (s : State) : State := formPump (formHeat s)

/-! ## The valve sequence (Table 3-11) -/

/-- Zone `z` goes to a state with its timer; a change of its valve demand is posted to OUT (R57). -/
def zoneTo (z : Fin 6) (st : ZoneState) (timer : ZoneTimer) (s : State) : State :=
  let t := s.onZone z fun zn => { zn with state := st, timer := timer }
  if (s.zoneAt z).state.valveDemand = st.valveDemand then t
  else postDemand (valveChannel z) st.valveDemand t

/-- The state timer loaded with zone `z`'s valve travel time (R53, R55). -/
def State.travelTimer (s : State) (z : Fin 6) : ZoneTimer := .travel (1000 * (s.zoneSet z).travel)

/-- Entry to OPENING; with the end switch already made, on to OPEN at once (R53). -/
def enterOpening (z : Fin 6) (s : State) : State :=
  let t := zoneTo z .opening (s.travelTimer z) s
  if t.endIsMade z then zoneTo z .opened .stopped t else t

/-- Entry to IDLE; with the call on, OPENING at once (R53). In SUPPLY_HOLD the zone stays IDLE (R61). -/
def enterIdle (z : Fin 6) (s : State) : State :=
  let t := zoneTo z .idle .stopped s
  if (t.zoneAt z).call && !t.supply.hold then enterOpening z t else t

/-- Entry to CLOSING; with the end switch already broken, on to IDLE at once (R55). -/
def enterClosing (z : Fin 6) (s : State) : State :=
  let t := zoneTo z .closing (s.travelTimer z) s
  if t.endIsMade z then t else enterIdle z t

/-- Entry to FAULT with its cause: 15 retry minutes, the notice and the lamp (R56). -/
def enterFault (z : Fin 6) (cause : ZoneFault) (s : State) : State :=
  (zoneTo z .fault (.retry 15) s).onZone z (fun zn => { zn with cause := cause })
    |> postNotice .zoneFault |> writeToZoneNode z .faultLamp 1

/-- Every zone in HOLD but `z` enters CLOSING (R54). -/
def closeOtherHolds (z : Fin 6) (s : State) : State :=
  allZones.foldl
    (fun t y => if y ≠ z ∧ (t.zoneAt y).state = .hold then enterClosing y t else t) s

/-- Every zone in HOLD enters CLOSING (R60). -/
def closeHolds (s : State) : State :=
  allZones.foldl (fun t y => if (t.zoneAt y).state = .hold then enterClosing y t else t) s

/-- A call that goes on (R53, R54, R55). -/
def callRises (z : Fin 6) (s : State) : State :=
  match (s.zoneAt z).state with
  | .idle => if s.supply.hold then s else enterOpening z s
  | .hold => zoneTo z .opened .stopped s
  | _ => s

/-- Another zone is OPEN with its call on (R54). -/
def State.otherHeats (s : State) (z : Fin 6) : Bool := allZones.any fun y => y != z && s.heats y

/-- A call that goes off (R53, R54). -/
def callFalls (z : Fin 6) (s : State) : State :=
  match (s.zoneAt z).state with
  | .opening => enterClosing z s
  | .opened =>
    if s.otherHeats z then enterClosing z s
    else zoneTo z .hold .stopped (closeOtherHolds z s)
  | _ => s

/-- ZONE forms a zone's call; each change is an event at its valve sequence, after which the heat request
and the pump demand are formed again (R52, R57, R59). -/
def formCall (z : Fin 6) (s : State) : State :=
  let zn := s.zoneAt z
  let new := (s.zoneSet z).enabled && (zn.modeCall || zn.frostCall || zn.sinkDrive)
  if new = zn.call then s
  else
    let t := s.onZone z fun y => { y with call := new }
    formOutputs (if new then callRises z t else callFalls z t)

/-- ZONE evaluates the mode call and the frost call, and forms the call (R49 to R52). -/
def evaluateCall (z : Fin 6) (s : State) : State :=
  formCall z (s.onZone z fun zn =>
    { zn with modeCall := (s.callsOf z).1, frostCall := (s.callsOf z).2 })

/-- ZONE derives a zone's target; a change is stored, told to LOOP and evaluated (R48). -/
def deriveTarget (z : Fin 6) (s : State) : State :=
  if s.targetOf z = (s.zoneAt z).target then s
  else
    (s.onZone z fun zn => { zn with target := s.targetOf z })
      |> writeToZoneNode z .shownSetpoint (setpointValue (s.targetOf z)) |> evaluateCall z

/-- A change of a zone's mode in force: the target and the call are evaluated again (R47). -/
def modeChanged (z : Fin 6) (s : State) : State := evaluateCall z (deriveTarget z s)

/-! ## Every zone (R47, R48) -/

/-- A step taken for every zone, zone 1 first: the manual gives no order in which an event that reaches
them all is taken (DESIGN CHOICE, log entry 52). -/
def eachZone (f : Fin 6 → State → State) (s : State) : State := allZones.foldl (fun t z => f z t) s

/-! ## Sight (R49 to R51) -/

/-- The zone's sighted field changes: BLIND starts its cycle; leaving BLIND stops it and sets the mode
call off; leaving SIGHTED sets the frost call off (R49, R51). -/
def Zone.see (new : Sighted) (zn : Zone) : Zone :=
  if zn.sighted = new then zn
  else
    { zn with
      sighted := new, blindPos := 0,
      modeCall := if zn.sighted = .blind then false else zn.modeCall,
      frostCall := if zn.sighted = .sighted then false else zn.frostCall }

/-- A temperature or dial of a report outside -400..1,200 is taken as absent (R39). -/
def reportValue (o : Option Int) : Option Int := o.filter fun t => decide (-400 ≤ t ∧ t ≤ 1200)

/-- What a good report leaves in the zone, by its kind (R39, R49, R50). -/
def Zone.take (kind : NodeKind) (r : Report) (zn : Zone) : Zone :=
  let zn := { zn with statLost := false }
  match kind with
  | .contact =>
    match r.contact with
    | some c => { zn.see .sighted with contact := some c }
    | none => zn.see .blind
  | .dial =>
    match reportValue r.temp with
    | some t => { zn.see .sighted with temp := some t, dial := reportValue r.dial }
    | none => zn.see .blind
  | .sensor =>
    match reportValue r.temp with
    | some t => { zn.see .sighted with temp := some t }
    | none => zn.see .blind

/-- ZONE takes a good report for zone `z` (R39 stage 4, R48 to R51). The call is formed once, from the parts
as the report leaves them: the mode call that goes off on leaving BLIND and on again as SIGHTED is no event
at the valve (R51, R52; DESIGN CHOICE, log entry 61). -/
def zoneTakesReport (z : Fin 6) (r : Report) (s : State) : State :=
  (s.onZone z (Zone.take (s.zoneSet z).kind r)) |> deriveTarget z |> evaluateCall z |> formOutputs

/-- ZONE is told that zone `z`'s node is lost (R40, R49). -/
def zoneLosesNode (z : Fin 6) (s : State) : State :=
  (s.onZone z fun zn =>
      { zn.see .blind with temp := none, dial := none, contact := none, statLost := true })
    |> deriveTarget z |> evaluateCall z |> formOutputs

/-- ZONE is told that zone `z`'s node gave no report yet (R40, R51). -/
def zoneHasNoReport (z : Fin 6) (s : State) : State :=
  if (s.zoneAt z).sighted = .awaiting then
    (s.onZone z (Zone.see .blind)) |> evaluateCall z |> formOutputs
  else s

/-- The zone's present view of its node ends: a change of enabled, node address or kind (R46). A zone whose
kind changes while its node stands in STAT_LOST is AWAITING too, until a good report (DEDUCED, log
entry 46). -/
def resetView (z : Fin 6) (s : State) : State :=
  s.onZone z fun zn =>
    { zn.see (if (s.zoneSet z).enabled && (s.zoneSet z).node == 0 then .blind else .awaiting) with
      temp := none, dial := none, contact := none, statLost := false }

/-! ## Events from other blocks -/

/-- OUT tells ZONE a new output mode (R19, R47). -/
def zonesTakeMode (s : State) : State := formOutputs (eachZone modeChanged s)

/-- ZONE takes a posted fuel stage (R48, R132). -/
def zonesTakeStage (g : FuelStage) (s : State) : State :=
  formOutputs (eachZone deriveTarget (s.onZoneBlock fun b => { b with stage := g }))

/-- ZONE takes the overrun state, as a report or an answer (R60). -/
def zonesTakeOverrun (v : Bool) (s : State) : State :=
  let t := s.onZoneBlock fun b => { b with overrun := v }
  formOutputs (if v then t else closeHolds t)

/-- OUT tells ZONE that a VALVE channel has entered OPEN_LOAD or TRIPPED (R32, R56); in SUPPLY_HOLD
it changes no zone state (R61). -/
def zoneChannelFault (z : Fin 6) (s : State) : State :=
  if s.supply.hold || (s.zoneAt z).state == .fault then s
  else formOutputs (enterFault z .channel s)

/-- What the flow temperature makes of the boiler-frost call (R58). -/
def boilerFrostOf (held : Bool) : Option Int → Bool
  | none => false
  | some t => if t < 50 then true else if 80 ≤ t then false else held

/-- The sink drive of zone `z` is set, and its call formed (R58). -/
def driveSink (z : Fin 6) (v : Bool) (s : State) : State :=
  formCall z (s.onZone z fun zn => { zn with sinkDrive := v })

/-- ZONE evaluates the boiler-frost call (R58). -/
def evaluateBoilerFrost (s : State) : State :=
  let new := boilerFrostOf s.zone.boilerFrost s.flowKnown
  if new = s.zone.boilerFrost then s
  else formOutputs (driveSink s.par.sink new (s.onZoneBlock fun b => { b with boilerFrost := new }))

/-- One zone at the beginning of SUPPLY_HOLD: IDLE, its timer stopped, a FAULT's lamp off (R44, R61). -/
def zoneHoldBegins (z : Fin 6) (s : State) : State :=
  let t := zoneTo z .idle .stopped s
  if (s.zoneAt z).state = .fault then writeToZoneNode z .faultLamp 0 t else t

/-- ZONE at the beginning of SUPPLY_HOLD (R61). -/
def zonesHoldBegins (s : State) : State := formOutputs (eachZone zoneHoldBegins s)

/-- One zone at the end of SUPPLY_HOLD: OPENING when its call is on (R61). -/
def zoneHoldEnds (z : Fin 6) (s : State) : State :=
  if (s.zoneAt z).call && (s.zoneAt z).state == .idle then enterOpening z s else s

/-- ZONE at the end of SUPPLY_HOLD (R61). -/
def zonesHoldEnds (s : State) : State := formOutputs (eachZone zoneHoldEnds s)

/-- One minute off a zone's fault retry time (R56). -/
def Zone.minute (zn : Zone) : Zone :=
  match zn.timer with
  | .retry n => { zn with timer := .retry (countDown n) }
  | _ => zn

end Sys2Proof.Machine
end

