-- ==== Sys2Proof/Machine/Outputs.lean ====
section
/-! DEFINITION. OUT's shared operations: resolution, load supervision, pump proven, output mode and
overrides (Chapter 2). -/

namespace Sys2Proof.Machine

/-! ## Pump proven (R33) and resolution (R22, R23) -/

/-- OUT evaluates pump proven; a change is told to BURN (R33). -/
def evaluatePump (s : State) : State :=
  if s.pumpIsProven = s.out.pumpProven then s
  else postPump s.pumpIsProven (s.onOut fun o => { o with pumpProven := s.pumpIsProven })

/-- The three scan counts at 0. -/
def Channel.clearCounts (c : Channel) : Channel := { c with low := 0, high := 0, offs := 0 }

/-- What a change of effective state does to the entry (R23). -/
def Channel.switch (v : Bool) (c : Channel) : Channel :=
  { c.clearCounts with effective := v, settle := if c.settle = 0 then 1 else c.settle,
                       judgement := .none }

/-- OUT resolves a channel (R22); a change of effective state has R23's effects. -/
def resolveChannel (ch : Fin 10) (s : State) : State :=
  if s.resolved ch = (s.chan ch).effective then s
  else
    let t := s.onChan ch (Channel.switch (s.resolved ch))
    if ch = 2 then evaluatePump t else t

/-- A step taken for every channel in order. -/
def eachChannel (f : Fin 10 → State → State) (s : State) : State :=
  allChannels.foldl (fun t ch => f ch t) s

/-- OUT resolves all ten channels (R22). -/
def resolveAll (s : State) : State := eachChannel resolveChannel s

/-- Every channel's scan counts at 0 (R27, R36). -/
def clearAllCounts (s : State) : State :=
  eachChannel (fun ch t => t.onChan ch Channel.clearCounts) s

/-! ## Load states (R28 to R32) -/

/-- What a change of load state tells BURN and ZONE (R32): a VALVE channel's entry into either fault is
told, from the other fault too; for PUMP that change is nothing new. -/
def tellLoad (ch : Fin 10) (new : LoadState) (s : State) : State :=
  match channelZone ch with
  | some z => if new.faulty then zoneChannelFault z s else s
  | none =>
    if ch = 2 then setReason .pump new.faulty s
    else if ch = 0 then s.onBurn fun b => { b with uncontrolled := new == .stuckOn }
    else s

/-- A channel's load state becomes `new`; a change posts the notice and reaches the neighbours (R32,
R33). -/
def setLoad (ch : Fin 10) (new : LoadState) (s : State) : State :=
  if new = (s.chan ch).load then s
  else
    let t := tellLoad ch new (postNotice .channelFault (s.onChan ch fun c =>
      { c with load := new }))
    if ch = 2 then evaluatePump t else t

/-- Levels and counts of supervision (R28 to R30). -/
def offLevelMA : Nat := 30

/-- A judged on-scan below the window (R28). -/
def judgeLow (ch : Fin 10) (s : State) : State :=
  match (s.chan ch).load with
  | .ok =>
    if 3 ≤ (s.chan ch).low + 1 then
      setLoad ch .openLoad (s.onChan ch fun c => { c with low := 0, high := 0, judgement := .below })
    else s.onChan ch fun c => { c with low := c.low + 1, high := 0, judgement := .below }
  | _ => s.onChan ch fun c => { c with low := 0, high := 0, judgement := .below }

/-- A judged on-scan above the window (R29). -/
def judgeHigh (ch : Fin 10) (s : State) : State :=
  if 2 ≤ (s.chan ch).high + 1 then
    resolveChannel ch (setLoad ch .tripped (s.onChan ch fun c =>
      { c.clearCounts with judgement := .above }))
  else s.onChan ch fun c => { c with high := c.high + 1, low := 0, judgement := .above }

/-- A judged on-scan within the window (R28). -/
def judgeWithin (ch : Fin 10) (s : State) : State :=
  let t := s.onChan ch fun c => { c with low := 0, high := 0, judgement := .within }
  if (s.chan ch).load = .openLoad then setLoad ch .ok t else t

/-- A judged off-scan above 30 mA (R30). In STUCK_ON or TRIPPED the count rests at its largest value
(DESIGN CHOICE, log entry 55). -/
def judgeLeaking (ch : Fin 10) (s : State) : State :=
  if 3 ≤ (s.chan ch).offs + 1 ∧ ((s.chan ch).load = .ok ∨ (s.chan ch).load = .openLoad) then
    setLoad ch .stuckOn (s.onChan ch fun c => { c with offs := 0 })
  else s.onChan ch fun c => { c with offs := min (c.offs + 1) 3 }

/-- A judged off-scan of 30 mA or less (R30). -/
def judgeQuiet (ch : Fin 10) (s : State) : State :=
  let t := s.onChan ch fun c => { c with offs := 0 }
  if (s.chan ch).load = .stuckOn then setLoad ch .ok t else t

/-- A judged scan of `ma` milliamperes (R28 to R30). -/
def judge (ch : Fin 10) (ma : Nat) (s : State) : State :=
  if (s.chan ch).effective then
    if ma < (s.chanSet ch).minMA then judgeLow ch s
    else if (s.chanSet ch).maxMA < ma then judgeHigh ch s
    else judgeWithin ch s
  else if offLevelMA < ma then judgeLeaking ch s
  else judgeQuiet ch s

/-- OUT takes one channel's current scan: passed over, or judged (R27). -/
def takeCurrent (ch : Fin 10) (ma : Nat) (s : State) : State :=
  if s.supply.hold then s
  else if 0 < (s.chan ch).settle then s.onChan ch fun c => { c with settle := c.settle - 1 }
  else if s.scan.measureFault || (s.chan ch).load == .tripped then s
  else judge ch ma s

/-- OUT takes the ten currents of a pass as the records hold them, then evaluates pump proven (R27, R33). The
channels are taken CH0 first and CH9 last, each with its tellings (R32; DESIGN CHOICE, log entry 69). -/
def outTakesPass (s : State) : State :=
  evaluatePump (eachChannel
    (fun ch t => takeCurrent ch ((s.scan.cs[ch].reading.map Prod.snd).getD 0) t) s)

/-- OUT is told of a change of MEASURE_FAULT: the counts start again; at its setting pump proven is
evaluated (R27, R33). -/
def outTakesMeasureFault (set : Bool) (s : State) : State :=
  if set then evaluatePump (clearAllCounts s) else clearAllCounts s

/-- A trip is cleared (R31). -/
def clearTrip (ch : Fin 10) (s : State) : State :=
  resolveChannel ch (setLoad ch .ok (s.onChan ch fun c =>
    { c.clearCounts with judgement := .none }))

/-! ## Demands, overrides and modes -/

/-- OUT takes a demand for a channel (R18, R22). -/
def takeDemand (ch : Fin 10) (v : Bool) (s : State) : State :=
  if v = (s.chan ch).demand then s
  else resolveChannel ch (s.onChan ch fun c => { c with demand := v })

/-- OUT has the demand that the channel's owner posted last, and none is on its way any more (R35). -/
def takeLastDemand (ch : Fin 10) (s : State) : State :=
  match s.posts.demand[ch].getLast? with
  | some v =>
    (s.onChan ch fun c => { c with demand := v }).onPosts fun p => { p with demand := p.demand.set ch [] }
  | none => s

/-- OUT at the end of start-up: each channel has the demand its owner has posted by then, and all ten are
resolved (R35). -/
def outBegins (s : State) : State := resolveAll (eachChannel takeLastDemand s)

/-- A channel's override becomes `o`, and the channel is resolved (R24, R26). -/
def setOverride (ch : Fin 10) (o : Option (Bool × Nat)) (s : State) : State :=
  resolveChannel ch (s.onChan ch fun c => { c with override := o })

/-- One run minute off every override (R26). -/
def countOverrides (s : State) : State :=
  eachChannel (fun ch t => t.onChan ch fun c =>
    { c with override := c.override.map fun (v, m) => (v, countDown m) }) s

/-- The output mode becomes `m` with a cause: the notice, ZONE told, all channels resolved (R19). A
mode that already stands stays with its cause (R19, R20). -/
def setMode (m : OutMode) (cause : ModeCause) (s : State) : State :=
  if m = s.out.mode then s
  else
    resolveAll (zonesTakeMode (postNotice .mode (s.onOut fun o =>
      { o with mode := m, cause := cause })))

/-! ## SUPPLY_HOLD (R36) -/

/-- OUT at the beginning of SUPPLY_HOLD (R36). -/
def outHoldBegins (s : State) : State := clearAllCounts (resolveAll s)

/-- OUT at the end of SUPPLY_HOLD (R36). -/
def outHoldEnds (s : State) : State :=
  resolveAll (eachChannel (fun ch t => t.onChan ch fun c => { c with settle := 2 }) s)

end Sys2Proof.Machine
end

