-- ==== Sys2Proof/Machine/Recovery.lean ====
section
/-! DEFINITION. BURN's shared operations in the recovery states: records asked and answered, lockouts,
cooldown, resets, holds, latches and the mains hold (Chapter 5). -/

namespace Sys2Proof.Machine

/-! ## Budget and latch decisions (R83, R85) -/

/-- The list has budget room (R83). -/
def State.budgetRoom (s : State) : Bool := decide (s.burn.window.length < s.par.budget)

/-- The window list without its stamps of 1,440 run minutes and more (R83). -/
def agedWindow (now : Nat) : List Nat → List Nat
  | [] => []
  | t :: rest => if 1440 ≤ now - t then agedWindow now rest else t :: rest

/-- The latch a stored LOCKOUT record decides on (R85 cases 1 and 2). -/
def Burn.latchDue (b : Burn) : Option LatchReason :=
  match b.newest with
  | none => none
  | some l =>
    if l.cause = .starvation then some .starvation
    else if l.wasPending && b.relock == 2 then some .relock
    else none

/-- The newest lockout's record (R84). -/
def Burn.lockoutRecord (b : Burn) : Option Payload :=
  b.newest.map fun l => .lockout l.cause l.left l.stage l.wasPending

/-! ## The BURNER_RESET task (R98, R99) -/

/-- The task ends (R99). -/
def endResetTask (o : TaskOutcome) (r : ReasonCode) (s : State) : State :=
  if s.burn.task.isSome then
    endTask o r 0 (s.onBurn fun b => { b with task := none, proofLimit := none })
  else s

/-- The task is at a stage. -/
def Burn.taskAt (b : Burn) (g : ResetTaskStage) : Bool :=
  match b.task with
  | some t => t.stage == g
  | none => false

/-- The task moves to a stage, if there is one. -/
def Burn.taskTo (g : ResetTaskStage) (b : Burn) : Burn :=
  { b with task := b.task.map fun t => { t with stage := g } }

/-- Run minutes of the proof limit (R99). -/
def proofMinutes : Nat := 60

/-- A task served by the reset: its proof limit starts (R89). -/
def startProofLimit (s : State) : State :=
  if s.burn.task.isSome then s.onBurn fun b => { b with proofLimit := some proofMinutes } else s

/-! ## Entries (R86, R87) -/

/-- Entry into COOLDOWN (R86). -/
def enterCooldown (s : State) : State :=
  (burnTo .cooldown s).onBurn fun b => { b with cooldown := some s.par.cooldown }

/-- Entry into HELD, with its notice (R87). -/
def enterHeld (r : HeldReason) (s : State) : State :=
  postNotice .held ((burnTo .held s).onBurn fun b => { b with heldReason := r, cooldown := none })

/-- HELD's reason becomes `r`; a change posts the notice (R87). -/
def setHeldReason (r : HeldReason) (s : State) : State :=
  if s.burn.heldReason = r then s
  else postNotice .held (s.onBurn fun b => { b with heldReason := r })

/-! ## Records asked (R84, R88, R91) -/

/-- The CH1 demand follows the pulse (R88, R89). -/
def endPulse (s : State) : State :=
  let t := s.onBurn fun b => { b with pulseTimer := none }
  if s.burn.pulseTimer.isSome then postDemand 1 false t else t

/-- What is asked is a LOCKOUT record (R84). -/
def Tag.isLockout : Tag → Bool
  | .lockout _ => true
  | .reset => false | .closing => false | .owed => false | .ack => false

/-- A record is asked of STORE (R141). -/
def askStore (tag : Tag) (p : Payload) (s : State) : State :=
  appendRecord p (some tag)
    (if tag.isLockout then s.onBurn fun b => { b with lockoutAsked := true } else s)

/-- The RESET record of the reset in progress: the budget test first, and no record without room (R88). A
lamp gone dark meanwhile is not taken in that HELD (DESIGN CHOICE, log entry 62). -/
def askResetRecord (s : State) : State :=
  if s.burn.state = .resetting ∧ s.burn.resetPhase = .recording then
    let o := s.burn.resetOrigin
    let n := s.burn.window.length
    if o.nonAttended then
      if s.budgetRoom then askStore .reset (.reset o false (n + 1)) s
      else enterHeld .budget (endResetTask .rejected .budget s)
    else askStore .reset (.reset o true n) s
  else s

/-- One record that waited is asked. -/
def askNow (s : State) : Ask → State
  | .record tag p => askStore tag p s
  | .resetRecord => askResetRecord s

/-- The oldest owed record is asked again, one at a time (R91; log entry 25). -/
def askOwed (s : State) : State :=
  match s.burn.owed with
  | p :: _ =>
    if s.burn.owedAsked then s
    else askStore .owed p (s.onBurn fun b => { b with owedAsked := true })
  | [] => s

/-- BURN asks for records in order, any owed records first (R84, R91). -/
def askAll (l : List Ask) (s : State) : State :=
  if s.burn.owed.isEmpty && s.burn.asks.isEmpty then l.foldl askNow s
  else askOwed (s.onBurn fun b => { b with asks := b.asks ++ l })

/-- The owed LOCKOUT record is asked again, unless it is already asked (R87, R88). -/
def askLockout (s : State) : State :=
  match s.burn.lockoutRecord with
  | some p =>
    if s.burn.lockoutAsked then s
    else
      askAll [.record (.lockout s.burn.lockouts) p]
        (s.onBurn fun b => { b with lockoutAsked := true })
  | none => s

/-! ## LATCHED (R95) -/

/-- Entry into LATCHED (R95). -/
def enterLatched (r : LatchReason) (s : State) : State :=
  (burnTo .latched s).onBurn (fun b =>
      { b with
        latchReason := some r, pressWaiting := false, darkWaiting := false, attendedOwed := false,
        cooldown := none, checkTimer := none, proveTimer := none })
    |> endPulse
    |> askAll [.record .closing (.latch r s.burn.relock)]
    |> postNotice .latch
    |> endResetTask .rejected .latched

/-! ## Resets (R88, R89, R93, R94) -/

/-- Entry into RESETTING (R88); a task that waits is served by this reset (R98). A dark waiting left over
from an earlier RECORDING is cleared (DESIGN CHOICE, log entry 56). -/
def beginReset (o : Origin) (s : State) : State :=
  let t := (burnTo .resetting s).onBurn fun b =>
    { (b.taskTo .serving) with
      resetOrigin := o, attendedOwed := false, resetPhase := .recording, darkWaiting := false,
      cooldown := none }
  if t.burn.lockoutOwed then askLockout t else askAll [.resetRecord] t

/-- A reset has succeeded (R89). -/
def resetSucceeds (s : State) : State :=
  goIdle (s.onBurn fun b =>
    { (b.taskTo .proving) with
      checkTimer := none, proofPending := true, pendingOrigin := some b.resetOrigin })

/-- A dark lamp in COOLDOWN or HELD: an external reset, or the latch of an owed lockout (R94). -/
def takeDark (s : State) : State :=
  let owed := s.burn.state == .held && s.burn.lockoutOwed
  match owed, s.burn.latchDue with
  | true, some r => enterLatched r (askLockout s)
  | _, _ =>
    let t := if owed then askLockout s else s
    let u := t.onBurn fun b => { b with cooldown := none, attendedOwed := false }
    let v := askAll [.record .closing (.reset .external true u.burn.window.length)] u
    goIdle (startProofLimit (v.onBurn fun b =>
      { (b.taskTo .proving) with proofPending := true, pendingOrigin := some .external }))

/-- A PRESS (R84, R93, R100). -/
def takePress (s : State) : State :=
  match s.burn.state with
  | .cooldown => beginReset .localPress s
  | .held => if s.burnHold then s else beginReset .localPress s
  | .locked =>
    if s.burn.lockStep = .awaitRecord then s.onBurn fun b => { b with pressWaiting := true } else s
  | _ => s

/-! ## COOLDOWN's end and HELD (R86, R87) -/

/-- Cases 3 to 5 of R86. -/
def evaluateUntasked (s : State) : State :=
  if s.par.authority = .openToAll then
    if s.budgetRoom then beginReset .auto s else enterHeld .budget s
  else enterHeld .awaitOrder s

/-- The cooldown timer reaches 0 (R86, R98). A waiting HOST task that fails both tests ends KEY_REQUIRED
(DESIGN CHOICE, log entry 57). -/
def cooldownExpires (s : State) : State :=
  let t := s.onBurn fun b => { b with cooldown := none }
  if t.burn.attendedOwed then beginReset .attended t
  else
    match t.burn.task with
    | some k =>
      if k.origin = .attended then beginReset .attended t
      else if t.par.authority = .attended then
        evaluateUntasked (endResetTask .rejected .keyRequired t)
      else if t.budgetRoom then beginReset k.origin t
      else evaluateUntasked (endResetTask .rejected .budget t)
    | none => evaluateUntasked t

/-- HELD with reason AWAIT_ORDER or BUDGET is evaluated again; no reset is begun in SUPPLY_HOLD (R87,
R100). -/
def evaluateHeld (s : State) : State :=
  if s.burn.state = .held ∧ s.burn.heldReason ≠ .store then
    if s.par.authority = .openToAll then
      if s.budgetRoom then (if s.burnHold then s else beginReset .auto s)
      else setHeldReason .budget s
    else setHeldReason .awaitOrder s
  else s

/-- HELD with reason STORE is retried (R87, R100). -/
def retryHeld (s : State) : State :=
  if s.burn.state = .held ∧ s.burn.heldReason = .store then
    if s.burn.lockoutOwed then askLockout s
    else if s.par.authority = .openToAll ∧ s.budgetRoom ∧ s.burnHold then s
    else evaluateUntasked s
  else s

/-- HELD at a run minute, and at the end of SUPPLY_HOLD (R87, R101). -/
def heldMinute (s : State) : State :=
  if s.burn.state = .held ∧ s.burn.heldReason = .store then retryHeld s else evaluateHeld s

/-! ## STORE's answers (R85, R88, R91, R96) -/

/-- The decision leaves COOLDOWN or HELD: a dark lamp or a PRESS that waited is taken there (R85). -/
def takeWaiting (s : State) : State :=
  let t := s.onBurn fun b => { b with pressWaiting := false, darkWaiting := false }
  if s.burn.darkWaiting && !s.lampLit then takeDark t
  else if s.burn.pressWaiting then takePress t
  else t

/-- LOCKED waits for mains with its marks cleared (R85). -/
def awaitMains (s : State) : State :=
  (burnTo .locked s).onBurn fun b =>
    { b with lockStep := .awaitMains, pressWaiting := false, darkWaiting := false }

/-- A stored LOCKOUT record decides (R85 cases 1 to 3, R87). -/
def lockoutStoredDecides (s : State) : State :=
  match s.burn.latchDue with
  | some r => enterLatched r s
  | none => if s.burnHold then awaitMains s else takeWaiting (enterCooldown s)

/-- The LOCKOUT record is stored (R85, R87, R88, R94). -/
def lockoutStored (s : State) : State :=
  let t := s.onBurn fun b =>
    { b with lockoutAsked := false, answer := .stored, lockoutOwed := false }
  match t.burn.state with
  | .locked => lockoutStoredDecides t
  | .held => lockoutStoredDecides t
  | .resetting =>
    match t.burn.latchDue with
    | some r => enterLatched r t
    | none => askAll [.resetRecord] t
  | _ => t

/-- HELD with reason STORE in place of a reset whose record was refused; a dark lamp is taken there, and
dark waiting is then cleared (R88; DESIGN CHOICE, log entry 56). -/
def resetRefused (s : State) : State :=
  let t := enterHeld .store (endResetTask .rejected .store s)
  if t.lampLit then t else takeDark (t.onBurn fun b => { b with darkWaiting := false })

/-- The LOCKOUT record is refused (R85, R87, R88). One asked at a lamp's fall by R94 and refused stays owed
and is asked no more in IDLE, INHIBITED or LATCHED (DESIGN CHOICE, log entry 63). -/
def lockoutRefused (s : State) : State :=
  let t := s.onBurn fun b => { b with lockoutAsked := false, answer := .refused }
  match t.burn.state with
  | .locked =>
    if t.burnHold then awaitMains t
    else
      takeWaiting (enterHeld .store (endResetTask .rejected .store (t.onBurn fun b =>
        { b with lockoutOwed := true })))
  | .resetting => resetRefused t
  | _ => t

/-- Seconds of the pulse and of the dark-lamp wait (R88, R89). -/
def pulseSeconds : Nat := 1

/-- Seconds of the dark-lamp wait (R89). -/
def checkSeconds : Nat := 5

/-- The RESET record of a reset in progress is stored: the pulse, or success with the lamp dark (R88). -/
def resetStoredActs (s : State) : State :=
  let t := startProofLimit s
  if t.lampLit then
    postDemand 1 true (t.onBurn fun b =>
      { b with resetPhase := .pulse, pulseTimer := secondsTimer pulseSeconds })
  else resetSucceeds t

/-- The OUTCOME record of a closed reset (R84, R90, R92, R100). -/
def outcomeOf (k : OutcomeKind) (b : Burn) (o : Option Origin) : Ask :=
  .record .closing (.outcome k b.relock o)

/-- The RESET record is stored with run stamp `stamp` (R83, R88, R100). -/
def resetStored (o : Origin) (stamp : Nat) (s : State) : State :=
  let t := if o.nonAttended then s.onBurn fun b => { b with window := b.window ++ [stamp] } else s
  match t.burn.abandonWait with
  | some w =>
    askAll [outcomeOf .abandoned t.burn (some w)] (t.onBurn fun b => { b with abandonWait := none })
  | none =>
    if t.burn.state = .resetting ∧ t.burn.resetPhase = .recording then resetStoredActs t else t

/-- The RESET record is refused (R88, R100). -/
def resetRecordRefused (s : State) : State :=
  if s.burn.abandonWait.isSome then s.onBurn fun b => { b with abandonWait := none }
  else if s.burn.state = .resetting ∧ s.burn.resetPhase = .recording then resetRefused s
  else s

/-- The ACK record is stored (R96). With the lamp lit, or in the hold, a proof-pending mark restored at the start
still stands (DESIGN CHOICE, log entry 92). -/
def ackStored (s : State) : State :=
  if s.burn.state = .latched then
    let t := postNotice .latch (s.onBurn fun b =>
      { b with ackAwaited := false, relock := 0, latchReason := none })
    if t.burnHold then
      awaitMains (t.onBurn fun b => { b with attendedOwed := true, answer := .stored })
    else if t.lampLit then enterCooldown (t.onBurn fun b => { b with attendedOwed := true })
    else goIdle (t.onBurn fun b => { b with proofPending := false, pendingOrigin := none })
  else s.onBurn fun b => { b with ackAwaited := false }

/-- A record joins the owed records (R91). -/
def becomesOwed (p : Payload) (s : State) : State := s.onBurn fun b => { b with owed := b.owed ++ [p] }

/-- An answer for the LOCKOUT record numbered `n` acts on the newest lockout alone: the answer for an older
one decides nothing (R85; log entry 48). -/
def ofNewest (n : Nat) (f : State → State) (s : State) : State :=
  if n = s.burn.lockouts then f s else s

/-- A record is taken as refused by the rule that asked for it (R91). -/
def refuseAsk (s : State) : Ask → State
  | .record (.lockout n) _ => ofNewest n lockoutRefused s
  | .record .closing p => becomesOwed p s
  | .record .ack _ => s.onBurn fun b => { b with ackAwaited := false }
  | .record .reset _ => resetRecordRefused s
  | .record .owed _ => s
  | .resetRecord => resetRecordRefused s

/-- The oldest owed record is stored: the next one is asked, or what waited behind them (R91). -/
def owedStored (s : State) : State :=
  let t := s.onBurn fun b => { b with owed := b.owed.tail, owedAsked := false }
  if t.burn.owed.isEmpty then t.burn.asks.foldl askNow (t.onBurn fun b => { b with asks := [] })
  else askOwed t

/-- The oldest owed record is refused: it keeps its place, and what waited is taken as refused (R91). -/
def owedRefused (s : State) : State :=
  s.burn.asks.foldl refuseAsk (s.onBurn fun b => { b with owedAsked := false, asks := [] })

/-- BURN takes one answer of STORE. -/
def burnAnswer (a : Answer) (s : State) : State :=
  match a.tag, a.stored with
  | .lockout n, some _ => ofNewest n lockoutStored s
  | .lockout n, none => ofNewest n lockoutRefused s
  | .reset, some (_, stamp) =>
    match a.payload with
    | .reset o _ _ => resetStored o stamp s
    | _ => s
  | .reset, none => resetRecordRefused s
  | .closing, some _ => s
  | .closing, none => becomesOwed a.payload s
  | .owed, some _ => owedStored s
  | .owed, none => owedRefused s
  | .ack, some _ => ackStored s
  | .ack, none => s.onBurn fun b => { b with ackAwaited := false }

/-- BURN takes the answers that wait, oldest first, those they give rise to included. -/
def takeAnswers : Nat → State → State
  | 0, s => s
  | n + 1, s =>
    match s.store.answers with
    | [] => s
    | a :: rest => takeAnswers n (burnAnswer a (s.onStore fun st => { st with answers := rest }))

/-- Answers taken in one step at most: one stored record, and the refusals its decision can meet. -/
def answerTurns : Nat := 32

/-- The end of a step in which STORE may have answered BURN. -/
def settle (s : State) : State := takeAnswers answerTurns s

/-! ## Lockouts (R75, R84) -/

/-- Whether the overrun is asked to start at a lockout that found this state (R75). -/
def Burn.lockoutOverrun (b : Burn) : Bool :=
  match b.state with
  | .firing => true
  | .satisfied => true
  | .stopping => b.firedInCall
  | _ => false

/-- One more consecutive failure, up to 2 (R84, R90). -/
def raiseRelock (s : State) : State := s.onBurn fun b => { b with relock := min (b.relock + 1) 2 }

/-- Entry into LOCKED from a normal state, or at start with the start-up marking (R75, R79, R84). -/
def enterLocked (cause : LockCause) (left : Option BurnState) (s : State) : State :=
  let pending := s.burn.proofPending
  let origin := s.burn.pendingOrigin
  let t := (burnTo .locked s).onBurn fun b => { b with ignitionTimer := none, stopTimer := none }
  let u := if s.burn.lockoutOverrun then askOverrun t else t
  let v := postNotice .lockout (u.onBurn fun b =>
    { b with
      newest := some ⟨cause, left, b.stage, pending⟩
      lockouts := b.lockouts + 1
      lockStep := .awaitRecord, answer := .none, pressWaiting := false, darkWaiting := false,
      attendedOwed := false, lockoutOwed := false, lockoutAsked := false })
  let w :=
    if pending then
      let x := raiseRelock (v.onBurn fun b =>
        { b with proofPending := false, pendingOrigin := none, proveTimer := none })
      if x.burn.taskAt .proving then endResetTask .rejected .relock x else x
    else v
  let asks :=
    .record (.lockout w.burn.lockouts) (.lockout cause left w.burn.stage pending)
      :: (if pending then [outcomeOf .relock w.burn origin] else [])
  askAll asks (w.onBurn fun b => { b with lockoutAsked := true })

/-- The lamp lights: BURN by the state it finds (R75, R84, R88). -/
def lampRiseIn (s : State) : State :=
  match s.burn.state with
  | .locked =>
    if s.burn.lockStep = .awaitRecord then s.onBurn fun b => { b with darkWaiting := false } else s
  | .resetting =>
    if s.burn.resetPhase = .recording then s.onBurn fun b => { b with darkWaiting := false } else s
  | st =>
    if st.normal then enterLocked (lockoutCause st s.burn.stage) (some st) s else s

/-- The lamp lights (R75, R84, R88). -/
def burnLampRise (s : State) : State := lampRiseIn (findStopping s)

/-- The lamp goes dark: BURN by its state (R76, R84, R88, R89, R94). -/
def burnLampFall (s : State) : State :=
  match s.burn.state with
  | .cooldown => takeDark s
  | .held => takeDark s
  | .locked =>
    if s.burn.lockStep = .awaitRecord then s.onBurn fun b => { b with darkWaiting := true } else s
  | .resetting =>
    match s.burn.resetPhase with
    | .recording => s.onBurn fun b => { b with darkWaiting := true }
    | .pulse => s
    | .check => resetSucceeds s
  | _ => s

/-! ## The reset's timers (R89, R90) and proof (R92) -/

/-- The pulse ends (R89). -/
def pulseExpires (s : State) : State :=
  let t := endPulse s
  if t.lampLit then
    t.onBurn fun b => { b with resetPhase := .check, checkTimer := secondsTimer checkSeconds }
  else resetSucceeds t

/-- The reset has failed (R90). The proof-pending mark stays as it is: clear, but for one restored at a start in
LATCHED (DESIGN CHOICE, log entry 92). -/
def checkExpires (s : State) : State :=
  let t := raiseRelock (s.onBurn fun b => { b with checkTimer := none })
  let u := askAll [outcomeOf .resetFailed t.burn (some t.burn.resetOrigin)] t
  let v := endResetTask .rejected .resetFailed u
  if v.burn.relock = 2 then enterLatched .relock v else enterCooldown v

/-- The burner has proved its reset (R92). -/
def proveExpires (s : State) : State :=
  let origin := s.burn.pendingOrigin
  let t := s.onBurn fun b =>
    { b with
      proofPending := false, pendingOrigin := none, proveTimer := none, relock := 0,
      lastProof := some (s.now, origin) }
  let u := postNotice .recovered (askAll [outcomeOf .recovered t.burn origin] t)
  if u.burn.taskAt .proving then endResetTask .done .recovered u else u

/-- An ACK in LATCHED (R96). -/
def takeAck (s : State) : State :=
  match s.burn.state, s.burn.latchReason with
  | .latched, some r =>
    if s.burn.ackAwaited then s
    else askAll [.record .ack (.ack r)] (s.onBurn fun b => { b with ackAwaited := true })
  | _, _ => s

/-! ## The run minute (R83, R86, R91, R99) -/

/-- The run-minute counts of BURN, and the aging of the window list. -/
def Burn.minute (now : Nat) (b : Burn) : Burn :=
  { b with
    cooldown := b.cooldown.map countDown
    proofLimit := b.proofLimit.map countDown
    window := agedWindow now b.window }

/-- BURN at a run minute (R83, R87, R91). -/
def burnMinute (s : State) : State := heldMinute (askOwed (s.onBurn (Burn.minute s.now)))

/-! ## SUPPLY_HOLD (R80, R100, R101) -/

/-- Whether a RESET record is asked of STORE and not yet answered (R100). -/
def Burn.resetAwaited (b : Burn) : Bool :=
  b.state == .resetting && b.resetPhase == .recording && !b.lockoutOwed
    && !b.asks.any (fun a => decide (a = .resetRecord))

/-- A reset in progress at the beginning of the hold (R100). -/
def abandonReset (s : State) : State :=
  let origin := s.burn.resetOrigin
  let awaited := s.burn.resetAwaited
  let recorded := s.burn.resetPhase != .recording
  let t := awaitMains ((endPulse s).onBurn fun b =>
    { b with
      checkTimer := none
      asks := b.asks.filter fun a => !decide (a = .resetRecord)
      abandonWait := if awaited then some origin else b.abandonWait })
  if recorded then askAll [outcomeOf .abandoned t.burn (some origin)] t else t

/-- BURN at the beginning of SUPPLY_HOLD (R80, R100). -/
def burnHoldBegins (s : State) : State :=
  let t := (runAccumulator false (postFiring s)).onBurn fun b =>
    { b with inhibit := b.inhibit.put true .supply }
  let u :=
    match t.burn.state with
    | .idle => burnTo .inhibited t
    | .called => burnTo .inhibited t
    | .firing => burnTo .inhibited t
    | .satisfied => burnTo .inhibited t
    | .stopping => burnTo .inhibited t
    | .cooldown => awaitMains (t.onBurn fun b => { b with cooldown := none })
    | .resetting => abandonReset t
    | _ => t
  endResetTask .aborted .supply
    (stopOverrun (u.onBurn fun b =>
      { b with ignitionTimer := none, stopTimer := none, stoppingLeft := false }))

/-- LOCKED with AWAIT_MAINS at the end of the hold (R101). A COOLDOWN that an ACK began after a start holds no
LOCKOUT answer for the hold to keep, and waits here for a record that is not asked (R100; DESIGN CHOICE, log
entry 70). A lockout record still owed when the hold left RESETTING stays owed at a dark lamp and is not asked
(DESIGN CHOICE, log entry 80). -/
def lockedHoldEnds (s : State) : State :=
  if s.lampLit then
    match s.burn.answer with
    | .stored => enterCooldown s
    | .refused => enterHeld .store (s.onBurn fun b => { b with lockoutOwed := true })
    | .none => s.onBurn fun b => { b with lockStep := .awaitRecord }
  else goIdle s

/-- BURN's state at the end of the hold, SUPPLY removed (R80, R101). -/
def burnStateHoldEnds (s : State) : State :=
  match s.burn.state with
  | .locked => if s.burn.lockStep = .awaitMains then lockedHoldEnds s else s
  | .held => if s.lampLit then heldMinute s else takeDark s
  | st =>
    if st.normal then
      if s.lampLit then
        enterLocked (if s.burn.stage.scarce then .starvation else .unknown) (some st) s
      else if st = .inhibited ∧ s.burn.inhibit.isEmpty then goIdle s else s
    else s

/-- BURN reads the level of the oil valve at derivation and at the end of a hold: the accumulator runs while
it is high, and with the valve open in IDLE or INHIBITED it is RUNAWAY (R77, R79, R80). -/
def burnSeesValve (s : State) : State :=
  if s.valveOpen then runawayIfIdle (runAccumulator true s) else runAccumulator false s

/-- BURN at the end of SUPPLY_HOLD (R80, R101). -/
def burnHoldEnds (s : State) : State :=
  burnSeesValve (burnStateHoldEnds (s.onBurn fun b =>
    { b with inhibit := b.inhibit.put false .supply }))

/-! ## Start-up (R79, R102) -/

/-- The window list the history gives: its newest three young stamps (R102). -/
def restoredWindow (now : Nat) (h : List Record) : List Nat :=
  let l := (h.filter fun r =>
    match r.payload with
    | .reset o _ _ => o.nonAttended && decide (now < r.stamp + 1440)
    | _ => false).map Record.stamp
  l.drop (l.length - 3)

/-- The relock count the history gives (R102). -/
def restoredRelock (h : List Record) : Nat := min (failuresSince h).length 2

/-- The origin of a reset without an outcome (R102). -/
def restoredPending (h : List Record) : Option Origin :=
  match newestUnless Record.isReset Record.isOutcome h with
  | r :: _ => (match r.payload with | .reset o _ _ => some o | _ => none)
  | [] => none

/-- The LATCH record that stands without an ACK (R102). -/
def standingLatch (h : List Record) : Option LatchReason :=
  match newestUnless Record.isLatch Record.isAck h with
  | r :: _ => (match r.payload with | .latch reason _ => some reason | _ => none)
  | [] => none

/-- No ACK record follows the newest LATCH record (R102). -/
def latchUnacknowledged (h : List Record) : Bool :=
  match newest Record.isLatch h with
  | some r => !(newerThan r h).any Record.isAck
  | none => true

/-- A latch whose LATCH record is missing (R102). -/
def missingLatch (h : List Record) : Option LatchReason :=
  if (newestUnless Record.isLockout (fun r => r.isReset || r.isAck) h).any Record.isStarvation then
    some .starvation
  else if restoredRelock h == 2 && latchUnacknowledged h then some .relock
  else none

/-- BURN restores its recovery history (R102). -/
def restoreBurn (s : State) : State :=
  let h := s.store.history
  let latch := standingLatch h
  s.onBurn fun b =>
    { b with
      window := restoredWindow s.now h
      relock := restoredRelock h
      proofPending := (restoredPending h).isSome
      pendingOrigin := restoredPending h
      latchReason := match latch with | some r => some r | none => missingLatch h
      latchMissing := latch.isNone && (missingLatch h).isSome }

/-- The telling that waits, if it is one. -/
def Held.toldHold : Held → Option Bool
  | .hold v => some v
  | .edge _ _ => none

/-- The SUPPLY_HOLD of step 3 (R154): what stood before the first change of the hold that still waits for BURN,
and the present one when none waits (log entry 83). -/
def State.startHold (s : State) : Bool :=
  match s.inputs.held.findSome? Held.toldHold with
  | some v => !v
  | none => s.supply.hold

/-- BURN derives its state (R79): latched, then a lit lamp outside the hold, then IDLE or INHIBITED. The hold is
that of step 3 (R154 step 5). -/
def deriveBurner (s : State) : State :=
  let g := s.posts.stageBurn.getLast?.getD s.burn.stage
  let t := (s.onPosts fun p => { p with stageBurn := [] }).onBurn fun b =>
    { b with
      stage := g
      inhibit := (b.inhibit.put s.startHold .supply).put (g == .dry) .fuelDry }
  burnSeesValve
    (if t.burn.latchReason.isSome then postNotice .latch (burnTo .latched t)
     else if t.lampLit && !s.startHold then
       enterLocked (if g.scarce then .starvation else .unknown) none t
     else goIdle t)

/-- The LATCH record that start-up found missing is asked (R102); none once an ACK has cleared the latch before
the end of start-up (DESIGN CHOICE, log entry 93). -/
def askMissingLatch (s : State) : State :=
  match s.burn.latchMissing, s.burn.latchReason with
  | true, some r =>
    askAll [.record .closing (.latch r s.burn.relock)]
      (s.onBurn fun b => { b with latchMissing := false })
  | _, _ => s

end Sys2Proof.Machine
end

