-- ==== Sys2Proof/Machine/TankGauge.lean ====
section
/-! DEFINITION. GAUGE's shared operations: samples, the window, V15, the fault and the estimate, and
the table load (Chapter 6). -/

namespace Sys2Proof.Machine

/-! ## Values handed to FUEL (R112) -/

/-- GAUGE hands FUEL an offered value; a GOOD one becomes the basis (R112). -/
def handValue (v : Nat) (st : ValueStatus) (s : State) : State :=
  fuelTakesValue v st (s.onGauge fun g =>
    if st = .good then
      { g with offered := v, status := st, basis := v, basisGood := true, metered := 0 }
    else { g with offered := v, status := st })

/-- GAUGE hands FUEL an estimate (R114). -/
def handEstimate (s : State) : State :=
  handValue (estimateOf s.gauge.basis s.gauge.metered) .estimate s

/-! ## GAUGE_FAULT (R113) -/

/-- The window emptied, the faulty count 0, and nothing derived from the window (R104, R113). -/
def Gauge.emptyWindow (g : Gauge) : Gauge :=
  { g with faulty := 0, window := [], filtered := none, vol := none, v15 := none }

/-- Entry into GAUGE_FAULT (R113). -/
def enterGaugeFault (cause : GaugeCause) (s : State) : State :=
  (s.onGauge fun g => { g.emptyWindow with fault := true, cause := cause })
    |> fuelFaultEntered |> handEstimate |> postNotice .gauge

/-- SCAN tells GAUGE that MEASURE_FAULT has been set (R113). -/
def gaugeTakesMeasureFault (s : State) : State :=
  if s.gauge.fault then s.onGauge fun g => { g.emptyWindow with cause := .measure }
  else enterGaugeFault .measure s

/-! ## Samples (R105 to R111) -/

/-- V and V15 of a depth, with the T used and the state of TANK_TEMP then (R106, R110, R111). -/
def computeVolumes (depth : Nat) (s : State) : State :=
  let t := tankDegrees s.gauge.heldTemp
  let v := volumeAt s.par.table depth
  s.onGauge fun g =>
    { g with
      filtered := some depth, vol := some v, usedTemp := (t, s.scan.tankTemp.state)
      v15 := some (compensate v s.par.coeff t) }

/-- A full window gives a filtered depth, V and V15, handed on as a GOOD value (R109 to R112). -/
def handFiltered (s : State) : State :=
  let t := computeVolumes (medianOf s.gauge.window) s
  handValue (t.gauge.v15.getD 0) .good t

/-- The GOOD sample that fills the window ends GAUGE_FAULT (R115). -/
def leaveGaugeFault (s : State) : State :=
  postNotice .gauge (handFiltered (s.onGauge fun g => { g with fault := false, cause := .none }))

/-- A FAULTY sample (R108). -/
def takeFaulty (c : Nat) (s : State) : State :=
  let t := s.onGauge fun g => { g with latest := some ⟨c, none⟩ }
  if s.gauge.fault then t.onGauge fun g => { g with window := [] }
  else if 3 ≤ s.gauge.faulty + 1 then enterGaugeFault .probe t
  else t.onGauge fun g => { g with faulty := g.faulty + 1 }

/-- A GOOD sample (R109, R115). -/
def takeGood (c d : Nat) (s : State) : State :=
  let t := s.onGauge fun g =>
    { g with latest := some ⟨c, some d⟩, faulty := 0, window := pushDepth g.window d }
  if t.gauge.window.length < 5 then t
  else if s.gauge.fault then leaveGaugeFault t
  else handFiltered t

/-- A sample from a due pass's count (R107). -/
def takeSample (c : Nat) (s : State) : State :=
  if probeFaulty s.par.zeroCount c then takeFaulty c s
  else takeGood c (depthOf s.par.zeroCount s.par.fullCount s.par.fullDepth c) s

/-- A due pass: a sample unless MEASURE_FAULT stood at it, and an estimate while the fault goes on
(R105, R114). -/
def takeDue (c : Nat) (measureFault : Bool) (s : State) : State :=
  let t := if measureFault then s else takeSample c s
  if s.gauge.fault && t.gauge.fault then handEstimate t else t

/-- SCAN's offer of a pass to GAUGE: the temperature, and the count of passes (R105, R106). -/
def gaugeTakesPass (s : State) : State :=
  let r := s.scan.tankTemp
  let probe := s.scan.probe.count.getD 0
  s.onGauge fun g =>
    let g := { g with
      heldTemp := match r.state, r.reading with
        | .valid, some (_, t) => some t
        | _, _ => g.heldTemp }
    if s.supply.hold then g
    else if 15 ≤ g.counter + 1 then { g with counter := 0, due := some (probe, s.scan.measureFault) }
    else { g with counter := g.counter + 1 }

/-- GAUGE at the beginning of SUPPLY_HOLD: no sample is taken of a due pass still to be taken (R121). -/
def Gauge.holdBegins (g : Gauge) : Gauge := { g with due := none }

/-- GAUGE at the end of SUPPLY_HOLD (R105, R121). -/
def Gauge.holdEnds (g : Gauge) : Gauge := { g with counter := 0, faulty := 0 }

/-! ## The table load (R116 to R119) -/

/-- Seconds of the inactivity timer (R116). -/
def inactivitySeconds : Nat := 60

/-- Begin a load (R116). -/
def beginLoad (n check : Nat) (s : State) : State :=
  s.onGauge fun g =>
    { g with load := some { expected := n, check := check, slots := List.replicate 40 none,
                            timer := secondsTimer inactivitySeconds } }

/-- Points written from an index on (R117). -/
def stagePoints : Nat → List Point → List (Option Point) → List (Option Point)
  | _, [], slots => slots
  | i, p :: rest, slots => stagePoints (i + 1) rest (slots.set i (some p))

/-- How many indexes are filled (R117). -/
def TableLoad.filled (l : TableLoad) : Nat := (l.slots.filter Option.isSome).length

/-- The points of a complete load, none when an index is empty (R118). -/
def TableLoad.points (l : TableLoad) : Option (List Point) := (l.slots.take l.expected).mapM id

/-- Each depth greater than the one before, each volume at least the one before (R118). -/
def pointsOrdered : List Point → Bool
  | p :: q :: rest =>
    decide (p.depth < q.depth) && decide (p.volume ≤ q.volume) && pointsOrdered (q :: rest)
  | _ => true

/-- The check value of a list of points (R118). -/
def pointsCheck (ps : List Point) : Nat := (ps.map fun p => p.depth + p.volume).sum % 65536

/-- What TABLE_END's checks decide (Table 6-9). -/
def TableLoad.validate (l : TableLoad) : Except ReasonCode (List Point) :=
  match l.points with
  | none => .error .missing
  | some ps =>
    if !pointsOrdered ps then .error .order
    else if pointsCheck ps ≠ l.check then .error .check
    else .ok ps

/-- The load ends: the staging table emptied, the timer stopped, the task ended (R118, R119). -/
def endLoad (o : TaskOutcome) (r : ReasonCode) (s : State) : State :=
  endTask o r 0 (s.onGauge fun g => { g with load := none })

/-- The working table is replaced (R118). -/
def replaceTable (ps : List Point) (s : State) : State :=
  let t := fuelTableReplaced (s.onSett fun b =>
    { b with working := { b.working with table := ps }, changed := true })
  match t.gauge.filtered with
  | some d =>
    let u := computeVolumes d t
    handValue (u.gauge.v15.getD 0) .good u
  | none => t.onGauge fun g => { g with vol := none, v15 := none }

/-! ## Start-up (R120) -/

/-- GAUGE's restored basis and offered value (R120). -/
def restoreGauge (s : State) : State :=
  let v := (restoredGauge s.store.history).1
  s.onGauge fun g => { g with basis := v, basisGood := false, offered := v, status := .restored }

end Sys2Proof.Machine
end

