-- ==== Sys2Proof/Machine/ScanPass.lean ====
section
/-! DEFINITION. SCAN's shared operations: passes, the self-test, MEASURE_FAULT and the offers
(Chapter 1). -/

namespace Sys2Proof.Machine

/-- The time between two pass starts, in milliseconds (R1). -/
def passMs : Nat := 2000

/-- The pass counter's last value (R8). -/
def passCounterMost : Nat := 449

/-- A self-test is due at the start of a pass (R8). -/
def Scan.testDue (c : Scan) : Bool :=
  c.passCounter == passCounterMost || c.measureFault || c.taskWait == .forStart

/-- A pass starts (R1, R8, R13). -/
def startPass (s : State) : State :=
  s.onScan fun c =>
    { c with
      passTimer := some passMs
      inFlight := some c.testDue
      taskWait := if c.taskWait = .forStart then .inPass else c.taskWait }

/-! ## Stage 1: the self-test verdict (R8 to R12) -/

/-- MEASURE_FAULT changes, and the blocks of Table 1-3 are told (R10 to R12). -/
def tellMeasureFault (v : Bool) (s : State) : State :=
  let t := outTakesMeasureFault v (s.onScan fun c => { c with measureFault := v })
  let u := if v then gaugeTakesMeasureFault t else t
  postNotice .measure (evaluateBoilerFrost (evaluateOverheat u))

/-- The verdict of a self-test pass on MEASURE_FAULT (R10, R11). -/
def settleVerdict (pass : Bool) (s : State) : State :=
  if pass then
    if s.scan.measureFault then
      if 3 ≤ s.scan.consecPass + 1 then
        tellMeasureFault false (s.onScan fun c => { c with consecPass := 0 })
      else s.onScan fun c => { c with consecPass := c.consecPass + 1 }
    else s.onScan fun c => { c with consecPass := 0 }
  else
    let t := s.onScan fun c => { c with consecPass := 0 }
    if s.scan.measureFault then t else tellMeasureFault true t

/-- Stage 1 of a pass completion (R7 to R11). -/
def settleTest (ref : Bool) (p : PassCounts) (s : State) : State :=
  if ref then
    let pass := refsPass p.low.toNat p.mid.toNat p.high.toNat
    settleVerdict pass (s.onScan fun c =>
      { c with
        passCounter := 0
        lastTest := some ⟨p.low.toNat, p.mid.toNat, p.high.toNat, pass, s.now⟩ })
  else s.onScan fun c => { c with passCounter := min (c.passCounter + 1) passCounterMost }

/-! ## Stage 2: records (R2 to R5) -/

/-- A temperature record after count `c` (R2 to R4). -/
def tempRecordOf (c : Nat) : TempRecord :=
  { reading := some (c, convertTemp c), state := tempStateOf c, fresh := true }

/-- A change of a temperature input's state posts the MEASURE notice, but from EMPTY to VALID (R4). -/
def tempNotice (old new : TempState) : Bool :=
  old != new && !(old == .empty && new == .valid)

/-- Stage 2 of a pass completion (R7). -/
def writeRecords (p : PassCounts) (s : State) : State :=
  let tank := tempRecordOf p.tank.toNat
  let flow := tempRecordOf p.flow.toNat
  let t := s.onScan fun c =>
    { c with
      probe := ⟨some p.probe.toNat, true⟩
      tankTemp := tank
      flowTemp := flow
      cs := p.cs.map fun n => ⟨some (n.toNat, convertCurrent n.toNat), true⟩ }
  if tempNotice s.scan.tankTemp.state tank.state || tempNotice s.scan.flowTemp.state flow.state then
    postNotice .measure t
  else t

/-! ## Stages 3 and 4 (R7, R14) -/

/-- Stage 3: the offers, in the order R7 lists them (log entry 16). -/
def offerPass (s : State) : State :=
  s |> outTakesPass |> gaugeTakesPass |> evaluateLineHeat |> burnTakesFlow |> evaluateBoilerFrost

/-- The 12 bytes of a SELFTEST task's result (R14). -/
def selfTestResult (t : SelfTest) (measureFault : Bool) : List Byte :=
  byte16 t.low ++ byte16 t.mid ++ byte16 t.high ++ byte8 (if t.pass then 0 else 1)
    ++ flag measureFault ++ byte32 t.stamp

/-- Stage 4: the SELFTEST task that waited for this pass ends (R14). -/
def endSelfTest (s : State) : State :=
  if s.scan.taskWait = .inPass then
    let t := s.onScan fun c => { c with taskWait := .none }
    match s.link.buffer, s.scan.lastTest with
    | .empty, some r => endTask .done .none 12 (fillBuffer (selfTestResult r s.scan.measureFault) t)
    | _, _ => endTask .rejected .bufferHeld 0 t
  else s

/-- A pass completes (R7). -/
def completePass (p : PassCounts) (s : State) : State :=
  match s.scan.inFlight with
  | some ref =>
    settle (endSelfTest (offerPass (writeRecords p (settleTest ref p
      (s.onScan fun c => { c with inFlight := none })))))
  | none => s

end Sys2Proof.Machine
end

