-- ==== Sys2Proof/Machine/SupplyMonitor.lean ====
section
/-! DEFINITION. SUPPLY's shared operations: the beginning and the end of SUPPLY_HOLD (Chapter 9). -/

namespace Sys2Proof.Machine

/-- Seconds of the return timer (R156). -/
def returnSeconds : Nat := 30

/-- The falls of the heat request on their way reach BURN now (R156). -/
def drainHeat (s : State) : State :=
  s.posts.heat.foldl (fun t v => burnTakesHeat v t) (s.onPosts fun p => { p with heat := [] })

/-- The changes of pump proven on their way reach BURN now (R156). -/
def drainPump (s : State) : State :=
  s.posts.pump.foldl (fun t v => burnTakesPump v t) (s.onPosts fun p => { p with pump := [] })

/-- What reaches BURN ahead of SUPPLY's telling (R156; log entry 10). -/
def drainFirst : HoldOrder → State → State
  | .supplyFirst, s => s
  | .heatFirst, s => drainHeat s
  | .pumpFirst, s => drainPump s

/-- BURN takes an event once it has derived its state. Before that a PRESS or an ACK is lost (DESIGN CHOICE, log
entry 84). -/
def ifBurning (f : State → State) (s : State) : State := if s.burnActive then f s else s

/-- SUPPLY's telling that the hold stands or has ended reaches BURN, which acts on it by `act`. Before BURN has
derived its state, by the hold of step 3, the telling waits behind it (R154; log entry 83). -/
def tellBurn (stands : Bool) (act : State → State) (s : State) : State :=
  if s.burnActive then act s else s.onInputs fun i => { i with held := i.held ++ [.hold stands] }

/-- BURN takes the beginning of the hold, after what reaches it ahead of SUPPLY's telling (R156). -/
def burnTakesHold (order : HoldOrder) (s : State) : State := burnHoldBegins (drainFirst order s)

/-- The blocks of Table 9-2 take the beginning of the hold (R156). Before BURN has derived its state the telling
waits, and what else is on its way stays posted (R79, R154; log entries 10 and 83). -/
def tellHoldBegins (order : HoldOrder) (s : State) : State :=
  ((s |> outHoldBegins |> zonesHoldBegins).onGauge Gauge.holdBegins)
    |> tellBurn true (burnTakesHold order) |> settle

/-- SUPPLY_HOLD begins (R156). -/
def beginHold (order : HoldOrder) (s : State) : State :=
  tellHoldBegins order (postNotice .mains (s.onSupply fun p =>
    { p with hold := true, holdStart := s.now, returnTimer := none }))

/-- The blocks take the end of the hold (R157). BURN's appends are served before STORE looks at rotation, so
that with a full head they meet no erase they could wait for (R142; DESIGN CHOICE, log entry 89). -/
def tellHoldEnds (s : State) : State :=
  ((s |> outHoldEnds |> tellBurn false burnHoldEnds |> zonesHoldEnds).onGauge Gauge.holdEnds)
    |> lookAtRotation |> settle

/-- SUPPLY_HOLD ends (R157). -/
def endHold (s : State) : State :=
  let minutes := s.now - s.supply.holdStart
  let t := s.onSupply fun p =>
    { p with hold := false, returnTimer := none, lastDuration := some minutes }
  tellHoldEnds (postNotice .mains (appendRecord (.mains minutes) none t))

/-! ## MAINS_OK (R156, R157) -/

/-- SUPPLY has taken the first level of MAINS_OK (R154). -/
def State.supplyActive (s : State) : Bool :=
  s.phase == .running || s.phase == .derived || s.phase == .burnerWait

/-- MAINS_OK falls: the hold begins, or a running return timer stops (R156, R157). -/
def mainsFalls (order : HoldOrder) (s : State) : State :=
  if s.supplyActive then
    if s.supply.hold then s.onSupply fun p => { p with returnTimer := none }
    else beginHold order s
  else s

/-- MAINS_OK rises in the hold: the return timer is loaded (R157). -/
def mainsRises (s : State) : State :=
  if s.supplyActive && s.supply.hold then
    s.onSupply fun p => { p with returnTimer := secondsTimer returnSeconds }
  else s

end Sys2Proof.Machine
end

