-- ==== Sys2Proof/Machine/Readings.lean ====
section
/-! DEFINITION. What the part reports: IDENT, STATUS, the reading groups and the snapshots of the
notices, field by field in the order their rules list them (R162). -/

namespace Sys2Proof.Machine

/-! ## Parts that several reports share -/

/-- A record's fields behind its empty marking (R6). -/
def probeBytes (r : ProbeRecord) : List Byte := optional byte16 r.count ++ flag r.fresh

/-- A temperature record (R6); its value's range -400..1,200 takes four bytes (R162). -/
def tempBytes (r : TempRecord) : List Byte :=
  (match r.reading with
    | none => byte8 0 ++ byte16 0 ++ signed32 0
    | some (c, t) => byte8 1 ++ byte16 c ++ signed32 t)
    ++ byte8 r.state.code ++ flag r.fresh

/-- A current record (R6). -/
def currentBytes (r : CurrentRecord) : List Byte :=
  (match r.reading with
    | none => byte8 0 ++ byte16 0 ++ byte16 0
    | some (c, ma) => byte8 1 ++ byte16 c ++ byte16 ma)
    ++ flag r.fresh

/-- The last self-test result, or its absence (R9). -/
def selfTestBytes : Option SelfTest → List Byte
  | none => List.replicate 12 0
  | some t =>
    byte8 1 ++ byte16 t.low ++ byte16 t.mid ++ byte16 t.high ++ byte8 (if t.pass then 0 else 1)
      ++ byte32 t.stamp

/-- An override: its value by 11.2, NONE when absent, and its minutes (log entry 21). -/
def overrideBytes : Option (Bool × Nat) → List Byte
  | none => byte8 2 ++ optional byte8 none
  | some (v, m) => byte8 (if v then 0 else 1) ++ optional byte8 (some m)

/-- The newest lockout's cause, state left and fuel stage used, zeros before any (log entry 21). -/
def lockoutBytes : Option Lockout → List Byte
  | none => [0, 0, 0]
  | some l => byte8 l.cause.code ++ byte8 (leftCode l.left) ++ byte8 l.stage.code

/-- Whether the newest lockout was a relock. -/
def wasRelock : Option Lockout → Bool
  | none => false
  | some l => l.wasPending

/-- Minutes until the oldest window stamp leaves the list, none with an empty list (R83). -/
def State.windowLeft (s : State) : Option Nat := s.burn.window.head?.map fun t => 1440 - (s.now - t)

/-- The return timer (R158). -/
def returnBytes (s : State) : List Byte := timerSeconds byte8 s.supply.returnTimer

/-- The value in force with its status (R122). -/
def valueBytes (f : Fuel) : List Byte := byte16 f.value ++ byte8 f.status.code

/-- The image state with its check word (R175). -/
def imageBytes : Option Word16 → List Byte
  | none => byte8 1 ++ optional byte16 none
  | some w => byte8 0 ++ optional byte16 (some w.toNat)

/-- The basis with its mark, GOOD 0 and RESTORED 1 (Table 6-1). -/
def basisBytes (g : Gauge) : List Byte := byte16 g.basis ++ byte8 (if g.basisGood then 0 else 1)

/-- The bound addresses with their STAT_LOST state and zone, in ascending order of address (R40; DESIGN CHOICE,
log entry 91): at most six, since each zone binds one (R37). -/
def statLostBytes (s : State) : List Byte :=
  listField 6 3 (s.boundNodes.map fun n =>
    byte8 (n.val + 1) ++ flag (s.nodeAt n).statLost
      ++ byte8 (match (s.nodeAt n).zone with | some z => z.val + 1 | none => 0))

/-- A set of notices as a bit mask, bit 0 for the first kind (R162). -/
def noticeMask (l : List Notice) : Nat := (l.map fun n => 2 ^ (n.code - 1)).sum

/-- A run stamp with what came with it, zeros when there is none. -/
def stampOr (o : Option Nat) : List Byte := byte32 (o.getD 0)

/-! ## Snapshots (R172) -/

/-- The last task end (R166). -/
def taskEndBytes : Option TaskEnd → List Byte
  | none => List.replicate 7 0
  | some e =>
    byte8 e.kind.code ++ byte16 e.serial ++ byte8 e.outcome.code ++ byte8 e.reason.code ++ byte16 e.size

/-- The snapshot a block takes when its notice is sent (R12, R19, R32, R40, R56, R69, R75, R87, R92, R95,
R113, R128, R130, R132, R158, R166, R175). -/
def snapshot (n : Notice) (s : State) : List Byte :=
  match n with
  | .taskEnd => taskEndBytes s.link.lastEnd
  | .lockout =>
    byte8 s.burn.state.code ++ lockoutBytes s.burn.newest ++ byte8 s.burn.inhibit.mask
      ++ flag s.burn.runaway ++ flag s.burn.uncontrolled ++ flag s.burn.proofPending
  | .latch =>
    byte8 s.burn.state.code ++ byte8 (latchCode s.burn.latchReason) ++ byte8 s.burn.relock
      ++ flag s.lampLit
  | .held =>
    byte8 s.burn.state.code ++ byte8 s.burn.heldReason.code ++ byte8 (Authority.code s.par.authority)
      ++ byte8 s.par.budget ++ byte8 s.burn.window.length ++ optional byte16 s.windowLeft
      ++ flag s.burn.lockoutOwed
  | .recovered =>
    stampOr (s.burn.lastProof.map Prod.fst) ++ byte8 (originCode (s.burn.lastProof.bind Prod.snd))
  | .mains =>
    flag s.supply.hold ++ byte32 s.supply.holdStart ++ returnBytes s
      ++ optional byte32 s.supply.lastDuration
  | .mode => byte8 s.out.mode.code ++ byte8 s.out.cause.code
  | .fuelStage =>
    byte8 s.fuel.stage.code ++ valueBytes s.fuel ++ byte16 s.par.low ++ byte16 s.par.reserve
      ++ byte16 s.par.dry ++ Config.fourthStageSetting s.par
  | .leakSuspect =>
    flag s.fuel.leakFlag ++ byte8 s.fuel.leakCount ++ optionalSigned32 s.fuel.lastD
      ++ byte16 s.fuel.reference ++ byte32 s.fuel.refStamp ++ valueBytes s.fuel
  | .delivery =>
    match s.fuel.lastDelivery with
    | none => List.replicate 12 0
    | some d => byte32 d.amount ++ byte16 d.before ++ byte16 d.after ++ byte32 d.stamp
  | .gauge =>
    flag s.gauge.fault ++ byte8 s.gauge.cause.code ++ byte16 s.gauge.offered
      ++ byte8 s.gauge.status.code ++ byte8 s.gauge.window.length ++ basisBytes s.gauge
  | .measure =>
    flag s.scan.measureFault ++ byte8 s.scan.tankTemp.state.code ++ byte8 s.scan.flowTemp.state.code
      ++ selfTestBytes s.scan.lastTest
  | .channelFault => allChannels.flatMap fun ch => byte8 (s.chan ch).load.code
  | .zoneFault =>
    allZones.flatMap fun z => byte8 (s.zoneAt z).state.code ++ byte8 (s.zoneAt z).cause.code
  | .statLost => statLostBytes s
  | .noStart =>
    stampOr (s.burn.lastNoStart.map Prod.fst) ++ optionalSigned32 (s.burn.lastNoStart.bind Prod.snd)
      ++ timerSeconds byte16 s.burn.noStart
  | .settings => flag s.sett.defaulted ++ imageBytes s.sett.imageState ++ flag s.sett.changed

/-! ## IDENT and STATUS (R164) -/

/-- The IDENT reply's data: "WB6", the link format, the numbers of zones, channels and nodes, the buffer
size and the largest FETCH (R164). -/
def identBytes : List Byte := [0x57, 0x42, 0x36, 1, 6, 10, 15] ++ byte16 512 ++ byte8 96

/-- The task slot (R164). -/
def slotBytes : Option (TaskKind × Nat) → List Byte
  | none => [0, 0, 0, 0]
  | some (k, serial) => byte8 1 ++ byte8 k.code ++ byte16 serial

/-- Follow mode with its index, count and wrap flag (R171). -/
def followBytes : Option Follow → List Byte
  | none => [0, 0, 0, 0]
  | some f => byte8 1 ++ byte8 f.index ++ byte8 f.count ++ flag f.wrap

/-- The STATUS reply's data (R164, R168, R171). -/
def statusBytes (s : State) : List Byte :=
  byte8 s.out.mode.code ++ byte8 s.out.cause.code
    ++ byte8 s.burn.state.code ++ byte8 s.burn.inhibit.mask
    ++ timerSeconds byte16 s.burn.antiCycle ++ timerSeconds byte16 s.burn.noStart
    ++ flag s.zone.heatRequest ++ flag s.out.pumpProven
    ++ byte8 s.fuel.stage.code ++ flag s.fuel.leakFlag
    ++ flag s.scan.measureFault ++ flag s.supply.hold ++ returnBytes s
    ++ byte32 s.store.runMinute ++ byte32 s.store.wall ++ flag s.store.wallSet
    ++ flag s.store.droppedFlag ++ flag s.sett.defaulted
    ++ flag s.keyActive
    ++ slotBytes s.link.slot ++ byte8 s.link.buffer.code ++ byte16 s.link.content.length
    ++ followBytes s.link.follow
    ++ (let m := noticeMask s.link.notices
        [BitVec.ofNat 8 m, BitVec.ofNat 8 (m / 256), BitVec.ofNat 8 (m / 65536)])
    ++ timerSeconds byte16 s.link.silence ++ flag s.link.overrun

/-! ## Reading groups (Table 11-2) -/

/-- The measurement group (R6, R9, R12): the thirteen records, then MEASURE_FAULT, then the last self-test
result; the order of the three is the model's (DESIGN CHOICE, log entry 58). -/
def measurementBytes (s : State) : List Byte :=
  probeBytes s.scan.probe ++ tempBytes s.scan.tankTemp ++ tempBytes s.scan.flowTemp
    ++ allChannels.flatMap (fun ch => currentBytes s.scan.cs[ch])
    ++ flag s.scan.measureFault ++ selfTestBytes s.scan.lastTest

/-- The channel reading group (Table 2-2, R6, R33): Table 2-2's fields, then the record of CSn, then pump
proven; the order of the three is the model's (DESIGN CHOICE, log entry 58). -/
def channelBytes (ch : Fin 10) (s : State) : List Byte :=
  let c := s.chan ch
  let p := s.chanSet ch
  flag c.demand ++ overrideBytes c.override ++ byte8 (Pattern.code p.failSafe)
    ++ byte8 (Pattern.code p.standby)
    ++ byte16 p.minMA ++ byte16 p.maxMA ++ byte8 c.load.code ++ byte8 c.low ++ byte8 c.high
    ++ byte8 c.offs ++ byte8 c.judgement.code ++ byte8 c.settle ++ flag c.effective
    ++ currentBytes s.scan.cs[ch] ++ flag s.out.pumpProven

/-- A zone's state timer: travel seconds or retry minutes (Table 3-8). -/
def zoneTimerBytes : ZoneTimer → List Byte
  | .stopped => optional byte8 none
  | .travel ms => timerSeconds byte8 (some ms)
  | .retry n => optional byte8 (some n)

/-- The battery-low flag of a zone's node (R46), clear for a zone that binds none (DESIGN CHOICE, log entry
79). -/
def State.zoneBattery (s : State) (z : Fin 6) : Bool :=
  match boundNode (s.zoneSet z) with
  | some n => (s.nodeAt n).batteryLow
  | none => false

/-- The zone reading group: Tables 3-7 and 3-8, then the battery flag and the end switch, then R57's and R58's
fields (R46, R57, R58); the order of these parts is the model's (DESIGN CHOICE, log entry 58). -/
def zoneBytes (z : Fin 6) (s : State) : List Byte :=
  let p := s.zoneSet z
  let zn := s.zoneAt z
  flag p.enabled ++ byte8 p.node ++ byte8 (NodeKind.code p.kind) ++ byte16 p.comfort
    ++ byte16 p.economy ++ byte8 p.frost ++ byte8 p.hyst ++ byte8 p.travel ++ byte8 p.duty
    ++ byte8 (HeatMode.code p.failSafe)
    ++ byte8 (HeatMode.code zn.hostMode) ++ optionalSigned32 zn.temp ++ optionalSigned32 zn.dial
    ++ byte8 (contactCode zn.contact) ++ flag zn.statLost ++ byte8 zn.sighted.code
    ++ optional byte16 (if zn.sighted = .blind then some (zn.cyclePos / 1000) else none)
    ++ optional byte16 zn.target ++ flag zn.modeCall ++ flag zn.frostCall ++ flag zn.sinkDrive
    ++ flag zn.call ++ byte8 zn.state.code ++ zoneTimerBytes zn.timer ++ byte8 zn.cause.code
    ++ flag zn.writeFailed ++ flag (s.zoneBattery z) ++ flag (s.endIsMade z)
    ++ flag s.zone.heatRequest ++ flag s.zone.boilerFrost ++ byte8 (s.par.sink.val + 1)

/-- The loop reading group: the write queue (R41). -/
def loopBytes (s : State) : List Byte :=
  listField 8 6 (s.loop.queue.map fun e =>
    byte8 (e.node.val + 1) ++ byte8 e.item.code ++ byte16 e.value ++ flag e.failedOnce
      ++ flag e.inSlot)

/-- The reset in progress: its origin and phase while RESETTING stands (Table 5-2). -/
def resetBytes (b : Burn) : List Byte :=
  if b.state = .resetting then byte8 b.resetOrigin.code ++ byte8 b.resetPhase.code else [0, 0]

/-- The owed records, in the order refused: their number, then of each its kind code and its fields (Table
8-3). The list has no maximum, so that no unused entries follow (R81, R162; DESIGN CHOICE, log entry
59). -/
def owedBytes (l : List Payload) : List Byte :=
  byte8 l.length ++ l.flatMap fun p => byte8 p.kindCode ++ p.fields

/-- The burner reading group (R6, R62, R77, R78, R81, R83). The overrun state is coded as R62 and R74 list it,
RUNNING 0 and STOPPED 1 (R162). The run minutes until the oldest stamp leaves (R83), for which Table 5-2 has no
row, stand right after the window list (DESIGN CHOICE, log entry 88). -/
def burnerBytes (s : State) : List Byte :=
  let b := s.burn
  byte8 b.state.code ++ byte8 b.inhibit.mask ++ flag b.firedInCall
    ++ timerSeconds byte8 b.ignitionTimer ++ timerSeconds byte8 b.stopTimer
    ++ timerSeconds byte16 b.antiCycle ++ timerSeconds byte16 b.noStart
    ++ timerSeconds byte16 b.overrunTimer ++ flag (!b.overrun) ++ flag b.runaway ++ flag b.uncontrolled
    ++ byte8 b.stage.code ++ byte16 b.accMs ++ byte32 b.totalSeconds ++ byte32 b.starts
    ++ flag s.valveOpen ++ flag s.lampLit ++ tempBytes s.scan.flowTemp
    ++ byte8 b.lockStep.code ++ lockoutBytes b.newest ++ flag (wasRelock b.newest)
    ++ byte8 b.answer.code ++ flag b.lockoutOwed ++ optional byte8 b.cooldown
    ++ byte8 b.heldReason.code ++ resetBytes b ++ timerSeconds byte8 b.pulseTimer
    ++ timerSeconds byte8 b.checkTimer ++ flag b.attendedOwed ++ flag b.pressWaiting
    ++ flag b.darkWaiting ++ flag b.proofPending ++ byte8 (originCode b.pendingOrigin)
    ++ optional byte8 b.proofLimit ++ flag b.ackAwaited ++ timerSeconds byte16 b.proveTimer
    ++ byte8 b.relock ++ listField 3 4 (b.window.map byte32) ++ optional byte16 s.windowLeft
    ++ owedBytes b.owed ++ byte8 (latchCode b.latchReason)

/-- The latest sample: its count, class and depth (Table 6-1). -/
def sampleBytes : Option Sample → List Byte
  | none => List.replicate 7 0
  | some x =>
    byte8 1 ++ byte16 x.count ++ byte8 (if x.depth.isSome then 0 else 1) ++ optional byte16 x.depth

/-- T, whose range -30..50 takes four bytes (R162), and right after it the state of TANK_TEMP with the last V15
(R106; the place is the model's, DESIGN CHOICE, log entry 58). -/
def usedTempBytes (u : Int × TempState) : List Byte := signed32 u.1 ++ byte8 u.2.code

/-- What is reported of the staging table: expected points, indexes filled, inactivity timer (R103); without a
load both counts are 0, with no presence byte (log entry 21). -/
def loadBytes : Option TableLoad → List Byte
  | none => byte8 0 ++ byte8 0 ++ timerSeconds byte8 none
  | some l => byte8 l.expected ++ byte8 l.filled ++ timerSeconds byte8 l.timer

/-- GAUGE's fields (Table 6-1). -/
def gaugeBytes (g : Gauge) : List Byte :=
  byte8 g.counter ++ sampleBytes g.latest ++ byte8 g.faulty ++ listField 5 2 (g.window.map byte16)
    ++ optional byte16 g.filtered ++ optional byte16 g.vol ++ optionalSigned32 g.heldTemp
    ++ usedTempBytes g.usedTemp ++ optional byte16 g.v15 ++ flag g.fault ++ byte8 g.cause.code
    ++ basisBytes g ++ byte32 g.metered ++ byte16 g.offered ++ byte8 g.status.code
    ++ loadBytes g.load

/-- Settling (Table 7-2). -/
def settlingBytes : Option Settling → List Byte
  | none => List.replicate 5 0
  | some x => byte8 1 ++ byte8 x.steady ++ byte16 x.previous ++ byte8 x.minutes

/-- FUEL's fields (Table 7-2, R134). -/
def fuelFieldBytes (f : Fuel) : List Byte :=
  valueBytes f ++ byte16 f.reference ++ byte32 f.refStamp ++ byte8 (if f.refGood then 0 else 1)
    ++ byte8 f.awaiting.code ++ byte32 f.meter ++ byte16 f.remainder ++ byte32 f.lifetime
    ++ byte16 f.periodTimer ++ flag f.ungauged ++ flag f.deferred ++ byte8 f.leakCount
    ++ optionalSigned32 f.lastD ++ flag f.leakFlag ++ settlingBytes f.settling
    ++ byte8 f.stage.code ++ flag f.lineHeat ++ byte8 f.trendTimer ++ byte16 f.hourMeter
    ++ byte16 f.hourFiring ++ byte8 f.trend.length

/-- The fuel reading group (R6, R103, R122): R6's two records, then GAUGE's fields, then FUEL's; the order of
the three is the model's (DESIGN CHOICE, log entry 58). -/
def fuelBytes (s : State) : List Byte :=
  probeBytes s.scan.probe ++ tempBytes s.scan.tankTemp ++ gaugeBytes s.gauge ++ fuelFieldBytes s.fuel

/-- An erase: its sector, the settings sector as 4, and its erase time still needed (R143; log entry
21). -/
def eraseBytes : Option (Erase × Nat) → List Byte
  | none => [0, 0, 0, 0]
  | some (.sector i, ms) => byte8 1 ++ byte8 i.val ++ byte16 ms
  | some (.settings, ms) => byte8 1 ++ byte8 4 ++ byte16 ms

/-- The erase in flight or suspended (R143). -/
def Store.presentErase (st : Store) : Option (Erase × Nat) :=
  match st.array with
  | .erasing e ms => some (e, ms)
  | _ => st.suspended

/-- Run minutes until a guard deferral ends (R144). -/
def Store.guardMinutesLeft (st : Store) : Option Nat :=
  match st.rotation, st.tail with
  | .byGuard, some t => some (guardLeft st.runMinute st.sectors[t])
  | _, _ => none

/-- The copies of the carry list not yet programmed: those that wait for the erase, and after it those
the freed sector is taking (R145). -/
def Store.carryWaiting (st : Store) : Nat :=
  if st.rotation = .none then st.carryList.length + st.carryWork.length else st.carryList.length

/-- KEEP's phase behind a presence byte, none while no KEEP is in progress (R149; log entry 21). -/
def KeepPhase.bytes (k : KeepPhase) : List Byte := optional byte8 k.code

/-- The store reading group (R137, R138, R141, R143 to R145, R149, R150), in the order of these rules, which is
the model's (DESIGN CHOICE, log entry 58). -/
def storeBytes (s : State) : List Byte :=
  let st := s.store
  byte32 st.runMinute ++ byte32 st.wall ++ flag st.wallSet ++ byte8 st.queue.length
    ++ byte16 st.dropped ++ byte8 st.array.code ++ eraseBytes st.presentErase
    ++ byte8 (st.setBack.getD st.rotation).code ++ optional byte16 st.guardMinutesLeft ++ byte8 st.carryWaiting
    ++ st.keep.bytes ++ byte16 st.badRecords ++ byte8 st.reErased

/-- The working set, item by item, with the strapping table: its point count and 40 entries (R162, R175). Each
value has its width of 11.2, the wax threshold two bytes (DESIGN CHOICE, log entry 67). -/
def workingBytes (w : Settings) : List Byte :=
  allParams.flatMap (fun p => p.encode (p.value w))
    ++ listField 40 4 (w.table.map fun q => byte16 q.depth ++ byte16 q.volume)

/-- The settings reading group: all four things SET holds (R175; log entry 22). -/
def settingsBytes (s : State) : List Byte :=
  workingBytes s.par ++ imageBytes s.sett.imageState ++ flag s.sett.changed ++ flag s.sett.defaulted

/-- A reading group (Table 11-2). -/
inductive Reading where
  | measurement | channel (ch : Fin 10) | zone (z : Fin 6) | loop | burner | fuel | store | settings
deriving DecidableEq, Repr

/-- The reading group a triple names (Table 11-2). -/
def readingOf (group index item : Nat) : Option Reading :=
  if item ≠ 0 then none
  else
    match group with
    | 0x10 => if index = 0 then some .measurement else none
    | 0x11 => (channelOfIndex index).map .channel
    | 0x12 => (zoneOfIndex index).map .zone
    | 0x13 => if index = 0 then some .loop else none
    | 0x14 => if index = 0 then some .burner else none
    | 0x15 => if index = 0 then some .fuel else none
    | 0x16 => if index = 0 then some .store else none
    | 0x17 => if index = 0 then some .settings else none
    | _ => none

/-- A reading group's contents (Table 11-2). -/
def Reading.bytes (g : Reading) (s : State) : List Byte :=
  match g with
  | .measurement => measurementBytes s
  | .channel ch => channelBytes ch s
  | .zone z => zoneBytes z s
  | .loop => loopBytes s
  | .burner => burnerBytes s
  | .fuel => fuelBytes s
  | .store => storeBytes s
  | .settings => settingsBytes s

/-- A reading reply clears the fresh marks of the inputs it reports (R6). -/
def Reading.clearFresh (g : Reading) (s : State) : State :=
  match g with
  | .measurement =>
    s.onScan fun c =>
      { c with
        probe := { c.probe with fresh := false }
        tankTemp := { c.tankTemp with fresh := false }
        flowTemp := { c.flowTemp with fresh := false }
        cs := c.cs.map fun r => { r with fresh := false } }
  | .channel ch => s.onScan fun c => { c with cs := c.cs.set ch { c.cs[ch] with fresh := false } }
  | .burner => s.onScan fun c => { c with flowTemp := { c.flowTemp with fresh := false } }
  | .fuel =>
    s.onScan fun c =>
      { c with probe := { c.probe with fresh := false },
               tankTemp := { c.tankTemp with fresh := false } }
  | .zone _ => s
  | .loop => s
  | .store => s
  | .settings => s

end Sys2Proof.Machine
end

