-- ==== Sys2Proof/Machine/SettingsBlock.lean ====
section
/-! DEFINITION. SET: the GET and SET requests, the restart order and what a stored change does
(Chapter 11). -/

namespace Sys2Proof.Machine

/-- Kind codes of GET and SET (Table 10-2). -/
def kindGet : Byte := 0x03
/-- Kind code of SET (Table 10-2). -/
def kindSet : Byte := 0x04

/-! ## What a stored change does (R178) -/

/-- The working set changes and is no longer as kept (R175). -/
def storeWorking (w : Settings) (s : State) : State :=
  s.onSett fun b => { b with working := w, changed := true }

/-- A change of enabled, node address or kind (R37, R46). -/
def bindingChanged (z : Fin 6) (s : State) : State :=
  s |> resetView z |> rebindNodes |> deriveTarget z |> evaluateCall z |> formOutputs

/-- A change of a setpoint, the hysteresis or the duty: target and call evaluated again (R48, R49, R51). -/
def targetsChanged (z : Fin 6) (s : State) : State :=
  s |> deriveTarget z |> evaluateCall z |> formOutputs

/-- A change of the sink zone: the sink drive moves at once, off at the old zone first and then on at the new
one, each with its event at the valve (R58, R178; DESIGN CHOICE, log entry 60). -/
def sinkChanged (old : Fin 6) (s : State) : State :=
  if s.zone.boilerFrost then
    formOutputs (driveSink s.par.sink true (driveSink old false s))
  else s

/-- The silence timer is reloaded while it runs (R173). -/
def reloadSilence (s : State) : State :=
  if s.link.silence.isSome then
    s.onLink fun l => { l with silence := secondsTimer s.par.silence }
  else s

/-- The effect of a stored change on its owning block (R178); the working set before it is `old`. -/
def changeEffect (old : Settings) (p : Param) (s : State) : State :=
  match p with
  | .silence => reloadSilence s
  | .restart => s
  | .sink => sinkChanged old.sink s
  | .zone z .enabled => bindingChanged z s
  | .zone z .node => bindingChanged z s
  | .zone z .kind => bindingChanged z s
  | .zone z .comfort => targetsChanged z s
  | .zone z .economy => targetsChanged z s
  | .zone z .frost => targetsChanged z s
  | .zone z .hyst => targetsChanged z s
  | .zone z .duty => targetsChanged z s
  | .zone _ .travel => s
  | .zone z .failSafe =>
    if s.out.mode = .failsafe then formOutputs (modeChanged z s) else s
  | .channel ch .failSafe => resolveChannel ch s
  | .channel ch .standby => resolveChannel ch s
  | .channel ch .minMA => s.onChan ch Channel.clearCounts
  | .channel ch .maxMA => s.onChan ch Channel.clearCounts
  | .burner .authority => settle (evaluateHeld s)
  | .burner .budget => settle (evaluateHeld s)
  | .burner _ => s
  | .tank .zero => s.onGauge Gauge.emptyWindow
  | .tank .full => s.onGauge Gauge.emptyWindow
  | .tank .depth => s.onGauge Gauge.emptyWindow
  | .tank .coeff => s
  | .fuel .nozzle => s
  | .fuel .period => restartPeriod s
  | .fuel .low => computeStage s.fuel.value s
  | .fuel .reserve => computeStage s.fuel.value s
  | .fuel .dry => computeStage s.fuel.value s
  | .fuel .leak => s
  | .fuel .delivery => s
  | .fuel .wax => s

/-- Firing time accumulated under the old nozzle rate is posted before the new one takes effect (R77,
R178). -/
def beforeChange (p : Param) (s : State) : State :=
  if p = .fuel .nozzle then postFiring s else s

/-- A value becomes the working value; one equal to the one held changes nothing (R177 step 6). -/
def storeParam (p : Param) (v : Int) (s : State) : State :=
  if p.value s.par = v then s
  else
    let t := beforeChange p s
    changeEffect t.par p (storeWorking (p.store t.par v) t)

/-! ## SET (R177) -/

/-- The reply to a restart order: the RESTART begins once it has left TXD (R152). Its data byte is the value
ordered, 1 (R177 step 6; DESIGN CHOICE, log entry 86). -/
def restartReply : Reply :=
  { kind := kindSet, result := .ok, reason := .none, data := Param.encode .restart 1,
    releases := false, restarts := true }

/-- Steps 4 to 6 of R177, after the address, the key and the enumeration. -/
def storeChecked (p : Param) (v : Int) (s : State) : State × Reply :=
  let c := p.clamp v
  if p.orderOk (p.store s.par c) then
    (storeParam p c s,
      if c = v then replyOk kindSet (p.encode c) else replyClamped kindSet (p.encode c))
  else answer (replyRefused kindSet .order) s

/-- Steps 2 to 6 of R177. -/
def setValue (p : Param) (v : Int) (s : State) : State × Reply :=
  if p.keyed && !s.keyActive then answer (replyRefused kindSet .keyRequired) s
  else if !p.codeOk v then answer (replyRefused kindSet .badValue) s
  else if p = .restart then answer restartReply s
  else storeChecked p v s

/-- A SET request's payload: length, address, then the checks (R163, R177). -/
def setRequest (payload : List Byte) (s : State) : State × Reply :=
  match payload with
  | g :: i :: t :: value =>
    match paramOf g.toNat i.toNat t.toNat with
    | none => answer (replyRefused kindSet .badValue) s
    | some p =>
      match p.decode value with
      | none => answer (replyRefused kindSet .badLength) s
      | some v => setValue p v s
  | _ => answer (replyRefused kindSet .badLength) s

/-! ## GET (R176) -/

/-- The value bytes of a TANK TABLE item, none where the point or the item does not exist (Table 11-1,
R176). -/
def tableItem (w : Settings) (index item : Nat) : Option (List Byte) :=
  match w.table[index]? with
  | none => none
  | some q =>
    match item with
    | 1 => some (byte16 q.depth)
    | 2 => some (byte16 q.volume)
    | 3 => some (byte8 w.table.length)
    | _ => none

/-- The value bytes of a parameter or table item that a triple names. -/
def itemBytes (w : Settings) (group index item : Nat) : Option (List Byte) :=
  if group = 7 then tableItem w index item
  else (paramOf group index item).map fun p => p.encode (p.value w)

/-- A GET request (R176). -/
def getRequest (payload : List Byte) (s : State) : State × Reply :=
  match payload with
  | [g, i, t] =>
    match readingOf g.toNat i.toNat t.toNat with
    | some r => (r.clearFresh s, replyOk kindGet ([g, i, t] ++ r.bytes s))
    | none =>
      match itemBytes s.par g.toNat i.toNat t.toNat with
      | some bs => answer (replyOk kindGet ([g, i, t] ++ bs)) s
      | none => answer (replyRefused kindGet .badValue) s
  | _ => answer (replyRefused kindGet .badLength) s

/-! ## Loading the working set (R175, R179) -/

/-- The settings step of the hand-over (R175). -/
def loadSettings (s : State) : State :=
  match s.store.settings with
  | .image w =>
    s.onSett fun _ =>
      { working := w, imageState := some (checkWordOf w), changed := false, defaulted := false }
  | .invalid =>
    postNotice .settings (s.onSett fun _ =>
      { working := factorySettings, imageState := none, changed := true, defaulted := true })

/-! ## The commands -/

/-- GET (R176). -/
def execGetParam (payload : List Byte) (s : State) : Result := .next (request payload getRequest s)

/-- SET (R177). -/
def execSetParam (payload : List Byte) (s : State) : Result := .next (request payload setRequest s)

/-- The payload of the restart order: SYSTEM, index 0, item 2, value 1 (Table 11-1, R152). -/
def restartPayload : List Byte := [1, 0, 2, 1]

/-- The restart order: a SET of RESTART to the restart item (R152). -/
def execRestartOrder (s : State) : Result := .next (request restartPayload setRequest s)

end Sys2Proof.Machine
end

