-- ==== Sys2Proof/Machine/StartUp.lean ====
section
/-! DEFINITION. The start-up: how either start begins, the hand-over, the derivation and the end
(Chapter 9). -/

namespace Sys2Proof.Machine

/-! ## Beginning a start (R152) -/

/-- Every block abandons its work: first values everywhere but in what STORE keeps (R16, R35, R45, R61,
R79, R120, R135, R151, R152, R174, R181). -/
def abandonAll (p : Phase) (s : State) : State :=
  let t := cutArray s
  { State.reset with
    phase := p, store := t.store.restartState, free := t.free, pending := t.pending }

/-- A RESTART begins: the outputs-released phase; counter and clock carry on (R137, R138, R152). -/
def beginRestart (s : State) : State := abandonAll .released s

/-- Phase 2 begins: debouncing and the start-up scan (R150, R152, R153). -/
def beginScan (s : State) : State := (s.withPhase .scanning).onStore Store.startScan

/-- What a loss of the supply takes from STORE: the counter, the timebase and the clock (R137, R138). -/
def Store.loseTime (st : Store) : Store :=
  { st with runMinute := 0, minutesSet := false, timebase := 0, wall := 0, wallSet := false }

/-- The supply is lost (R152, R158). -/
def loseSupply (s : State) : State := (abandonAll .unpowered s).onStore Store.loseTime

/-- A RESTART ordered by the host: phase 1 is left at once (R152). -/
def orderedRestart (s : State) : State := beginScan (beginRestart s)

/-! ## First levels (R153) -/

/-- The level of an input. -/
def Inputs.level (i : Inputs) : Input → Option Bool
  | .mainsOk => i.mainsOk
  | .lockoutSense => i.lockout
  | .valveSense => i.valve
  | .serviceKey => i.key
  | .localReset => i.localReset
  | .endSwitch z => i.ends[z]

/-- An input's level becomes `v`. -/
def Inputs.setLevel (i : Inputs) (v : Bool) : Input → Inputs
  | .mainsOk => { i with mainsOk := some v }
  | .lockoutSense => { i with lockout := some v }
  | .valveSense => { i with valve := some v }
  | .serviceKey => { i with key := some v }
  | .localReset => { i with localReset := some v }
  | .endSwitch z => { i with ends := i.ends.set z (some v) }

/-- An input's debounced level becomes `v`. -/
def setLevel (x : Input) (v : Bool) (s : State) : State := s.onInputs fun i => i.setLevel v x

/-- Debouncing has begun (R152, R153). -/
def State.debouncing (s : State) : Bool := s.phase != .unpowered && s.phase != .released

/-- A first level; LOCAL_RESET released at it makes the press state IDLE (R153, R181). -/
def takeFirstLevel (x : Input) (v : Bool) (s : State) : State :=
  let t := setLevel x v s
  if x = .localReset ∧ !v then t.onSvc fun p => { p with press := .idle } else t

/-- The block that decides by an input's first level has not taken it yet: SUPPLY before the hand-over has
looked at MAINS_OK, BURN before its derivation (R153, R154). -/
def State.untaken (s : State) : Input → Bool
  | .mainsOk => s.phase == .scanning || s.phase == .supplyWait
  | .lockoutSense => s.phase == .scanning || s.phase == .supplyWait || s.phase == .burnerWait
  | .valveSense => s.phase == .scanning || s.phase == .supplyWait || s.phase == .burnerWait
  | _ => false

/-- The level to which a held edge of input `x` brings it. -/
def Held.levelOf (x : Input) : Held → Option Bool
  | .edge y v => if y = x then some v else none
  | .hold _ => none

/-- The level an input's line has come to: its youngest edge still held, else its level. -/
def Inputs.line (i : Inputs) (x : Input) : Option Bool :=
  match (i.held.filterMap (Held.levelOf x)).getLast? with
  | some v => some v
  | none => i.level x

/-- An edge waits for the block that has not yet taken the input's first level (R153; log entry 27). -/
def holdEdge (x : Input) (v : Bool) (s : State) : State :=
  if s.inputs.line x = some (!v) then s.onInputs fun i => { i with held := i.held ++ [.edge x v] } else s

/-- A debounced edge to level `v`: the level changes, and the blocks act on it by `act`; without the
opposite level before it there is no edge (R153). While the first level still waits for its block, the edge
waits behind it. -/
def edge (x : Input) (v : Bool) (act : State → State) (s : State) : State :=
  if s.untaken x then holdEdge x v s
  else if s.debouncing && s.inputs.level x == some (!v) then act (setLevel x v s) else s

/-- What was held and is of sort `p` reaches its block, oldest first, which takes each by `act` (R153, R154). -/
def takeHeld (p : Held → Bool) (act : State → Held → State) (s : State) : State :=
  (s.inputs.held.filter p).foldl act
    (s.onInputs fun i => { i with held := i.held.filter fun h => !p h })

/-- SUPPLY waits for it: an edge of MAINS_OK (R154). -/
def Held.ofSupply : Held → Bool
  | .edge x _ => decide (x = .mainsOk)
  | .hold _ => false

/-- BURN waits for it: an edge of its two sense lines, or SUPPLY's telling (R153, R154). -/
def Held.ofBurn : Held → Bool
  | .edge x _ => decide (x = .lockoutSense) || decide (x = .valveSense)
  | .hold _ => true

/-- SUPPLY takes an edge of MAINS_OK that was held (R156, R157). -/
def supplyTakesHeld (s : State) : Held → State
  | .edge x v =>
    if v then mainsRises (setLevel x v s) else mainsFalls .supplyFirst (setLevel x v s)
  | .hold _ => s

/-- BURN takes an edge of a sense line or a telling of the hold that was held (R79, R80, R100, R101). -/
def burnTakesHeld (s : State) : Held → State
  | .edge .lockoutSense v =>
    outsideHold (fun t => settle (if v then burnLampRise t else burnLampFall t))
      (setLevel .lockoutSense v s)
  | .edge .valveSense v =>
    outsideHold (fun t => if v then valveRises t else valveFalls t) (setLevel .valveSense v s)
  | .edge _ _ => s
  | .hold v => settle (if v then burnHoldBegins s else burnHoldEnds s)

/-! ## The hand-over (R154) -/

/-- The scan is over (R150). -/
def State.scanDone (s : State) : Bool := s.phase == .scanning && s.store.reErase.isEmpty

/-- Step 1: after POWER_ON, the run-minute counter (R137, R154). -/
def handTime (s : State) : State :=
  if s.store.minutesSet then s
  else s.onStore fun st =>
    { st with runMinute := st.countFrom, minutesSet := true, timebase := 0 }

/-- Step 2: the working set, and what is bound by it (R45, R154, R175). -/
def handSettings (s : State) : State :=
  let t := loadSettings s
  allNodes.foldl
    (fun u n => match zoneBinding t.par n with | some z => bindNode n z u | none => u) t

/-- Step 3: the initial SUPPLY_HOLD (R154). -/
def handSupply (mains : Bool) (s : State) : State :=
  s.onSupply fun p =>
    if mains then p else { p with hold := true, holdStart := s.now, returnTimer := none }

/-- Steps 4 and 5, up to BURN's derivation (R102, R120, R135, R154). -/
def handHistory (s : State) : State := s |> restoreGauge |> restoreFuel |> restoreBurn

/-- SUPPLY's edges of MAINS_OK that came before it took the first level (R153; log entries 27, 85). -/
def handMains (s : State) : State := takeHeld Held.ofSupply supplyTakesHeld s

/-- Steps 3 to 5, once MAINS_OK has its level; without it the hand-over waits (R154). Edges of MAINS_OK that
were held come last, after the restoration and STORE's look at rotation (DESIGN CHOICE, log entry 85). -/
def handRest (s : State) : State :=
  match s.inputs.mainsOk with
  | some v =>
    handMains (lookAtRotation ((handHistory (handSupply v s)).withPhase .burnerWait))
  | none => s.withPhase .supplyWait

/-- The hand-over, begun or going on (R154). -/
def handOver (s : State) : State :=
  if s.scanDone then handRest (handSettings (handTime s))
  else if s.phase = .supplyWait ∧ s.inputs.mainsOk.isSome then handRest s
  else s

/-! ## The end of start-up (R155) -/

/-- ZONE at the end of start-up: the targets, and blind duty for enabled zones without a node (R51, R61).
The shown setpoints reach the nodes by the stale marks (R45). The stage that FUEL posted in the hand-over is
still on its way: ZONE derives with NORMAL and takes the stage afterwards (DESIGN CHOICE, log entry 94). -/
def zonesBegin (s : State) : State :=
  formOutputs (eachZone
    (fun z t =>
      evaluateCall z ((if (t.zoneSet z).enabled && (t.zoneSet z).node == 0 then
          t.onZone z (Zone.see .blind) else t).onZone z fun zn => { zn with target := t.targetOf z }))
    s)

/-- FUEL at the end of start-up (R126, R134). -/
def fuelBegins (s : State) : State := (restartPeriod s).onFuel fun f => { f with trendTimer := 60 }

/-- LINK at the end of start-up (R174). -/
def linkBegins (s : State) : State :=
  s.onLink fun l => { l with receiver := .hunting, silence := secondsTimer s.par.silence }

/-- SUPPLY at the end of start-up (R155). -/
def supplyBegins (s : State) : State := if s.supply.hold then postNotice .mains s else s

/-- The blocks begin their work (R155). -/
def beginWork (s : State) : State :=
  settle (askMissingLatch (supplyBegins (linkBegins (fuelBegins (openPollSlot (zonesBegin
    (outBegins (startPass (s.withPhase .running)))))))))

/-! ## The commands -/

/-- POWER_ON: the supply comes back after being absent (R152). -/
def execPowerOn (s : State) : Result := .next (beginScan (loseSupply s))

/-- RESTART: RESET_N goes low (R152); an unpowered part does not see it. -/
def execRestart (s : State) : Result :=
  .next (if s.phase = .unpowered then s else beginRestart s)

/-- RESET_N returns high (R152). -/
def execResetNRelease (s : State) : Result :=
  .next (if s.phase = .released then beginScan s else s)

/-- An input takes its first level (R153). -/
def execFirstLevel (x : Input) (high : Bool) (s : State) : Result :=
  .next (if s.debouncing && (s.inputs.level x).isNone then takeFirstLevel x high s else s)

/-- The hand-over (R154). -/
def execHandOver (s : State) : Result := .next (handOver s)

/-- BURN derives its state from the first levels and the hold of step 3, then takes the edges and the changes of
the hold that came after them (R79, R153, R154; log entries 27 and 83). -/
def deriveAndFollow (s : State) : State :=
  (takeHeld Held.ofBurn burnTakesHeld (settle (deriveBurner s))).withPhase .derived

/-- BURN derives its state once the levels of LOCKOUT_SENSE and VALVE_SENSE stand (R79, R154). -/
def execBurnerDerivation (s : State) : Result :=
  .next (if s.phase = .burnerWait ∧ s.inputs.lockout.isSome ∧ s.inputs.valve.isSome then
      deriveAndFollow s else s)

/-- The end of start-up (R155). -/
def execEndOfStartUp (s : State) : Result := .next (if s.phase = .derived then beginWork s else s)

/-- The supply gives out, backup cell included (R158). -/
def execLossOfSupply (s : State) : Result := .next (loseSupply s)

end Sys2Proof.Machine
end

