-- ==== Sys2Proof/Machine/ScanCommands.lean ====
section
/-! DEFINITION. The commands of SCAN and OUT (Chapters 1 and 2). -/

namespace Sys2Proof.Machine

/-- A block's own event, taken once start-up has ended (R155). -/
def whenRunning (f : State → State) (s : State) : State := if s.running then f s else s

/-! ## SCAN -/

/-- The pass timer starts a pass (R1, R8); a pass in flight has always completed before. -/
def execScanPassStart (s : State) : Result :=
  .next (whenRunning (fun t => if t.scan.inFlight.isSome then t else startPass t) s)

/-- A pass completes (R7). -/
def execPassCompletion (p : PassCounts) (s : State) : Result :=
  .next (whenRunning (completePass p) s)

/-- Kind code of SELFTEST (Table 10-2). -/
def kindSelftest : Byte := 0x0D

/-- SCAN takes a SELFTEST: the task waits for the next pass to start (R13); follow mode ends (R171). -/
def takeSelftest (s : State) : State × Reply :=
  let t := (startTask .selftest s).onScan fun c => { c with taskWait := .forStart }
  let u := t.onLink fun l => { l with follow := none }
  (u, replyTaken kindSelftest u)

/-- A SELFTEST request (R13, R163). -/
def selftestRequest (payload : List Byte) (s : State) : State × Reply :=
  match payload with
  | [] => unlessBusy kindSelftest (unlessHeld kindSelftest takeSelftest) s
  | _ => answer (replyRefused kindSelftest .badLength) s

/-- SELFTEST (R13). -/
def execSelftest (payload : List Byte) (s : State) : Result := .next (request payload selftestRequest s)

/-! ## OUT -/

/-- The oldest posted demand of a channel reaches OUT (R18, R22). -/
def deliverDemand (ch : Fin 10) (s : State) : State :=
  match s.posts.demand[ch] with
  | [] => s
  | v :: rest => takeDemand ch v (s.onPosts fun p => { p with demand := p.demand.set ch rest })

/-- A change of a job demand reaches OUT (R22). One posted before the end of start-up stays on its way until
OUT takes it there (R35; DESIGN CHOICE, log entry 95). -/
def execJobDemandChange (ch : Fin 10) (s : State) : Result :=
  .next (whenRunning (deliverDemand ch) s)

/-- Kind code of RESUME (Table 10-2). -/
def kindResume : Byte := 0x06

/-- The modes RESUME names (R20, 11.2). -/
def resumeMode (n : Nat) : Option OutMode :=
  match n with
  | 0 => some .run
  | 1 => some .standby
  | _ => none

/-- A RESUME request (R20). -/
def resumeRequest (payload : List Byte) (s : State) : State × Reply :=
  match payload with
  | [m] =>
    match resumeMode m.toNat with
    | some mode => (setMode mode .resume s, replyOk kindResume [])
    | none => answer (replyRefused kindResume .badValue) s
  | _ => answer (replyRefused kindResume .badLength) s

/-- RESUME (R20). -/
def execResume (payload : List Byte) (s : State) : Result := .next (request payload resumeRequest s)

/-- The silence timer runs out (R19, R173). -/
def silenceExpires (s : State) : State :=
  if s.link.silence.isSome then
    setMode .failsafe .silence (s.onLink fun l => { l with silence := none })
  else s

/-- The link silence timer expires (R173). -/
def execSilenceTimerExpiry (s : State) : Result := .next (whenRunning silenceExpires s)

/-- Kind code of OVERRIDE (Table 10-2). -/
def kindOverride : Byte := 0x08

/-- Minutes of an override, clamped to 1..240 (R24). -/
def overrideMinutes (m : Nat) : Nat := if m = 0 then 1 else min m 240

/-- OUT takes an override of ON or OFF (R24). -/
def takeOverride (ch : Fin 10) (v : Bool) (m : Nat) (s : State) : State × Reply :=
  let o := some (v, overrideMinutes m)
  (setOverride ch o s,
    if overrideMinutes m = m then replyOk kindOverride (overrideBytes o)
    else replyClamped kindOverride (overrideBytes o))

/-- OUT takes an OVERRIDE for channel `ch` with a value code and minutes (R24, 11.2). -/
def overrideChannel (ch : Fin 10) (v m : Nat) (s : State) : State × Reply :=
  if ch.val ≤ 1 then answer (replyRefused kindOverride .badValue) s
  else
    match v with
    | 0 => takeOverride ch true m s
    | 1 => takeOverride ch false m s
    | 2 => (setOverride ch none s, replyOk kindOverride (overrideBytes none))
    | _ => answer (replyRefused kindOverride .badValue) s

/-- An OVERRIDE request (Table 2-5). -/
def overrideRequest (payload : List Byte) (s : State) : State × Reply :=
  match payload with
  | [c, v, m] =>
    match channelOfIndex c.toNat with
    | some ch => overrideChannel ch v.toNat m.toNat s
    | none => answer (replyRefused kindOverride .badValue) s
  | _ => answer (replyRefused kindOverride .badLength) s

/-- OVERRIDE (R24). -/
def execOverride (payload : List Byte) (s : State) : Result := .next (request payload overrideRequest s)

/-- An override whose minutes are 0 is removed (R26). -/
def overrideExpires (ch : Fin 10) (s : State) : State :=
  match (s.chan ch).override with
  | some (_, 0) => setOverride ch none s
  | _ => s

/-- An override's remaining minutes reach 0 (R26). -/
def execOverrideExpiry (ch : Fin 10) (s : State) : Result :=
  .next (whenRunning (overrideExpires ch) s)

/-- Kind code of CLEAR_TRIP (Table 10-2). -/
def kindClearTrip : Byte := 0x09

/-- OUT takes a CLEAR_TRIP for channel `ch` (Table 2-8). -/
def clearTripChannel (ch : Fin 10) (s : State) : State × Reply :=
  if decide (ch.val ≤ 1) && !s.keyActive then answer (replyRefused kindClearTrip .keyRequired) s
  else if (s.chan ch).load ≠ .tripped then answer (replyRefused kindClearTrip .notNow) s
  else if s.scan.measureFault then answer (replyRefused kindClearTrip .notNow) s
  else (clearTrip ch s, replyOk kindClearTrip [])

/-- A CLEAR_TRIP request (R31). -/
def clearTripRequest (payload : List Byte) (s : State) : State × Reply :=
  match payload with
  | [c] =>
    match channelOfIndex c.toNat with
    | some ch => clearTripChannel ch s
    | none => answer (replyRefused kindClearTrip .badValue) s
  | _ => answer (replyRefused kindClearTrip .badLength) s

/-- CLEAR_TRIP (R31). -/
def execClearTrip (payload : List Byte) (s : State) : Result :=
  .next (request payload clearTripRequest s)

end Sys2Proof.Machine
end

