-- ==== Sys2Proof/Machine/ZoneCommands.lean ====
section
/-! DEFINITION. The commands of LOOP and ZONE (Chapter 3). -/

namespace Sys2Proof.Machine

/-! ## LOOP -/

/-- A good report of a bound node: R39's stages 1 to 5. -/
def goodReport (n : Fin 15) (z : Fin 6) (r : Report) (s : State) : State :=
  let lost := (s.nodeAt n).statLost
  let t := s.onNode n fun x =>
    { x with miss := 0, polled := true, statLost := false, batteryLow := r.batteryLow }
  queueStaleItems n z (zoneTakesReport z r (if lost then postNotice .statLost t else t))

/-- A miss of a bound node (R40). -/
def takeMiss (n : Fin 15) (z : Fin 6) (s : State) : State :=
  let x := s.nodeAt n
  let t := s.onNode n fun y => { y with polled := true }
  if x.statLost then t
  else if 3 ≤ x.miss + 1 then
    zoneLosesNode z (postNotice .statLost (t.onNode n fun y => { y with statLost := true, miss := 0 }))
  else
    let u := t.onNode n fun y => { y with miss := y.miss + 1 }
    if x.polled then u else zoneHasNoReport z u

/-- The result of a poll slot: nothing for a node no longer bound (R38 to R40). -/
def pollResult (n : Fin 15) (ans : Option Report) (s : State) : State :=
  match (s.nodeAt n).zone, ans with
  | none, _ => s
  | some z, some r => goodReport n z r s
  | some z, none => takeMiss n z s

/-- The open poll slot ends, and the next slot is chosen (R38). -/
def pollEnds (ans : Option Report) (s : State) : State :=
  match s.loop.slot with
  | .poll n lost => slotAfterPoll (if lost then s else pollResult n ans s)
  | _ => s

/-- A poll slot ends (R38). -/
def execPollSlotEnd (ans : Option Report) (s : State) : Result := .next (whenRunning (pollEnds ans) s)

/-- The open write slot ends, and the next poll slot opens (R38, R42). -/
def writeEnds (acknowledged : Bool) (s : State) : State :=
  match s.loop.slot with
  | .write _ lost => openPollSlot (if lost then s else writeOutcome acknowledged s)
  | _ => s

/-- A write slot ends (R42). -/
def execWriteSlotEnd (acknowledged : Bool) (s : State) : Result :=
  .next (whenRunning (writeEnds acknowledged) s)

/-- Kind code of STAT_WRITE (Table 10-2). -/
def kindStatWrite : Byte := 0x0B

/-- The value an item takes: a setpoint clamped to 30..300, NONE as 0xFFFF; a lamp value of Table 3-3, or
none (R43, 11.2). -/
def displayValue (i : Item) (v : Nat) : Option Nat :=
  match i with
  | .shownSetpoint => if v = 0xFFFF then some v else some (max 30 (min v 300))
  | .oilLamp => if v ≤ 3 then some v else none
  | .faultLamp => if v ≤ 1 then some v else none

/-- LOOP takes a host write to a bound node (R41, R43). A SHOWN_SETPOINT out of range that the full queue cannot
merge is REFUSED QUEUE_FULL and not CLAMPED (DESIGN CHOICE, log entry 87). -/
def hostWrite (n : Fin 15) (i : Item) (v : Nat) (s : State) : State × Reply :=
  match displayValue i v with
  | none => answer (replyRefused kindStatWrite .badValue) s
  | some w =>
    match queueWrite n i w s.loop.queue with
    | some q =>
      (s.onLoop fun l => { l with queue := q },
        if w = v then replyOk kindStatWrite [] else replyClamped kindStatWrite (byte16 w))
    | none => answer (replyRefused kindStatWrite .queueFull) s

/-- A STAT_WRITE request (Table 3-5). -/
def statWriteRequest (payload : List Byte) (s : State) : State × Reply :=
  match payload with
  | [a, i, v0, v1] =>
    match nodeOfAddress a.toNat, itemOf i.toNat with
    | some n, some item =>
      if (s.nodeAt n).zone.isSome then hostWrite n item (num16 v0 v1) s
      else answer (replyRefused kindStatWrite .badValue) s
    | _, _ => answer (replyRefused kindStatWrite .badValue) s
  | _ => answer (replyRefused kindStatWrite .badLength) s

/-- STAT_WRITE (R43). -/
def execStatWrite (payload : List Byte) (s : State) : Result :=
  .next (request payload statWriteRequest s)

/-! ## ZONE -/

/-- Kind code of ZONE_MODE (Table 10-2). -/
def kindZoneMode : Byte := 0x0A

/-- A zone's host mode is set; in RUN it is the mode in force (R47). -/
def setHostMode (z : Fin 6) (m : HeatMode) (s : State) : State :=
  let t := s.onZone z fun zn => { zn with hostMode := m }
  if s.out.mode = .run then formOutputs (modeChanged z t) else t

/-- A ZONE_MODE request (R47). -/
def zoneModeRequest (payload : List Byte) (s : State) : State × Reply :=
  match payload with
  | [i, m] =>
    match zoneOfIndex i.toNat, heatModeOf m.toNat with
    | some z, some mode => (setHostMode z mode s, replyOk kindZoneMode [])
    | _, _ => answer (replyRefused kindZoneMode .badValue) s
  | _ => answer (replyRefused kindZoneMode .badLength) s

/-- ZONE_MODE (R47). -/
def execZoneMode (payload : List Byte) (s : State) : Result :=
  .next (request payload zoneModeRequest s)

/-- A blind zone's cycle position becomes `p`, and its mode call is formed (R51). -/
def blindAt (z : Fin 6) (p : Nat) (s : State) : State :=
  formOutputs (evaluateCall z (s.onZone z fun zn => { zn with blindPos := p }))

/-- A blind zone's cycle starts (R51). -/
def execBlindCycleStart (z : Fin 6) (s : State) : Result :=
  .next (whenRunning (fun t => if (t.zoneAt z).sighted = .blind then blindAt z 0 t else t) s)

/-- The blind duty's on-time ends (R51); with a duty of 100 it does not within a cycle. -/
def execBlindDutyEnd (z : Fin 6) (s : State) : Result :=
  .next (whenRunning (fun t =>
      if (t.zoneAt z).sighted = .blind ∧ dutyMs (t.zoneSet z).duty < blindCycleMs then
        blindAt z (max (t.zoneAt z).blindPos (dutyMs (t.zoneSet z).duty)) t
      else t) s)

/-- ZONE takes the making of an end switch, outside SUPPLY_HOLD (R53, R61). -/
def endMakes (z : Fin 6) (s : State) : State :=
  if s.supply.hold then s
  else if (s.zoneAt z).state = .opening then formOutputs (zoneTo z .opened .stopped s)
  else s

/-- An end switch makes (R53). -/
def execEndMade (z : Fin 6) (s : State) : Result :=
  .next (edge (.endSwitch z) true (whenRunning (endMakes z)) s)

/-- ZONE takes the breaking of an end switch, outside SUPPLY_HOLD (R54, R55, R61). -/
def endBreaks (z : Fin 6) (s : State) : State :=
  if s.supply.hold then s
  else
    match (s.zoneAt z).state with
    | .closing => formOutputs (enterIdle z s)
    | .opened => formOutputs (enterFault z .switchLost s)
    | .hold => formOutputs (enterFault z .switchLost s)
    | _ => s

/-- An end switch breaks (R55). -/
def execEndBroken (z : Fin 6) (s : State) : Result :=
  .next (edge (.endSwitch z) false (whenRunning (endBreaks z)) s)

/-- The travel time runs out (R56). -/
def travelExpires (z : Fin 6) (s : State) : State :=
  match (s.zoneAt z).state, (s.zoneAt z).timer with
  | .opening, .travel _ => formOutputs (enterFault z .noOpen s)
  | .closing, .travel _ => formOutputs (enterFault z .stuckOpen s)
  | _, _ => s

/-- The valve travel time runs out (R56). -/
def execTravelTimerExpiry (z : Fin 6) (s : State) : Result :=
  .next (whenRunning (travelExpires z) s)

/-- The fault retry time is over: IDLE, the notice and the lamp, and OPENING with the call on (R56). -/
def retryExpires (z : Fin 6) (s : State) : State :=
  match (s.zoneAt z).state, (s.zoneAt z).timer with
  | .fault, .retry 0 =>
    let t := writeToZoneNode z .faultLamp 0 (postNotice .zoneFault (zoneTo z .idle .stopped s))
    formOutputs (if (t.zoneAt z).call then enterOpening z t else t)
  | _, _ => s

/-- The fault retry timer reaches 0 (R56). -/
def execFaultRetryExpiry (z : Fin 6) (s : State) : Result :=
  .next (whenRunning (retryExpires z) s)

/-- BURN's oldest overrun report or answer reaches ZONE (R60). -/
def deliverOverrun (s : State) : State :=
  match s.posts.overrun with
  | [] => s
  | v :: rest => zonesTakeOverrun v (s.onPosts fun p => { p with overrun := rest })

/-- The overrun state reaches ZONE (R60). -/
def execOverrunState (s : State) : Result := .next (whenRunning deliverOverrun s)

end Sys2Proof.Machine
end

