-- ==== Sys2Proof/Machine/BurnerCommands.lean ====
section
/-! DEFINITION. The commands of BURN (Chapters 4 and 5), and the posted fuel stage (R132). -/

namespace Sys2Proof.Machine

/-! ## Tellings -/

/-- ZONE's oldest telling of the heat request reaches BURN. -/
def deliverHeat (s : State) : State :=
  match s.posts.heat with
  | [] => s
  | v :: rest => burnTakesHeat v (s.onPosts fun p => { p with heat := rest })

/-- A change of the heat request reaches BURN (R67, R71). -/
def execHeatRequest (s : State) : Result := .next (ifBurning deliverHeat s)

/-- OUT's oldest telling of pump proven reaches BURN. -/
def deliverPump (s : State) : State :=
  match s.posts.pump with
  | [] => s
  | v :: rest => burnTakesPump v (s.onPosts fun p => { p with pump := rest })

/-- A change of pump proven reaches BURN (R67, R71). -/
def execPumpProven (s : State) : Result := .next (ifBurning deliverPump s)

/-- One block takes its oldest posted fuel stage (R132). -/
def deliverStage (who : StageTaker) (s : State) : State :=
  match who with
  | .burn =>
    match s.posts.stageBurn with
    | [] => s
    | g :: rest => burnTakesStage g (s.onPosts fun p => { p with stageBurn := rest })
  | .zone =>
    match s.posts.stageZone with
    | [] => s
    | g :: rest => zonesTakeStage g (s.onPosts fun p => { p with stageZone := rest })
  | .loop =>
    match s.posts.stageLoop with
    | [] => s
    | g :: rest => loopTakesStage g (s.onPosts fun p => { p with stageLoop := rest })

/-- A posted fuel stage reaches the blocks named, in the order named (R132; log entry 9). -/
def execFuelStage (takers : List StageTaker) (s : State) : Result :=
  .next (whenRunning (fun t => takers.foldl (fun u who => deliverStage who u) t) s)

/-! ## The oil valve and the timers of the normal states -/

/-- The oil valve opens (R68). -/
def execValveSenseRise (s : State) : Result :=
  .next (edge .valveSense true (ifBurning (outsideHold valveRises)) s)

/-- The oil valve closes (R70). -/
def execValveSenseFall (s : State) : Result :=
  .next (edge .valveSense false (ifBurning (outsideHold valveFalls)) s)

/-- The ignition window runs out in CALLED (R68). -/
def execIgnitionWindowExpiry (s : State) : Result :=
  .next (ifBurning (fun t =>
      if t.burn.state = .called ∧ t.burn.ignitionTimer.isSome then settle (windowExpires t) else t) s)

/-- The stop timer runs out in STOPPING: IDLE or INHIBITED, with RUNAWAY for the open valve (R72, R73). -/
def stopExpires (s : State) : State :=
  let t := s.onBurn fun b => { b with stopTimer := none }
  goIdle (if t.valveOpen then setRunaway true t else t)

/-- The stop timer expires (R72). -/
def execStopTimerExpiry (s : State) : Result :=
  .next (ifBurning (fun t =>
      if t.burn.state = .stopping ∧ t.burn.stopTimer.isSome then stopExpires t else t) s)

/-- The anti-cycle timer expires: ANTI_CYCLE is removed (R66). A withdrawal that loaded it is over, and no
edge comes together with it any more (log entry 47); so too at the two expiries below. -/
def execAntiCycleExpiry (s : State) : Result :=
  .next (ifBurning (fun t =>
      if t.burn.antiCycle.isSome then
        removeReason .antiCycle (endTogether (t.onBurn fun b => { b with antiCycle := none }))
      else t) s)

/-- The NO_START timer expires: NO_START is removed (R66). -/
def execNoStartExpiry (s : State) : Result :=
  .next (ifBurning (fun t =>
      if t.burn.noStart.isSome then
        removeReason .noStart (endTogether (t.onBurn fun b => { b with noStart := none }))
      else t) s)

/-- The overrun maximum runs out (R74). -/
def execOverrunTimerExpiry (s : State) : Result :=
  .next (ifBurning (fun t =>
      if t.burn.overrunTimer.isSome then stopOverrun (endTogether t) else t) s)

/-- The accumulator reaches 60,000 ms while VALVE_SENSE is high: 60 s are posted (R77; log entry 5). -/
def execAccumulatorFull (s : State) : Result :=
  .next (ifBurning (fun t =>
      if t.burn.gaining t.valveOpen then
        postFiring (t.onBurn fun b => { b with accMs := accumulatorFullMs })
      else t) s)

/-! ## The lamp -/

/-- The lockout lamp lights (R75, R84, R88). -/
def execLockoutSenseRise (s : State) : Result :=
  .next (edge .lockoutSense true (ifBurning (outsideHold fun t => settle (burnLampRise t))) s)

/-- The lockout lamp goes dark (R94). -/
def execLockoutSenseFall (s : State) : Result :=
  .next (edge .lockoutSense false (ifBurning (outsideHold fun t => settle (burnLampFall t))) s)

/-! ## Recovery -/

/-- The cooldown timer reaches 0 (R86). -/
def execCooldownExpiry (s : State) : Result :=
  .next (ifBurning (fun t =>
      if t.burn.state = .cooldown ∧ t.burn.cooldown = some 0 then settle (cooldownExpires t) else t) s)

/-- The reset pulse ends (R89). -/
def execPulseTimerExpiry (s : State) : Result :=
  .next (ifBurning (fun t =>
      if t.burn.state = .resetting ∧ t.burn.resetPhase = .pulse ∧ t.burn.pulseTimer.isSome then
        settle (pulseExpires t)
      else t) s)

/-- The lamp is still lit at the end of the check timer (R90). -/
def execCheckTimerExpiry (s : State) : Result :=
  .next (ifBurning (fun t =>
      if t.burn.state = .resetting ∧ t.burn.resetPhase = .check ∧ t.burn.checkTimer.isSome then
        settle (checkExpires t)
      else t) s)

/-- Continuous firing reaches the prove time (R92). -/
def execProveTimerExpiry (s : State) : Result :=
  .next (ifBurning (fun t =>
      if t.burn.state = .firing ∧ t.burn.proofPending = true ∧ t.burn.proveTimer.isSome then
        settle (proveExpires t)
      else t) s)

/-- Sixty run minutes pass without proof: the task ends TIMED_OUT (R99). -/
def execProofLimitExpiry (s : State) : Result :=
  .next (ifBurning (fun t =>
      if t.burn.task.isSome ∧ t.burn.proofLimit = some 0 then endResetTask .timedOut .proof t else t) s)

/-- The oldest stamp of the window list reaches 1,440 run minutes: it leaves, and HELD is evaluated
(R83, R87). -/
def windowExpires1440 (s : State) : State :=
  if agedWindow s.now s.burn.window = s.burn.window then s
  else settle (evaluateHeld (s.onBurn fun b => { b with window := agedWindow s.now b.window }))

/-- A stamp leaves the window list (R83). -/
def execWindowStampExpiry (s : State) : Result := .next (ifBurning windowExpires1440 s)

/-- Kind code of BURNER_RESET (Table 10-2). -/
def kindBurnerReset : Byte := 0x0C

/-- A BURNER_RESET is taken: the task starts, and from HELD its reset begins at once (R97, R98). -/
def takeBurnerReset (o : Origin) (s : State) : State × Reply :=
  let t := (startTask .burnerReset s).onBurn fun b => { b with task := some ⟨o, .waiting⟩ }
  (if t.burn.state = .held then settle (beginReset o t) else t, replyTaken kindBurnerReset t)

/-- BURN answers a BURNER_RESET (Table 5-5). -/
def burnerResetAnswer (s : State) : State × Reply :=
  let no (r : ReasonCode) : State × Reply := answer (replyRefused kindBurnerReset r) s
  if s.burn.state = .latched then no .latched
  else if s.supply.hold then no .supply
  else if s.burn.state.normal then no .notLocked
  else if s.burn.state = .resetting then no .notNow
  else if s.keyActive then takeBurnerReset .attended s
  else if s.par.authority = .attended then no .keyRequired
  else if !s.budgetRoom then no .budget
  else takeBurnerReset .host s

/-- A BURNER_RESET request (R97, R163). -/
def burnerResetRequest (payload : List Byte) (s : State) : State × Reply :=
  match payload with
  | [] => unlessBusy kindBurnerReset burnerResetAnswer s
  | _ => answer (replyRefused kindBurnerReset .badLength) s

/-- BURNER_RESET (R97). -/
def execBurnerReset (payload : List Byte) (s : State) : Result :=
  .next (request payload burnerResetRequest s)

/-! ## The panel (Chapter 12) -/

/-- Seconds of a hold (R181). -/
def holdSeconds : Nat := 3

/-- The press edge (R181). -/
def pressEdge (s : State) : State :=
  if s.svc.press = .idle then
    s.onSvc fun _ => { press := .timing, holdTimer := secondsTimer holdSeconds }
  else s

/-- The press edge of LOCAL_RESET (R181). -/
def execLocalResetPress (s : State) : Result := .next (edge .localReset true pressEdge s)

/-- The hold timer reaches 3 s: an ACK with the key active, a long hold without (R181). An ACK before BURN has
derived its state is lost (DESIGN CHOICE, log entry 84). -/
def holdExpires (s : State) : State :=
  if s.keyActive then
    ifBurning (fun t => settle (takeAck t))
      (s.onSvc fun _ => { press := .ackGiven, holdTimer := none })
  else s.onSvc fun p => { p with holdTimer := none }

/-- The hold timer reaches 3 s (R181). -/
def execHoldTimerExpiry (s : State) : Result :=
  .next (if s.debouncing = true ∧ s.svc.press = .timing ∧ s.svc.holdTimer.isSome then holdExpires s
    else s)

/-- The release edge: IDLE, and a PRESS from TIMING (R181). A PRESS before BURN has derived its state is lost
(DESIGN CHOICE, log entry 84). -/
def releaseEdge (s : State) : State :=
  let t := s.onSvc fun _ => { press := .idle, holdTimer := none }
  if s.svc.press = .timing then ifBurning (fun u => settle (takePress u)) t else t

/-- The release edge of LOCAL_RESET (R181). -/
def execLocalResetRelease (s : State) : Result := .next (edge .localReset false releaseEdge s)

/-- A debounced edge of SERVICE_KEY: the level changes over (R180). -/
def execServiceKeyEdge (s : State) : Result :=
  .next (match s.inputs.key with
    | some v => if s.debouncing then setLevel .serviceKey (!v) s else s
    | none => s)

end Sys2Proof.Machine
end

