-- ==== Sys2Proof/Machine/TankCommands.lean ====
section
/-! DEFINITION. The commands of GAUGE and FUEL (Chapters 6 and 7). -/

namespace Sys2Proof.Machine

/-! ## GAUGE -/

/-- A due pass not yet taken is taken (R105). -/
def takeDuePass (s : State) : State :=
  match s.gauge.due with
  | some (c, mf) => takeDue c mf (s.onGauge fun g => { g with due := none })
  | none => s

/-- A due pass (R105). -/
def execDuePass (s : State) : Result := .next (whenRunning takeDuePass s)

/-- Kind codes of the table load (Table 10-2). -/
def kindTableBegin : Byte := 0x0E
/-- Kind code of TABLE_ROWS (Table 10-2). -/
def kindTableRows : Byte := 0x0F
/-- Kind code of TABLE_END (Table 10-2). -/
def kindTableEnd : Byte := 0x10

/-- A TABLE_LOAD task holds the slot. -/
def State.loading (s : State) : Bool := s.taskKind == some .tableLoad

/-- GAUGE answers a TABLE_BEGIN (Table 6-7). -/
def tableBeginAnswer (n check : Nat) (s : State) : State × Reply :=
  if !s.keyActive then answer (replyRefused kindTableBegin .keyRequired) s
  else if n < 2 ∨ 40 < n then answer (replyRefused kindTableBegin .badValue) s
  else if s.loading then (beginLoad n check s, replyOk kindTableBegin [])
  else
    let t := beginLoad n check (startTask .tableLoad s)
    (t, replyTaken kindTableBegin t)

/-- A TABLE_BEGIN request (R116, R163). -/
def tableBeginRequest (payload : List Byte) (s : State) : State × Reply :=
  match payload with
  | [n, c0, c1] =>
    if s.loading then tableBeginAnswer n.toNat (num16 c0 c1) s
    else unlessBusy kindTableBegin (tableBeginAnswer n.toNat (num16 c0 c1)) s
  | _ => answer (replyRefused kindTableBegin .badLength) s

/-- TABLE_BEGIN (R116). -/
def execTableBegin (payload : List Byte) (s : State) : Result :=
  .next (request payload tableBeginRequest s)

/-- Points are staged, and the inactivity timer restarts (R117). -/
def stageRows (first : Nat) (ps : List Point) (l : TableLoad) : TableLoad :=
  { l with slots := stagePoints first ps l.slots, timer := secondsTimer inactivitySeconds }

/-- GAUGE answers TABLE_ROWS (Table 6-8). -/
def tableRowsAnswer (first : Nat) (ps : List Point) (s : State) : State × Reply :=
  match s.loading, s.gauge.load with
  | true, some l =>
    if ps.isEmpty ∨ 20 < ps.length then answer (replyRefused kindTableRows .badValue) s
    else if l.expected < first + ps.length then answer (replyRefused kindTableRows .badValue) s
    else if ps.any (fun p => decide (4000 < p.depth)) then
      answer (replyRefused kindTableRows .badValue) s
    else
      (s.onGauge fun g => { g with load := some (stageRows first ps l) },
        replyOk kindTableRows (byte8 (stageRows first ps l).filled))
  | _, _ => answer (replyRefused kindTableRows .notNow) s

/-- A TABLE_ROWS request (R117, R163). -/
def tableRowsRequest (payload : List Byte) (s : State) : State × Reply :=
  match payload with
  | first :: rest =>
    match pointsOf rest with
    | some ps => tableRowsAnswer first.toNat ps s
    | none => answer (replyRefused kindTableRows .badLength) s
  | [] => answer (replyRefused kindTableRows .badLength) s

/-- TABLE_ROWS (R117). -/
def execTableRows (payload : List Byte) (s : State) : Result :=
  .next (request payload tableRowsRequest s)

/-- The load is validated, and swapped in or rejected (R118). -/
def finishLoad (l : TableLoad) (s : State) : State :=
  match l.validate with
  | .ok ps => endLoad .done .none (replaceTable ps s)
  | .error r => endLoad .rejected r s

/-- A TABLE_END request (R118). -/
def tableEndRequest (payload : List Byte) (s : State) : State × Reply :=
  match payload with
  | [] =>
    match s.loading, s.gauge.load with
    | true, some l => (finishLoad l s, replyOk kindTableEnd [])
    | _, _ => answer (replyRefused kindTableEnd .notNow) s
  | _ => answer (replyRefused kindTableEnd .badLength) s

/-- TABLE_END (R118). -/
def execTableEnd (payload : List Byte) (s : State) : Result := .next (request payload tableEndRequest s)

/-- The inactivity timer expires: the load ends TIMED_OUT (R119). -/
def execInactivityTimerExpiry (s : State) : Result :=
  .next (whenRunning (fun t =>
      if t.loading ∧ t.gauge.load.isSome then endLoad .timedOut .inactive t else t) s)

/-! ## FUEL -/

/-- Sixty settling minutes have passed: settling finishes with the previous value (R129). -/
def settlingTimesOut (s : State) : State :=
  match s.fuel.settling with
  | some x => if 60 ≤ x.minutes then finishSettling x.previous s else s
  | none => s

/-- The settling minutes reach 60 (R129). -/
def execSettlingTimeout (s : State) : Result := .next (whenRunning settlingTimesOut s)

/-- The period timer stands at 0 and its end is not deferred already (R126). -/
def takePeriodEnd (s : State) : State :=
  if s.fuel.periodTimer = 0 ∧ !s.fuel.deferred then periodEnds s else s

/-- The reconciliation period ends (R126). -/
def execPeriodEnd (s : State) : Result := .next (whenRunning takePeriodEnd s)

/-- Kind code of CLEAR_LEAK (Table 10-2). -/
def kindClearLeak : Byte := 0x16

/-- FUEL answers CLEAR_LEAK (R128). -/
def clearLeakAnswer (s : State) : State × Reply :=
  if s.fuel.leakFlag then
    (appendRecord (.leak false 0) none (clearLeakFlag (s.onFuel fun f => { f with leakCount := 0 })),
      replyOk kindClearLeak [])
  else answer (replyRefused kindClearLeak .notNow) s

/-- A CLEAR_LEAK request (R128). -/
def clearLeakRequest (payload : List Byte) (s : State) : State × Reply :=
  match payload with
  | [] => clearLeakAnswer s
  | _ => answer (replyRefused kindClearLeak .badLength) s

/-- CLEAR_LEAK (R128). -/
def execClearLeak (payload : List Byte) (s : State) : Result :=
  .next (request payload clearLeakRequest s)

/-- A full ring moves under the follow index (R171). -/
def followMoves (full : Bool) (l : Link) : Link :=
  if full then { l with follow := l.follow.map fun f => { f with index := f.index - 1 } } else l

/-- The trend timer stands at 0: an entry is made, and the follow index goes with the ring (R134, R171). -/
def takeTrendEntry (s : State) : State :=
  if s.fuel.trendTimer = 0 then
    (addTrendEntry s).onLink (followMoves (decide (trendMost ≤ s.fuel.trend.length)))
  else s

/-- A trend entry (R134). -/
def execTrendEntry (s : State) : Result := .next (whenRunning takeTrendEntry s)

end Sys2Proof.Machine
end

