-- ==== Sys2Proof/Machine/StoreCommands.lean ====
section
/-! DEFINITION. The commands of STORE and SUPPLY, and the run minute (Chapters 8 and 9). -/

namespace Sys2Proof.Machine

/-! ## The run minute (R137) -/

/-- The largest value of the run-minute counter (R137). -/
def runMinuteMost : Nat := 4294967295

/-- The largest value of the wall clock (R138). -/
def wallMost : Nat := 4294967294

/-- STORE at a run minute: the counter and a SET clock advance (R137, R138). -/
def Store.minute (st : Store) : Store :=
  { st with
    runMinute := min (st.runMinute + 1) runMinuteMost
    timebase := 0
    wall := if st.wallSet then min (st.wall + 1) wallMost else st.wall }

/-- Every zone's retry time loses one (R56). -/
def zonesMinute (s : State) : State := eachZone (fun z t => t.onZone z Zone.minute) s

/-- The blocks at a run minute, in the order of log entry 32. -/
def blocksMinute (s : State) : State :=
  let t := if s.storeActive then lookAtRotation s else s
  let u := whenRunning (fun v => zonesMinute (countOverrides v)) t
  let w := ifBurning burnMinute u
  settle (whenRunning (fun v => v.onFuel Fuel.minute) w)

/-- A run minute, once the counter is set (R137); without supply the timebase stands still. The blocks go on
counting when the counter rests at its maximum (DESIGN CHOICE, log entry 75). -/
def execRunMinute (s : State) : Result :=
  .next (if s.store.minutesSet && s.phase != .unpowered then blocksMinute (s.onStore Store.minute)
    else s)

/-- Kind code of SET_CLOCK (Table 10-2). -/
def kindSetClock : Byte := 0x07

/-- A SET_CLOCK request (R138). -/
def setClockRequest (payload : List Byte) (s : State) : State × Reply :=
  match payload with
  | [a, b, c, d] =>
    if wallMost < num32 a b c d then answer (replyRefused kindSetClock .badValue) s
    else
      (s.onStore fun st => { st with wall := num32 a b c d, wallSet := true },
        replyOk kindSetClock [])
  | _ => answer (replyRefused kindSetClock .badLength) s

/-- SET_CLOCK (R138). -/
def execSetClock (payload : List Byte) (s : State) : Result := .next (request payload setClockRequest s)

/-! ## The array (R142 to R149) -/

/-- A program completes; `good` is false when what it wrote fails its check (R140, R142; log entry 11). STORE
looks at rotation and serves the array before BURN acts on the answer (DESIGN CHOICE, log entry 81). -/
def execProgramCompletion (good : Bool) (s : State) : Result :=
  .next (if s.storeActive then settle (programDone good s) else s)

/-- An erase completes: of the start-up scan, of a rotation or of KEEP (R143, R144, R148, R150). -/
def execEraseCompletion (s : State) : Result :=
  .next (if s.phase = .scanning then s.onStore Store.scanErased
    else if s.storeActive then settle (eraseDone s) else s)

/-- Kind code of HISTORY_READ (Table 10-2). -/
def kindHistoryRead : Byte := 0x11

/-- The start a HISTORY_READ names, none for NEWEST (R146). -/
def historyStart (n : Nat) : Option Nat := if n = 4294967295 then none else some n

/-- STORE takes a HISTORY_READ: the first record is fixed, and the reading goes to the array (R143, R146);
follow mode ends (R171). -/
def takeHistoryRead (start : Option Nat) (count : Nat) (s : State) : State × Reply :=
  let t := (startTask .historyRead s).onLink fun l => { l with follow := none }
  (settle (kick (t.onStore fun st => { st with reading := some (st.fixRead start count) })),
    replyTaken kindHistoryRead t)

/-- STORE answers a HISTORY_READ (R146). -/
def historyAnswer (start count : Nat) (s : State) : State × Reply :=
  if count < 1 ∨ 16 < count then answer (replyRefused kindHistoryRead .badValue) s
  else takeHistoryRead (historyStart start) count s

/-- A HISTORY_READ request (R146, R163). -/
def historyRequest (payload : List Byte) (s : State) : State × Reply :=
  match payload with
  | [a, b, c, d, n] =>
    unlessBusy kindHistoryRead (unlessHeld kindHistoryRead (historyAnswer (num32 a b c d) n.toNat)) s
  | _ => answer (replyRefused kindHistoryRead .badLength) s

/-- HISTORY_READ (R146). -/
def execHistoryRead (payload : List Byte) (s : State) : Result :=
  .next (request payload historyRequest s)

/-- Kind code of KEEP (Table 10-2). -/
def kindKeep : Byte := 0x05

/-- STORE takes a KEEP: the settings erase is due (R148). -/
def takeKeep (s : State) : State × Reply :=
  let t := startTask .keep s
  (settle (kick (t.onStore fun st =>
      { st with keep := .waiting, eraseDue := st.eraseDue ++ [.settings] })),
    replyTaken kindKeep t)

/-- A KEEP request (R148, R163). -/
def keepRequest (payload : List Byte) (s : State) : State × Reply :=
  match payload with
  | [] => unlessBusy kindKeep takeKeep s
  | _ => answer (replyRefused kindKeep .badLength) s

/-- KEEP (R148). -/
def execKeep (payload : List Byte) (s : State) : Result := .next (request payload keepRequest s)

/-! ## SUPPLY (R156, R157) -/

/-- MAINS_OK falls (R156). -/
def execMainsOkFall (order : HoldOrder) (s : State) : Result :=
  .next (edge .mainsOk false (mainsFalls order) s)

/-- MAINS_OK rises (R157). -/
def execMainsOkRise (s : State) : Result := .next (edge .mainsOk true mainsRises s)

/-- The return timer expires: SUPPLY_HOLD ends (R157). -/
def execReturnTimerExpiry (s : State) : Result :=
  .next (if s.supplyActive = true ∧ s.supply.hold = true ∧ s.supply.returnTimer.isSome then
      endHold s else s)

end Sys2Proof.Machine
end

