-- ==== Sys2Proof/Machine/LinkCommands.lean ====
section
/-! DEFINITION. The commands of LINK: the receiver, IDENT, STATUS, the trend, the buffer, ABORT and the
transmit line (Chapter 10). -/

namespace Sys2Proof.Machine

/-! ## The receiver (R159) -/

/-- A frame in reception is abandoned silently (R159). -/
def abandonFrame (s : State) : State := if s.link.receiver = .inFrame then hunt s else s

/-- A 0xC3 while HUNTING starts a frame; the next byte is that frame's length, and a 0xC3 there is a bad
one (R159; log entry 35). -/
def startFrame (s : State) : State :=
  if s.link.receiver = .hunting then s.onLink fun l => { l with receiver := .inFrame }
  else abandonFrame s

/-- The bytes after a start byte arrive: a bad length or a failing checksum abandons the frame (R159). -/
def failFrame (bytes : List Byte) (s : State) : State :=
  if frameFails bytes then abandonFrame s else s

/-- A start byte arrives (R159). -/
def execStartByte (s : State) : Result := .next (whenRunning startFrame s)

/-- More than 20 ms between two bytes of a frame (R159). -/
def execInterByteGap (s : State) : Result := .next (whenRunning abandonFrame s)

/-- A bad length or a failing checksum (R159). -/
def execAbandonedFrame (s : State) (bytes : List Byte := []) : Result :=
  .next (whenRunning (failFrame bytes) s)

/-! ## UNKNOWN_KIND, IDENT and STATUS (R163, R164) -/

/-- A valid frame of a kind the host may not send is refused with its kind echoed (R163). -/
def execUnknownKind (kind : Byte) (payload : List Byte) (s : State) : Result :=
  .next (request payload (fun _ => answer (replyRefused kind .unknownKind)) s)

/-- Kind code of IDENT (Table 10-2). -/
def kindIdent : Byte := 0x01

/-- An IDENT request (R164). -/
def identRequest (payload : List Byte) (s : State) : State × Reply :=
  match payload with
  | [] => answer (replyOk kindIdent identBytes) s
  | _ => answer (replyRefused kindIdent .badLength) s

/-- IDENT (R164). -/
def execIdent (payload : List Byte) (s : State) : Result := .next (request payload identRequest s)

/-- Kind code of STATUS (Table 10-2). -/
def kindStatus : Byte := 0x02

/-- Forming the STATUS reply clears LINK_OVERRUN and the dropped flag (R141, R160, R164). -/
def statusClears (s : State) : State :=
  (s.onLink fun l => { l with overrun := false }).onStore fun st => { st with droppedFlag := false }

/-- A STATUS request (R164). -/
def statusRequest (payload : List Byte) (s : State) : State × Reply :=
  match payload with
  | [] => (statusClears s, replyOk kindStatus (statusBytes s))
  | _ => answer (replyRefused kindStatus .badLength) s

/-- STATUS (R164). -/
def execStatus (payload : List Byte) (s : State) : Result := .next (request payload statusRequest s)

/-! ## The trend (R170, R171) -/

/-- The ten bytes of an entry in the result buffer (Table 10-6). -/
def TrendEntry.bytes (e : TrendEntry) : List Byte :=
  byte32 e.stamp ++ byte16 e.value ++ byte16 e.meter
    ++ byte16 (min e.firing 16383 + 16384 * e.status.code)

/-- The index copying starts at: the start clamped to n, or the oldest entry for a wrapping copy that
starts at n (R170). -/
def trendStart (n start : Nat) (wrap : Bool) : Nat :=
  if n ≤ start then (if wrap then 0 else n) else start

/-- The entries copied (R170). -/
def trendCopy (ring : List TrendEntry) (start count : Nat) (wrap : Bool) : List TrendEntry :=
  let k := trendStart ring.length start wrap
  if wrap then (ring.drop k ++ ring.take k).take count else (ring.drop k).take count

/-- The index after the last entry copied (R171). -/
def trendNext (n start copied : Nat) (wrap : Bool) : Nat :=
  let k := trendStart n start wrap
  if copied = 0 then k
  else if k + copied < n then k + copied
  else if k + copied = n then (if wrap && decide (copied < n) then 0 else n)
  else k + copied - n

/-- The content of a fill: its header and the entries (R170). The start index used of a wrapping copy that
begins at the oldest is 0, and the wrapped flag is set when an entry was copied after the newest alone (DESIGN
CHOICE, log entry 90). -/
def trendContent (ring : List TrendEntry) (start count : Nat) (wrap : Bool) : List Byte :=
  let n := ring.length
  let k := trendStart n start wrap
  let es := trendCopy ring start count wrap
  byte8 k ++ byte8 es.length ++ byte8 n ++ flag (decide (n < k + es.length))
    ++ (es.map TrendEntry.bytes).flatten

/-- The data of a trend reply: the count delivered and the result size (R170). -/
def trendData (ring : List TrendEntry) (start count : Nat) (wrap : Bool) : List Byte :=
  byte8 (trendCopy ring start count wrap).length
    ++ byte16 (trendContent ring start count wrap).length

/-- LINK fills the buffer from the ring and sets follow mode (R170, R171). -/
def trendFill (start count : Nat) (wrap follow : Bool) (s : State) : State :=
  let ring := s.fuel.trend
  (fillBuffer (trendContent ring start count wrap) s).onLink fun l =>
    { l with
      follow :=
        if follow then
          some ⟨trendNext ring.length start (trendCopy ring start count wrap).length wrap, count, wrap⟩
        else none }

/-- The reply to a fill: CLAMPED when the start lay above n (R170). -/
def trendReply (kind : Byte) (start count : Nat) (wrap : Bool) (s : State) : Reply :=
  let data := trendData s.fuel.trend start count wrap
  if s.fuel.trend.length < start then replyClamped kind data else replyOk kind data

/-- Kind code of TREND_READ (Table 10-2). -/
def kindTrendRead : Byte := 0x12

/-- LINK takes a TREND_READ whose values are in range (R170). -/
def trendAnswer (start count : Nat) (wrap follow : Bool) (s : State) : State × Reply :=
  (trendFill start count wrap follow s, trendReply kindTrendRead start count wrap s)

/-- The ranges of a TREND_READ (R170). -/
def trendRanges (start count wrap follow : Nat) : Bool :=
  decide (start ≤ 47) && decide (1 ≤ count ∧ count ≤ 48) && decide (wrap ≤ 1) && decide (follow ≤ 1)

/-- A TREND_READ request (R170). -/
def trendRequest (payload : List Byte) (s : State) : State × Reply :=
  match payload with
  | [a, n, w, f] =>
    if trendRanges a.toNat n.toNat w.toNat f.toNat then
      unlessHeld kindTrendRead (trendAnswer a.toNat n.toNat (w.toNat == 1) (f.toNat == 1)) s
    else answer (replyRefused kindTrendRead .badValue) s
  | _ => answer (replyRefused kindTrendRead .badLength) s

/-- TREND_READ (R170). -/
def execTrendRead (payload : List Byte) (s : State) : Result := .next (request payload trendRequest s)

/-- Kind code of NEXT (Table 10-2). -/
def kindNext : Byte := 0x13

/-- LINK takes a NEXT in follow mode: a TREND_READ from the follow index (R171). -/
def nextAnswer (f : Follow) (s : State) : State × Reply :=
  (trendFill f.index f.count f.wrap true s, trendReply kindNext f.index f.count f.wrap s)

/-- A NEXT request (R171). -/
def nextRequest (payload : List Byte) (s : State) : State × Reply :=
  match payload with
  | [] =>
    match s.link.follow with
    | some f => unlessHeld kindNext (nextAnswer f) s
    | none => answer (replyRefused kindNext .noFollow) s
  | _ => answer (replyRefused kindNext .badLength) s

/-- NEXT (R171). -/
def execNextTrend (payload : List Byte) (s : State) : Result := .next (request payload nextRequest s)

/-! ## FETCH (R169) -/

/-- Kind code of FETCH (Table 10-2). -/
def kindFetch : Byte := 0x14

/-- The bytes a FETCH delivers (R169). -/
def fetched (content : List Byte) (offset size : Nat) : List Byte := (content.drop offset).take size

/-- The reply of a FETCH from a HELD buffer (Table 10-5a). -/
def fetchReply (content : List Byte) (offset size : Nat) (release : Bool) : Reply :=
  let bs := fetched content offset size
  let data := byte16 offset ++ byte8 bs.length ++ bs
  let r := if offset + size ≤ content.length then replyOk kindFetch data
    else replyClamped kindFetch data
  { r with releases := release }

/-- LINK answers a FETCH (Table 10-5a). -/
def fetchAnswer (offset size : Nat) (release : Bool) (s : State) : State × Reply :=
  if 511 < offset ∨ size < 1 ∨ 96 < size then answer (replyRefused kindFetch .badValue) s
  else
    match s.link.buffer with
    | .empty => answer (replyRefused kindFetch .nothingHeld) s
    | .filled => answer (replyRefused kindFetch .notNow) s
    | .held => answer (fetchReply s.link.content offset size release) s

/-- A FETCH request (R169). -/
def fetchRequest (payload : List Byte) (s : State) : State × Reply :=
  match payload with
  | [a, b, n, r] => fetchAnswer (num16 a b) n.toNat (r != 0) s
  | _ => answer (replyRefused kindFetch .badLength) s

/-- FETCH (R169). -/
def execFetch (payload : List Byte) (s : State) : Result := .next (request payload fetchRequest s)

/-! ## ABORT (R167) -/

/-- Kind code of ABORT (Table 10-2). -/
def kindAbort : Byte := 0x15

/-- What the owning block drops when its task is aborted (R15, R99, R119, R147, R149). -/
def dropTask (k : TaskKind) (s : State) : State :=
  match k with
  | .selftest => s.onScan fun c => { c with taskWait := .none }
  | .burnerReset => s.onBurn fun b => { b with task := none, proofLimit := none }
  | .tableLoad => s.onGauge fun g => { g with load := none }
  | .historyRead => lookAtRotation (s.onStore fun st => { st with reading := none })
  | .keep =>
    s.onStore fun st =>
      { st with keep := .none, eraseDue := st.eraseDue.filter fun e => !decide (e = .settings) }

/-- KEEP is in its WAITING phase (R149). -/
def Store.keepWaiting (st : Store) : Bool :=
  match st.keep with
  | .waiting => true
  | _ => false

/-- LINK answers an ABORT (R167). -/
def abortAnswer (s : State) : State × Reply :=
  match s.taskKind with
  | none => answer (replyRefused kindAbort .noTask) s
  | some k =>
    if k = .keep ∧ !s.store.keepWaiting then answer (replyRefused kindAbort .notAbortable) s
    else (endTask .aborted .abort 0 (dropTask k s), replyOk kindAbort [])

/-- An ABORT request (R167). -/
def abortRequest (payload : List Byte) (s : State) : State × Reply :=
  match payload with
  | [] => abortAnswer s
  | _ => answer (replyRefused kindAbort .badLength) s

/-- ABORT (R167). -/
def execAbort (payload : List Byte) (s : State) : Result := .next (request payload abortRequest s)

/-! ## The transmit line (R165, R172) -/

/-- With TXD free and no reply owed, the lowest pending notice begins: its kind leaves the set and its
snapshot is taken (R165, R172). -/
def beginNotice (s : State) : State :=
  match s.link.tx, s.link.owed, s.link.notices with
  | .free, none, n :: rest =>
    s.onLink fun l => { l with tx := .notice n (snapshot n s), notices := rest }
  | _, _, _ => s

/-- What LINK sends once TXD is free (R165). -/
def sendNext (s : State) : State := beginNotice (beginReply s)

/-- A releasing FETCH's reply has left TXD: the buffer is EMPTY (R168, R169). -/
def releaseBuffer (s : State) : State := s.onLink fun l => { l with buffer := .empty, content := [] }

/-- The last byte of a reply has left TXD (R152, R160, R169). -/
def replySent (r : Reply) (s : State) : State :=
  let t := s.onLink fun l => { l with tx := .free, owed := none }
  let u := if r.releases then releaseBuffer t else t
  if r.restarts then orderedRestart u else sendNext u

/-- A frame finishes leaving TXD, and LINK sends what comes next (R165). -/
def transmitDone (s : State) : State :=
  match s.link.tx, s.link.owed with
  | .reply, some r => replySent r s
  | _, _ => sendNext (s.onLink fun l => { l with tx := .free })

/-- A frame finishes leaving TXD (R165). -/
def execTransmitComplete (s : State) : Result := .next (whenRunning transmitDone s)

end Sys2Proof.Machine
end

