-- ==== Sys2Proof/Machine/Dispatch.lean ====
section
/-! DEFINITION. The commands' meanings, one arm per constructor of Instr in the table's order. -/

namespace Sys2Proof.Machine

/-- A command's effect on everything but the queue of waiting commands. -/
def exec (i : Instr) (s : State) : Host.Outcome State Fault Refusal :=
  match i with
  | .powerOn => Sys2Proof.Machine.execPowerOn s
  | .restart => Sys2Proof.Machine.execRestart s
  | .resetNRelease => Sys2Proof.Machine.execResetNRelease s
  | .firstLevel input high => Sys2Proof.Machine.execFirstLevel input high s
  | .handOver => Sys2Proof.Machine.execHandOver s
  | .burnerDerivation => Sys2Proof.Machine.execBurnerDerivation s
  | .endOfStartUp => Sys2Proof.Machine.execEndOfStartUp s
  | .scanPassStart => Sys2Proof.Machine.execScanPassStart s
  | .passCompletion counts => Sys2Proof.Machine.execPassCompletion counts s
  | .selftest payload => Sys2Proof.Machine.execSelftest payload s
  | .jobDemandChange ch => Sys2Proof.Machine.execJobDemandChange ch s
  | .resume payload => Sys2Proof.Machine.execResume payload s
  | .silenceTimerExpiry => Sys2Proof.Machine.execSilenceTimerExpiry s
  | .override payload => Sys2Proof.Machine.execOverride payload s
  | .overrideExpiry ch => Sys2Proof.Machine.execOverrideExpiry ch s
  | .clearTrip payload => Sys2Proof.Machine.execClearTrip payload s
  | .runMinute => Sys2Proof.Machine.execRunMinute s
  | .windowStampExpiry => Sys2Proof.Machine.execWindowStampExpiry s
  | .pollSlotEnd answer => Sys2Proof.Machine.execPollSlotEnd answer s
  | .writeSlotEnd acknowledged => Sys2Proof.Machine.execWriteSlotEnd acknowledged s
  | .statWrite payload => Sys2Proof.Machine.execStatWrite payload s
  | .zoneMode payload => Sys2Proof.Machine.execZoneMode payload s
  | .blindCycleStart z => Sys2Proof.Machine.execBlindCycleStart z s
  | .blindDutyEnd z => Sys2Proof.Machine.execBlindDutyEnd z s
  | .endMade z => Sys2Proof.Machine.execEndMade z s
  | .endBroken z => Sys2Proof.Machine.execEndBroken z s
  | .travelTimerExpiry z => Sys2Proof.Machine.execTravelTimerExpiry z s
  | .faultRetryExpiry z => Sys2Proof.Machine.execFaultRetryExpiry z s
  | .heatRequest => Sys2Proof.Machine.execHeatRequest s
  | .pumpProven => Sys2Proof.Machine.execPumpProven s
  | .overrunState => Sys2Proof.Machine.execOverrunState s
  | .fuelStage takers => Sys2Proof.Machine.execFuelStage takers s
  | .valveSenseRise => Sys2Proof.Machine.execValveSenseRise s
  | .valveSenseFall => Sys2Proof.Machine.execValveSenseFall s
  | .ignitionWindowExpiry => Sys2Proof.Machine.execIgnitionWindowExpiry s
  | .stopTimerExpiry => Sys2Proof.Machine.execStopTimerExpiry s
  | .antiCycleExpiry => Sys2Proof.Machine.execAntiCycleExpiry s
  | .noStartExpiry => Sys2Proof.Machine.execNoStartExpiry s
  | .overrunTimerExpiry => Sys2Proof.Machine.execOverrunTimerExpiry s
  | .accumulatorFull => Sys2Proof.Machine.execAccumulatorFull s
  | .lockoutSenseRise => Sys2Proof.Machine.execLockoutSenseRise s
  | .lockoutSenseFall => Sys2Proof.Machine.execLockoutSenseFall s
  | .cooldownExpiry => Sys2Proof.Machine.execCooldownExpiry s
  | .pulseTimerExpiry => Sys2Proof.Machine.execPulseTimerExpiry s
  | .checkTimerExpiry => Sys2Proof.Machine.execCheckTimerExpiry s
  | .proveTimerExpiry => Sys2Proof.Machine.execProveTimerExpiry s
  | .burnerReset payload => Sys2Proof.Machine.execBurnerReset payload s
  | .proofLimitExpiry => Sys2Proof.Machine.execProofLimitExpiry s
  | .localResetPress => Sys2Proof.Machine.execLocalResetPress s
  | .holdTimerExpiry => Sys2Proof.Machine.execHoldTimerExpiry s
  | .localResetRelease => Sys2Proof.Machine.execLocalResetRelease s
  | .serviceKeyEdge => Sys2Proof.Machine.execServiceKeyEdge s
  | .duePass => Sys2Proof.Machine.execDuePass s
  | .settlingTimeout => Sys2Proof.Machine.execSettlingTimeout s
  | .periodEnd => Sys2Proof.Machine.execPeriodEnd s
  | .clearLeak payload => Sys2Proof.Machine.execClearLeak payload s
  | .trendEntry => Sys2Proof.Machine.execTrendEntry s
  | .tableBegin payload => Sys2Proof.Machine.execTableBegin payload s
  | .tableRows payload => Sys2Proof.Machine.execTableRows payload s
  | .tableEnd payload => Sys2Proof.Machine.execTableEnd payload s
  | .inactivityTimerExpiry => Sys2Proof.Machine.execInactivityTimerExpiry s
  | .setClock payload => Sys2Proof.Machine.execSetClock payload s
  | .programCompletion good => Sys2Proof.Machine.execProgramCompletion good s
  | .eraseCompletion => Sys2Proof.Machine.execEraseCompletion s
  | .historyRead payload => Sys2Proof.Machine.execHistoryRead payload s
  | .keep payload => Sys2Proof.Machine.execKeep payload s
  | .mainsOkFall order => Sys2Proof.Machine.execMainsOkFall order s
  | .mainsOkRise => Sys2Proof.Machine.execMainsOkRise s
  | .returnTimerExpiry => Sys2Proof.Machine.execReturnTimerExpiry s
  | .interByteGap => Sys2Proof.Machine.execInterByteGap s
  | .unknownKind kind payload => Sys2Proof.Machine.execUnknownKind kind payload s
  | .ident payload => Sys2Proof.Machine.execIdent payload s
  | .status payload => Sys2Proof.Machine.execStatus payload s
  | .getParam payload => Sys2Proof.Machine.execGetParam payload s
  | .setParam payload => Sys2Proof.Machine.execSetParam payload s
  | .restartOrder => Sys2Proof.Machine.execRestartOrder s
  | .trendRead payload => Sys2Proof.Machine.execTrendRead payload s
  | .nextTrend payload => Sys2Proof.Machine.execNextTrend payload s
  | .fetch payload => Sys2Proof.Machine.execFetch payload s
  | .abort payload => Sys2Proof.Machine.execAbort payload s
  | .transmitComplete => Sys2Proof.Machine.execTransmitComplete s
  | .startByte => Sys2Proof.Machine.execStartByte s
  | .abandonedFrame bytes => Sys2Proof.Machine.execAbandonedFrame s bytes
  | .lossOfSupply => Sys2Proof.Machine.execLossOfSupply s

end Sys2Proof.Machine
end

