-- ==== Sys2Proof/Machine/Tick.lean ====
section
/-! DEFINITION. What the part does by itself while no command waits: an event that is due, a frame that
can begin to leave TXD, or one millisecond that passes (log entry 4). DESIGN CHOICE: the manual gives
the part timers and no row for a tick. -/

namespace Sys2Proof.Machine

/-- A timer has run out. -/
def Timer.out (t : Timer) : Bool := t == some 0

/-- A command when a condition holds. -/
def dueIf (b : Bool) (c : Instr) : List Instr := if b then [c] else []

/-! ## Start-up (R152 to R155) -/

/-- The start-up step that can be taken, and an erase of the scan that is over. -/
def dueInStart (s : State) : List Instr :=
  dueIf (s.phase == .scanning && s.store.array == .erasing (.sector (s.store.reErase.headD 0)) 0)
      .eraseCompletion
    ++ dueIf (s.scanDone || (s.phase == .supplyWait && s.inputs.mainsOk.isSome)) .handOver
    ++ dueIf (s.phase == .burnerWait && s.inputs.lockout.isSome && s.inputs.valve.isSome)
      .burnerDerivation
    ++ dueIf (s.phase == .derived) .endOfStartUp

/-! ## Timers (0.5.5) -/

/-- An erase in flight is over. -/
def Store.eraseOver (st : Store) : Bool :=
  match st.array with
  | .erasing _ ms => ms == 0
  | _ => false

/-- The run minute and the store's erases. -/
def dueInStore (s : State) : List Instr :=
  dueIf (s.store.minutesSet && s.phase != .unpowered && decide (60000 ≤ s.store.timebase)) .runMinute
    ++ dueIf (s.storeActive && s.store.eraseOver) .eraseCompletion
    ++ dueIf (s.supplyActive && s.supply.hold && s.supply.returnTimer.out) .returnTimerExpiry

/-- BURN's timers and counts (R66, R68, R72, R74, R77, R83, R86, R89, R90, R92, R99). -/
def dueInBurn (s : State) : List Instr :=
  let b := s.burn
  if s.burnActive then
    dueIf (b.gaining s.valveOpen && decide (accumulatorFullMs ≤ b.accMs)) .accumulatorFull
      ++ dueIf (b.state == .called && b.ignitionTimer.out) .ignitionWindowExpiry
      ++ dueIf (b.state == .stopping && b.stopTimer.out) .stopTimerExpiry
      ++ dueIf b.antiCycle.out .antiCycleExpiry
      ++ dueIf b.noStart.out .noStartExpiry
      ++ dueIf b.overrunTimer.out .overrunTimerExpiry
      ++ dueIf (b.state == .resetting && b.resetPhase == .pulse && b.pulseTimer.out)
        .pulseTimerExpiry
      ++ dueIf (b.state == .resetting && b.resetPhase == .check && b.checkTimer.out)
        .checkTimerExpiry
      ++ dueIf (b.state == .firing && b.proofPending && b.proveTimer.out) .proveTimerExpiry
      ++ dueIf (b.state == .cooldown && b.cooldown == some 0) .cooldownExpiry
      ++ dueIf (b.task.isSome && b.proofLimit == some 0) .proofLimitExpiry
      ++ dueIf (agedWindow s.now b.window != b.window) .windowStampExpiry
      ++ dueIf (!s.posts.pump.isEmpty) .pumpProven
      ++ dueIf (!s.posts.heat.isEmpty) .heatRequest
  else []

/-- A zone's timers (R51, R56). -/
def dueInZone (s : State) (z : Fin 6) : List Instr :=
  let zn := s.zoneAt z
  dueIf ((zn.state == .opening || zn.state == .closing) && zn.timer == .travel 0)
      (.travelTimerExpiry z)
    ++ dueIf (zn.state == .fault && zn.timer == .retry 0) (.faultRetryExpiry z)
    ++ dueIf (zn.sighted == .blind && decide (blindCycleMs ≤ zn.blindPos)) (.blindCycleStart z)
    ++ dueIf (zn.sighted == .blind && zn.modeCall && decide (dutyMs (s.zoneSet z).duty < blindCycleMs)
        && decide (dutyMs (s.zoneSet z).duty ≤ zn.blindPos)) (.blindDutyEnd z)

/-- The blocks that have a fuel stage to take. -/
def stageTakers (p : Posts) : List StageTaker :=
  (if p.stageBurn.isEmpty then [] else [.burn]) ++ (if p.stageZone.isEmpty then [] else [.zone])
    ++ (if p.stageLoop.isEmpty then [] else [.loop])

/-- Tellings on their way (Table 0-1). -/
def duePosts (s : State) : List Instr :=
  allChannels.flatMap (fun ch => dueIf (!s.posts.demand[ch].isEmpty) (.jobDemandChange ch))
    ++ dueIf (!s.posts.overrun.isEmpty) .overrunState
    ++ dueIf (!(stageTakers s.posts).isEmpty) (.fuelStage (stageTakers s.posts))

/-- The timers and counts of the blocks that work once start-up has ended. -/
def dueInBlocks (s : State) : List Instr :=
  if s.running then
    dueIf s.gauge.due.isSome .duePass
      ++ duePosts s
      ++ dueIf (s.scan.passTimer.out && s.scan.inFlight.isNone) .scanPassStart
      ++ dueIf s.link.silence.out .silenceTimerExpiry
      ++ allChannels.flatMap (fun ch =>
        dueIf (((s.chan ch).override.map Prod.snd) == some 0) (.overrideExpiry ch))
      ++ allZones.flatMap (dueInZone s)
      ++ dueIf (s.loading && Timer.out (s.gauge.load.bind TableLoad.timer)) .inactivityTimerExpiry
      ++ dueIf ((s.fuel.settling.map fun x => decide (60 ≤ x.minutes)) == some true)
        .settlingTimeout
      ++ dueIf (s.fuel.periodTimer == 0 && !s.fuel.deferred) .periodEnd
      ++ dueIf (s.fuel.trendTimer == 0) .trendEntry
  else []

/-- Every event that is due, in the order the model takes those due at one instant (log entry 33). -/
def dueCommands (s : State) : List Instr :=
  dueInStart s ++ dueInStore s ++ dueInBurn s ++ dueInBlocks s
    ++ dueIf (s.debouncing && s.svc.press == .timing && s.svc.holdTimer.out) .holdTimerExpiry

/-! ## A millisecond -/

/-- One millisecond off a timer. -/
def Timer.tick (t : Timer) : Timer := t.map countDown

/-- One millisecond for a zone. -/
def Zone.tick (zn : Zone) : Zone :=
  { zn with
    timer := match zn.timer with
      | .travel ms => .travel (countDown ms)
      | t => t
    blindPos := if zn.sighted = .blind then zn.blindPos + 1 else zn.blindPos }

/-- One millisecond for BURN: the accumulator gains while the oil valve is open (R77), and what came
together with a withdrawal has come (log entry 47). -/
def Burn.tick (valveOpen : Bool) (b : Burn) : Burn :=
  { b with
    ignitionTimer := b.ignitionTimer.tick, stopTimer := b.stopTimer.tick,
    antiCycle := b.antiCycle.tick, noStart := b.noStart.tick, overrunTimer := b.overrunTimer.tick,
    pulseTimer := b.pulseTimer.tick, checkTimer := b.checkTimer.tick,
    proveTimer := b.proveTimer.tick
    stoppingLeft := false
    accMs := if b.gaining valveOpen then b.accMs + 1 else b.accMs }

/-- One millisecond for STORE. -/
def Store.tick (st : Store) : Store :=
  { st with
    timebase := if st.minutesSet then st.timebase + 1 else st.timebase
    array := match st.array with
      | .erasing e ms => .erasing e (countDown ms)
      | a => a }

/-- A powered part lives through one millisecond in which nothing happens. -/
def passMillisecond (s : State) : State :=
  if s.phase = .unpowered then s
  else
    ((((((s.onScan fun c => { c with passTimer := c.passTimer.tick }).onZoneBlock fun b =>
      { b with zones := b.zones.map Zone.tick }).onBurn (Burn.tick s.valveOpen)).onGauge fun g =>
        { g with load := g.load.map fun l => { l with timer := l.timer.tick } }).onStore
          Store.tick).onSupply fun p => { p with returnTimer := p.returnTimer.tick }).onLink
            (fun l => { l with silence := l.silence.tick })
      |>.onSvc fun p => { p with holdTimer := p.holdTimer.tick }

/-- LINK has a frame to send and TXD is free (R165). -/
def State.canSend (s : State) : Bool :=
  s.running && s.link.tx == .free && (s.link.owed.isSome || !s.link.notices.isEmpty)

/-- With no command waiting and no event due: the next frame begins, or a millisecond passes. -/
def quiet (s : State) : State := if s.canSend then sendNext s else passMillisecond s

end Sys2Proof.Machine
end

