-- ==== Sys2Proof/Machine/Step.lean ====
section
/-! DEFINITION. One step: the command at the front of the queue, or, with none waiting, what the part
does by itself. -/

namespace Sys2Proof.Machine

/-- With no command waiting: the first event that is due, else a frame begins or a millisecond passes
(log entry 4). -/
def idleStep (s : State) : Host.Outcome State Fault Refusal :=
  match dueCommands s with
  | c :: _ => exec c s
  | [] => .next (quiet s)

/-- One step of the WB6. -/
def step (s : State) : Host.Outcome State Fault Refusal :=
  match s.pending with
  | c :: rest => exec c (s.withPending rest)
  | [] => idleStep s

/-- The state with the command a word spells at the front of its queue. The table gives no row any
bits, so that no word spells a command and the state stays as it is. -/
def State.withFetchWord (s : State) (_nbits _w : Nat) : State := s

end Sys2Proof.Machine
end

