-- ==== Sys2Proof/WellFormed.lean ====
section
/-! DEFINITION. Which commands the WB6's lines can carry. Ranges that a type already keeps (counts of
twelve bits, ten channels, six zones) need no check here. -/

namespace Sys2Proof

/-- The kinds a host may send (Table 10-2). -/
def hostKind (k : Byte) : Bool := decide (1 ≤ k.toNat) && decide (k.toNat ≤ 0x16)

/-- The payload of a request frame, where the command is one. -/
def Instr.payload? : Instr → Option (List Byte)
  | .selftest p | .resume p | .override p | .clearTrip p | .statWrite p | .zoneMode p
  | .burnerReset p | .clearLeak p | .tableBegin p | .tableRows p | .tableEnd p | .setClock p
  | .historyRead p | .keep p | .unknownKind _ p | .ident p | .status p | .getParam p | .setParam p
  | .trendRead p | .nextTrend p | .fetch p | .abort p => some p
  | _ => none

/-- A command the part's lines can carry: a frame's payload fits its envelope (R159), an unknown kind
is none of the host's kinds (R163), a fuel stage is taken at most once by each block (R132), and an
abandoned frame fails its length or its checksum (R159). -/
def Instr.wellFormed (c : Instr) : Bool :=
  (match c.payload? with
    | some p => decide (p.length ≤ maxPayload)
    | none => true)
  && (match c with
    | .unknownKind k _ => !hostKind k
    | .fuelStage ts => !ts.isEmpty && decide ts.Nodup
    | .abandonedFrame bs => frameFails bs
    | _ => true)

end Sys2Proof
end

