-- ==== Sys2Proof/Safety.lean ====
section
/-! DEFINITION. The terms the statements use: which parts of the state a command may change, and what
a safe state of the WB6 is. -/

namespace Sys2Proof.Machine

/-! ## Parts of the state -/

/-- The parts of the state, one per field. -/
inductive Block where
  | phase | inputs | scan | out | loop | zone | burn | gauge | fuel | store | supply | link | sett
  | svc | posts | free | pending
deriving DecidableEq, Repr

/-- One part of the state stands as before. -/
def State.sameAt (s t : State) : Block → Prop
  | .phase => t.phase = s.phase
  | .inputs => t.inputs = s.inputs
  | .scan => t.scan = s.scan
  | .out => t.out = s.out
  | .loop => t.loop = s.loop
  | .zone => t.zone = s.zone
  | .burn => t.burn = s.burn
  | .gauge => t.gauge = s.gauge
  | .fuel => t.fuel = s.fuel
  | .store => t.store = s.store
  | .supply => t.supply = s.supply
  | .link => t.link = s.link
  | .sett => t.sett = s.sett
  | .svc => t.svc = s.svc
  | .posts => t.posts = s.posts
  | .free => t.free = s.free
  | .pending => t.pending = s.pending

/-- Every part but those of `F` stands as before. -/
def State.changesOnly (F : List Block) (s t : State) : Prop := ∀ b : Block, b ∉ F → s.sameAt t b

/-- The parts a command may change: its block's own, those of the blocks it tells at once, and the
lists of tellings and notices. The record store answers BURN and ends tasks, so that a command that
appends a record may reach all three. -/
def Instr.touches : Instr → List Block
  | .powerOn | .restart | .lossOfSupply | .transmitComplete =>
    [.phase, .inputs, .scan, .out, .loop, .zone, .burn, .gauge, .fuel, .store, .supply, .link, .sett,
     .svc, .posts, .free]
  | .resetNRelease => [.phase, .store]
  | .firstLevel _ _ | .localResetPress => [.inputs, .svc]
  | .serviceKeyEdge => [.inputs]
  | .handOver =>
    [.phase, .inputs, .out, .loop, .zone, .burn, .gauge, .fuel, .store, .supply, .link, .sett, .posts]
  | .burnerDerivation => [.phase, .inputs, .burn, .gauge, .fuel, .store, .link, .sett, .posts]
  | .endOfStartUp =>
    [.phase, .scan, .out, .loop, .zone, .burn, .fuel, .store, .link, .sett, .posts]
  | .scanPassStart => [.scan]
  | .passCompletion _ =>
    [.scan, .out, .loop, .zone, .burn, .gauge, .fuel, .store, .link, .sett, .posts]
  | .selftest _ | .getParam _ => [.scan, .link]
  | .jobDemandChange _ | .overrideExpiry _ => [.out, .posts]
  | .resume _ | .silenceTimerExpiry => [.out, .loop, .zone, .link, .posts]
  | .override _ => [.out, .link, .posts]
  | .clearTrip _ => [.out, .loop, .zone, .burn, .link, .posts]
  | .runMinute => [.out, .zone, .burn, .fuel, .store, .link, .sett, .posts]
  | .pollSlotEnd _ | .travelTimerExpiry _ | .faultRetryExpiry _ | .zoneMode _ =>
    [.loop, .zone, .link, .posts]
  | .writeSlotEnd _ => [.loop, .zone]
  | .statWrite _ => [.loop, .link]
  | .blindCycleStart _ | .blindDutyEnd _ | .overrunState => [.zone, .posts]
  | .endMade _ => [.inputs, .zone, .posts]
  | .endBroken _ => [.inputs, .loop, .zone, .link, .posts]
  | .heatRequest | .pumpProven | .antiCycleExpiry | .noStartExpiry | .overrunTimerExpiry =>
    [.burn, .posts]
  | .stopTimerExpiry => [.burn, .link, .posts]
  | .fuelStage _ => [.loop, .zone, .burn, .posts]
  | .valveSenseRise => [.inputs, .burn, .link, .posts]
  | .valveSenseFall => [.inputs, .burn, .gauge, .fuel, .link, .posts]
  | .accumulatorFull => [.burn, .gauge, .fuel]
  | .ignitionWindowExpiry | .cooldownExpiry | .pulseTimerExpiry | .checkTimerExpiry
  | .proveTimerExpiry | .windowStampExpiry | .burnerReset _ | .programCompletion _ | .eraseCompletion
  | .historyRead _ | .keep _ => [.burn, .store, .link, .sett, .posts]
  | .lockoutSenseRise | .lockoutSenseFall => [.inputs, .burn, .store, .link, .sett, .posts]
  | .proofLimitExpiry => [.burn, .link]
  | .holdTimerExpiry => [.burn, .store, .link, .sett, .svc, .posts]
  | .localResetRelease => [.inputs, .burn, .store, .link, .sett, .svc, .posts]
  | .duePass => [.gauge, .fuel, .store, .link, .sett, .posts]
  | .settlingTimeout => [.fuel, .store, .link, .sett, .posts]
  | .periodEnd | .clearLeak _ => [.fuel, .store, .link, .sett]
  | .trendEntry => [.fuel, .link]
  | .tableBegin _ | .tableRows _ | .inactivityTimerExpiry => [.gauge, .link]
  | .tableEnd _ => [.gauge, .fuel, .store, .link, .sett, .posts]
  | .setClock _ | .status _ => [.store, .link]
  | .mainsOkFall _ =>
    [.inputs, .out, .loop, .zone, .burn, .gauge, .fuel, .store, .supply, .link, .sett, .posts]
  | .mainsOkRise => [.inputs, .supply]
  | .returnTimerExpiry => [.inputs, .out, .zone, .burn, .gauge, .store, .supply, .link, .sett, .posts]
  | .setParam _ => [.out, .loop, .zone, .burn, .gauge, .fuel, .store, .link, .sett, .posts]
  | .abort _ => [.scan, .burn, .gauge, .store, .link, .sett]
  | .interByteGap | .unknownKind _ _ | .ident _ | .restartOrder | .trendRead _ | .nextTrend _
  | .fetch _ | .startByte | .abandonedFrame _ => [.link]

/-! ## Requests -/

/-- LINK can take a request: start-up is over and no reply is owed (R152, R160). -/
def State.takes (s : State) : Prop := s.running = true ∧ s.link.owed = none

/-- LINK's own part of a request taken: the silence timer anew (R173), the receiver hunting again
(R159), and the reply `r` owed, leaving TXD at once when the line is free (R165). -/
def State.replied (s : State) (r : Reply) : State :=
  { s with link := { s.link with
      silence := some (1000 * s.par.silence)
      receiver := .hunting
      owed := some r
      tx := if s.link.tx = .free then .reply else s.link.tx } }

/-- A reply that neither releases the buffer nor begins a restart (R161). -/
def plainReply (kind : Byte) (r : ReplyResult) (why : ReasonCode) (data : List Byte) : Reply :=
  { kind := kind, result := r, reason := why, data := data, releases := false, restarts := false }

/-- A valid frame heard: the silence timer anew, the receiver hunting (R159, R173). -/
def State.heard (s : State) : State :=
  { s with link := { s.link with
      silence := some (1000 * s.par.silence), receiver := .hunting } }

/-- A request answered: the reply owed and, with the line free, leaving TXD; the receiver hunting and
the silence timer anew (R159, R161, R165, R173). -/
def State.answered (s t : State) (r : Reply) : Prop :=
  t.link.owed = some r ∧ t.link.receiver = .hunting
    ∧ t.link.silence = some (1000 * s.par.silence)
    ∧ t.link.tx = if s.link.tx = .free then .reply else s.link.tx

/-- The kind code of a request whose payload has one length, with that length (Table 10-2). -/
def Instr.fixedForm : Instr → Option (Byte × Nat)
  | .ident _ => some (0x01, 0) | .status _ => some (0x02, 0) | .getParam _ => some (0x03, 3)
  | .keep _ => some (0x05, 0) | .resume _ => some (0x06, 1) | .setClock _ => some (0x07, 4)
  | .override _ => some (0x08, 3) | .clearTrip _ => some (0x09, 1) | .zoneMode _ => some (0x0A, 2)
  | .statWrite _ => some (0x0B, 4) | .burnerReset _ => some (0x0C, 0) | .selftest _ => some (0x0D, 0)
  | .tableBegin _ => some (0x0E, 3) | .tableEnd _ => some (0x10, 0)
  | .historyRead _ => some (0x11, 5) | .trendRead _ => some (0x12, 4) | .nextTrend _ => some (0x13, 0)
  | .fetch _ => some (0x14, 4) | .abort _ => some (0x15, 0) | .clearLeak _ => some (0x16, 0)
  | _ => none

/-- The requests that start a task (R166), the load's own repeated TABLE_BEGIN apart. -/
def Instr.startsTask : Instr → Bool
  | .keep _ | .burnerReset _ | .selftest _ | .tableBegin _ | .historyRead _ => true
  | _ => false

/-- A command that is a request frame of the host. -/
def Instr.isRequest (c : Instr) : Bool := (Instr.payload? c).isSome || c == .restartOrder

/-! ## Channels, as Chapter 2 writes them -/

/-- What a change of effective state leaves of a channel's entry (R23). -/
def Channel.entered (v : Bool) (c : Channel) : Channel :=
  if c.effective = v then c
  else { c with effective := v, low := 0, high := 0, offs := 0, judgement := .none,
                settle := max c.settle 1 }

/-- An entry whose three counts start again (R27). -/
def Channel.recounted (c : Channel) : Channel := { c with low := 0, high := 0, offs := 0 }

/-- A judged scan of `ma` milliamperes under the window `lo`, `hi` (R28 to R30). -/
def Channel.judged (lo hi ma : Nat) (c : Channel) : Channel :=
  if c.effective then
    if ma < lo then
      { c with
        judgement := .below, high := 0
        low := if c.load = .ok ∧ c.low < 2 then c.low + 1 else 0
        load := if c.load = .ok ∧ 2 ≤ c.low then .openLoad else c.load }
    else if hi < ma then
      if c.high = 0 then { c with judgement := .above, high := 1, low := 0 }
      else ({ c with judgement := .above, load := .tripped } : Channel).recounted.entered false
    else
      { c with
        judgement := .within, low := 0, high := 0
        load := if c.load = .openLoad then .ok else c.load }
  else if 30 < ma then
    if 2 ≤ c.offs ∧ (c.load = .ok ∨ c.load = .openLoad) then { c with load := .stuckOn, offs := 0 }
    else { c with offs := min (c.offs + 1) 3 }
  else { c with offs := 0, load := if c.load = .stuckOn then .ok else c.load }

/-- One offered current scan: ignored in the hold, passed over while settling, not judged under
MEASURE_FAULT or a trip, else judged (R27). -/
def Channel.scanned (hold measureFault : Bool) (lo hi ma : Nat) (c : Channel) : Channel :=
  if hold then c
  else if 0 < c.settle then { c with settle := c.settle - 1 }
  else if measureFault ∨ c.load = .tripped then c
  else c.judged lo hi ma

/-- Pump proven as R33 puts it. -/
def State.pumpProvenByRule (s : State) : Bool :=
  s.out.channels[2].effective
    && (s.scan.measureFault
      || (s.out.channels[2].load == .ok && s.out.channels[2].judgement == .within))

/-- OUT has evaluated pump proven again where CH2's effective state changed, and told BURN a changed one (R23,
R33). -/
def State.pumpFollows (s t : State) : Prop :=
  (t.out.channels[2].effective ≠ s.out.channels[2].effective →
      t.out.pumpProven = t.pumpProvenByRule)
    ∧ (t.out.channels[2].effective = s.out.channels[2].effective →
      t.out.pumpProven = s.out.pumpProven)
    ∧ t.posts.pump = s.posts.pump
      ++ (if t.out.pumpProven = s.out.pumpProven then [] else [t.out.pumpProven])

/-! ## The zones' targets, as Chapter 3 writes them -/

/-- The mode a zone serves: its host mode in RUN, FROST in STANDBY, its fail-safe mode in FAILSAFE (R47,
Table 3-9). -/
def State.servedMode (s : State) (z : Fin 6) : HeatMode :=
  match s.out.mode with
  | .run => s.zone.zones[z].hostMode
  | .standby => .frost
  | .failsafe => s.sett.working.zones[z].failSafe

/-- The target of a zone: the setpoint of its mode, a DIAL zone's dial clamped to 50..300 for COMFORT's, and the
economy setpoint for COMFORT at RESERVE and DRY; none for OFF (R48). -/
def State.targetByRule (s : State) (z : Fin 6) : Option Nat :=
  match s.servedMode z with
  | .off => none
  | .frost => some s.sett.working.zones[z].frost
  | .economy => some s.sett.working.zones[z].economy
  | .comfort =>
    if s.zone.stage = .reserve ∨ s.zone.stage = .dry then some s.sett.working.zones[z].economy
    else if s.sett.working.zones[z].kind = .dial then
      match s.zone.zones[z].dial with
      | some d => some (if d < 50 then 50 else if 300 < d then 300 else d.toNat)
      | none => some s.sett.working.zones[z].comfort
    else some s.sett.working.zones[z].comfort

/-! ## STORE with nothing before it -/

/-- The array is free, nothing waits for it or for BURN, and the head has a slot: the next record asked
for is programmed at once (R142, R143). -/
def Store.ready (st : Store) : Prop :=
  st.array = .free ∧ st.queue = [] ∧ st.answers = [] ∧ st.reading = none ∧ st.carryWork = []
    ∧ st.rotation = .none ∧ st.place = .inHead

/-- The record a ready STORE forms of a payload (Table 8-2). -/
def Store.recordOf (st : Store) (p : Payload) : Record :=
  { seq := st.nextSeq, payload := p, stamp := st.runMinute
    wall := if st.wallSet then some st.wall else none, orig := none }

/-- A ready STORE that has taken one record: its program is in flight (R141, R142). -/
def Store.appending (st : Store) (p : Payload) (tag : Option Tag) : Store :=
  { st with queue := [⟨p, tag⟩], array := .programming (.append (st.recordOf p) none) }

/-- An ordinary record dropped: the count rises, up to its maximum, and the flag is set (R141; at the maximum
log entry 64). -/
def Store.dropping (st : Store) : Store :=
  { st with dropped := min (st.dropped + 1) 65535, droppedFlag := true }

/-- A program is in flight and nothing waits for BURN, so that a record asked of STORE only joins the append
queue (R141, R143). -/
def Store.busy (st : Store) : Prop := st.answers = [] ∧ ∃ p, st.array = .programming p

/-- STORE has no place for a safety-class record: four safety-class entries, none of which can be removed
(Table 8-5). -/
def Store.packed (st : Store) : Prop :=
  st.busy ∧ st.queue.length = 4 ∧ ∀ e ∈ st.queue, e.payload.safety = true

/-- The array is free and nothing waits for it; a rotation may be needed, but none is started (R143,
R144). -/
def Store.resting (st : Store) : Prop :=
  st.answers = [] ∧ st.array = .free ∧ st.queue = [] ∧ st.reading = none ∧ st.carryWork = []
    ∧ st.suspended = none ∧ st.eraseDue = [] ∧ st.keep = .none ∧ st.rotation.started = false

/-- A record asked of a resting STORE: what R142's four cases leave, and whether it is refused. -/
def Store.placedByRule (st : Store) (p : Payload) (tag : Option Tag) (u : Store) (refused : Bool) : Prop :=
  (st.head = none → refused = false ∧ u = { st.appending p tag with
    array := .programming (.append (st.recordOf p) (some 0)) })
  ∧ ∀ h : Fin 4, st.head = some h →
    (st.sectors[h].slots.length < 64 →
      (st.rotation ≠ .none → 60 ≤ st.sectors[h].slots.length → p.safety = false →
        u = st.dropping ∧ refused = false)
      ∧ (st.rotation = .none ∨ st.sectors[h].slots.length < 60 ∨ p.safety = true →
        u = st.appending p tag ∧ refused = false))
    ∧ (st.sectors[h].slots.length = 64 →
      (st.sectors[h + 1].mark = .erased → refused = false ∧ u = { st.appending p tag with
        array := .programming (.append (st.recordOf p) (some (h + 1))) })
      ∧ (st.sectors[h + 1].mark ≠ .erased →
        (p.safety = false → u = st.dropping ∧ refused = false)
        ∧ (p.safety = true → u = st ∧ refused = true)))

/-- A record asked of a busy STORE: what Table 8-5 leaves, and whether it is refused. -/
def Store.joinedByTable (st : Store) (p : Payload) (tag : Option Tag) (u : Store) (refused : Bool) : Prop :=
  (st.queue.length < 4 → u = { st with queue := st.queue ++ [⟨p, tag⟩] } ∧ refused = false)
    ∧ (4 ≤ st.queue.length → p.safety = false → u = st.dropping ∧ refused = false)
    ∧ (4 ≤ st.queue.length → p.safety = true →
      (∀ a e b, st.queue = a ++ e :: b → e.payload.safety = false →
        (∀ x ∈ b, x.payload.safety = true) →
        (a ≠ [] ∨ (∀ r o, st.array ≠ .programming (.append r o)) →
          u = { st.dropping with queue := a ++ b ++ [⟨p, tag⟩] } ∧ refused = false)
        ∧ (∀ r o, a = [] → st.array = .programming (.append r o) → u = st ∧ refused = true))
      ∧ ((∀ e ∈ st.queue, e.payload.safety = true) → u = st ∧ refused = true))

/-! ## STORE's records, as R139, R140, R145 and R150 have them -/

/-- A slot of a VALID sector shares its number with no slot of another (R140). -/
def Store.numbered (st : Store) : Prop :=
  ∀ (i j : Fin 4) (n m k l : Nat), st.sectors[i].mark = .valid n → st.sectors[j].mark = .valid m →
    k < st.sectors[i].slots.length → l < st.sectors[j].slots.length → n + k = m + l → i = j

/-- No sequence number is given twice (R140): not among the VALID sectors, none of which is without a slot,
nor by the next sequence, once the start-up scan has set it; programs run only after the scan. -/
def State.numbersOnce (s : State) : Prop :=
  s.store.numbered
    ∧ (∀ (i : Fin 4) (n : Nat), s.store.sectors[i].mark = .valid n → s.store.sectors[i].slots ≠ [])
    ∧ (s.storeActive = true ∨ s.phase = .supplyWait ∨ (s.phase = .scanning ∧ s.store.reErase = []) →
      (∀ (i : Fin 4) (n : Nat), s.store.sectors[i].mark = .valid n →
        n + s.store.sectors[i].slots.length ≤ s.store.nextSeq)
      ∧ ∀ (h : Fin 4) (n : Nat), s.store.head = some h → s.store.sectors[h].mark = .valid n →
        n + s.store.sectors[h].slots.length = s.store.nextSeq)
    ∧ ((∃ p, s.store.array = .programming p) → s.storeActive = true)

/-- Until STORE's own state begins nothing waits for the array, nothing is read, kept or answered, and the array
is free or erases a sector of the start-up scan (R150, R151). -/
def State.storeWaits (s : State) : Prop :=
  s.storeActive = false →
    s.store.answers = [] ∧ s.store.queue = [] ∧ s.store.eraseDue = [] ∧ s.store.carryWork = []
      ∧ s.store.reading = none ∧ s.store.suspended = none ∧ s.store.keep = .none
      ∧ (s.store.array = .free ∨ ∃ i n, s.store.array = .erasing (.sector i) n)

/-- Before the end of start-up every zone is IDLE and none calls (R61). -/
def State.zonesRest (s : State) : Prop :=
  s.running = false → ∀ z : Fin 6, s.zone.zones[z].state = .idle ∧ s.zone.zones[z].call = false

/-- No sector holds more than its 64 slots, and a program into a slot of the head has a free one there (R139,
R142). -/
def Store.fits (st : Store) : Prop :=
  (∀ i : Fin 4, st.sectors[i].slots.length ≤ 64)
    ∧ ∀ (r : Record) (h : Fin 4), st.head = some h →
      st.array = .programming (.append r none) ∨ st.array = .programming (.carry r none) →
      st.sectors[h].slots.length < 64

/-- A good record of a slot of a VALID sector: its stored number agrees with its position (R140, R150). -/
def Store.found (st : Store) (r : Record) : Prop :=
  ∃ (i : Fin 4) (n k : Nat), st.sectors[i].mark = .valid n
    ∧ st.sectors[i].slots[k]? = some (.good r) ∧ r.seq = n + k

/-- A good record of the VALID sector `i` (R140, R150). -/
def Store.lies (st : Store) (i : Fin 4) (r : Record) : Prop :=
  ∃ n k : Nat, st.sectors[i].mark = .valid n ∧ st.sectors[i].slots[k]? = some (.good r)
    ∧ r.seq = n + k

/-- A record the start-up scan hands on: of a carried copy and its original, the original (R150 step 4), of two
copies the older (log entry 77). -/
def Store.keeps (st : Store) (r : Record) : Prop :=
  st.found r ∧ ∀ x, st.found x → x.origin = r.origin → r.seq ≤ x.seq

/-- The newest record of a kind by original sequence (R102, R145). -/
def Store.newestOf (st : Store) (p : Record → Bool) (r : Record) : Prop :=
  st.keeps r ∧ p r = true ∧ ∀ x, st.keeps x → p x = true → x.origin ≤ r.origin

/-- A record of a kind follows by original sequence (R102, R145). -/
def Store.followed (st : Store) (p : Record → Bool) (r : Record) : Prop :=
  ∃ x, st.keeps x ∧ p x = true ∧ r.origin < x.origin

/-- A failure that counts: RELOCK or RESET_FAILED, with no RECOVERED and no ACK after it (R102, R145). -/
def Store.failing (st : Store) (r : Record) : Prop :=
  st.keeps r ∧ r.isFailure = true ∧ ¬ st.followed (fun x => x.isRecovered || x.isAck) r

/-- A record a rotation carries forward when it lies in the tail (R145's list). -/
def Store.live (st : Store) (r : Record) : Prop :=
  (st.newestOf Record.isLatch r ∧ ¬ st.followed Record.isAck r)
    ∨ (st.newestOf Record.isLockout r ∧ r.isStarvation = true
      ∧ ¬ st.followed (fun x => x.isReset || x.isAck) r)
    ∨ (st.newestOf Record.isReset r ∧ ¬ st.followed Record.isOutcome r)
    ∨ st.failing r
    ∨ st.newestOf Record.isGauge r
    ∨ (st.newestOf Record.isLeak r ∧ r.isSuspect = true ∧ ¬ st.followed Record.isDelivery r)

/-- The tail of a head `h` holds a safety-class record younger than 1,440 run minutes (R144). -/
def Store.guarded (st : Store) (h : Fin 4) : Prop :=
  ∃ r, st.lies (h + 1) r ∧ r.payload.safety = true ∧ st.runMinute < r.stamp + 1440

/-- What a look at rotation leaves (R144, R145): none needed, deferred by its first cause (log entry 72), or
started with the tail's live records, judged at the look (log entry 65), in ascending order of original
sequence; a started one keeps its place, and is set back by the hold or a reading until its erase begins (log
entry 49). -/
def Store.rotatedByRule (hold : Bool) (st u : Store) : Prop :=
  (st.rotation.started = true → u.rotation = st.rotation ∧ u.carryWork = st.carryWork
    ∧ u.setBack = (if st.rotation = .erasing then none else if hold then some .byHold
      else if st.reading = none then none else some .byRead))
  ∧ (st.rotation.started = false → ∀ h : Fin 4, st.head = some h →
    (st.sectors[h].slots.length < 56 ∨ st.sectors[h + 1].mark = .erased →
      u.rotation = .none ∧ u.carryWork = st.carryWork)
    ∧ (56 ≤ st.sectors[h].slots.length → st.sectors[h + 1].mark ≠ .erased →
      (st.guarded h → u.rotation = .byGuard ∧ u.carryWork = st.carryWork)
      ∧ (¬ st.guarded h → hold = true → u.rotation = .byHold ∧ u.carryWork = st.carryWork)
      ∧ (¬ st.guarded h → hold = false → st.reading ≠ none →
        u.rotation = .byRead ∧ u.carryWork = st.carryWork)
      ∧ (¬ st.guarded h → hold = false → st.reading = none → u.rotation = .carrying
        ∧ ∀ l : List Record, l.Pairwise (fun x y => x.origin < y.origin) →
          (∀ r, r ∈ l ↔ st.live r ∧ st.lies (h + 1) r) → u.carryWork = st.carryWork ++ l)))

/-- What a reset leaves of the record area: an append or a copy cut short is a bad slot of the head, or of
the sector it was opening a torn header or its one bad slot, which the manual leaves open (R142; log
entry 19). -/
def Store.cutShort (st : Store) (v : Vector Sector 4) : Prop :=
  (∀ r h, (st.array = .programming (.append r none) ∨ st.array = .programming (.carry r none)) →
      st.head = some h → v = st.sectors.set h
        { st.sectors[h] with slots := st.sectors[h].slots ++ [.bad] })
    ∧ (∀ r i, (st.array = .programming (.append r (some i))
        ∨ st.array = .programming (.carry r (some i))) →
      v = st.sectors.set i ⟨.torn, []⟩ ∨ v = st.sectors.set i ⟨.valid st.nextSeq, [.bad]⟩)
    ∧ ((∀ r o, st.array ≠ .programming (.append r o) ∧ st.array ≠ .programming (.carry r o)) →
      v = st.sectors)

/-! ## Display items, as Chapter 3 writes them -/

/-- Node `n` is owed the value `v` of an item: queued, or stale and so queued after its next good report
(R41, R44). -/
def State.owes (s : State) (n : Fin 15) (i : Item) (v : Nat) : Prop :=
  (∃ e ∈ s.loop.queue, e.node = n ∧ e.item = i ∧ e.value = v) ∨ Node.isStale i s.loop.nodes[n] = true

/-- The next poll slot is open: at the next bound address round the ring, the lowest one before any poll, or
none with no address bound (R38). -/
def State.pollsNext (s t : State) : Prop :=
  (t.loop.slot = .quiet ∧ ∀ k : Fin 15, t.loop.nodes[k].zone = none)
    ∨ ∃ m : Fin 15, t.loop.slot = .poll m false ∧ t.loop.lastPolled = some m
      ∧ t.loop.nodes[m].zone ≠ none
      ∧ (s.loop.lastPolled = none → ∀ k : Fin 15, k < m → t.loop.nodes[k].zone = none)
      ∧ ∀ n : Fin 15, s.loop.lastPolled = some n →
        (n < m ∧ ∀ k : Fin 15, n < k → k < m → t.loop.nodes[k].zone = none)
        ∨ (m ≤ n ∧ ∀ k : Fin 15, n < k ∨ k < m → t.loop.nodes[k].zone = none)

/-- After a poll slot: whenever the queue holds an entry, a write slot that carries the oldest one with the
value it holds now, else the next poll slot (R38, R42). -/
def State.ringGoesOn (s t : State) : Prop :=
  (∀ e rest, t.loop.queue = e :: rest → t.loop.slot = .write e.value false ∧ e.inSlot = true)
    ∧ (t.loop.queue = [] → s.pollsNext t)

/-! ## The burner, as Chapters 4 and 5 write it -/

/-- FUEL after a posting of `sec` seconds of firing at the nozzle rate `q` (R123, R134). -/
def Fuel.posted (q sec : Nat) (f : Fuel) : Fuel :=
  { f with
    meter := min (f.meter + (f.remainder + sec * q) / 3600) 4294967295
    remainder := (f.remainder + sec * q) % 3600
    lifetime := (f.lifetime + (f.remainder + sec * q) / 3600) % 4294967296
    hourMeter := min (f.hourMeter + (f.remainder + sec * q) / 3600) 65535
    hourFiring := min (f.hourFiring + sec) 65535 }

/-- The state an edge of a sense line finds: STOPPING still, when it comes together with the withdrawal that
left it (R68, R75; log entry 47). -/
def Burn.met (b : Burn) : BurnState :=
  if b.stoppingLeft = true ∧ (b.state = .idle ∨ b.state = .inhibited) then .stopping else b.state

/-- The burner has come to rest in IDLE or INHIBITED, or is called again at once when the three call
conditions hold (R63, R67, R72). -/
def State.atRest (s t : State) : Prop :=
  (t.burn.inhibit ≠ InhibitSet.empty → t.burn.state = .inhibited)
    ∧ (t.burn.inhibit = InhibitSet.empty →
      (t.burn.heat = true → t.burn.pump = true →
        t.burn.state = (if s.inputs.valve = some true then .firing else .called))
      ∧ (t.burn.heat = false ∨ t.burn.pump = false → t.burn.state = .idle))

/-- The burner is called (R67, R68): CH0 demanded, the overrun stopped, the ignition window running, or
FIRING at once with the oil valve already open. -/
def State.calledFrom (s t : State) : Prop :=
  t.posts.demand[0] = s.posts.demand[0] ++ [true]
    ∧ t.burn.overrun = false
    ∧ t.posts.overrun = s.posts.overrun ++ (if s.burn.overrun then [false] else [])
    ∧ t.burn.inhibit = s.burn.inhibit ∧ t.burn.starts = s.burn.starts
    ∧ (s.inputs.valve ≠ some true → t.burn.state = .called ∧ t.burn.firedInCall = false
      ∧ t.burn.ignitionTimer = some (1000 * s.sett.working.ignition))
    ∧ (s.inputs.valve = some true → t.burn.state = .firing ∧ t.burn.firedInCall = true
      ∧ t.burn.ignitionTimer = none)

/-- After the release of a call in which the valve had opened (`fired`), or had not: ANTI_CYCLE with the
minimum off time, and the overrun unless the flow is known to be cool (R66, R71, R74). -/
def State.afterRelease (fired : Bool) (s t : State) : Prop :=
  (fired = true → s.sett.working.minOff ≠ 0 →
      t.burn.inhibit.antiCycle = true
        ∧ t.burn.antiCycle = some (1000 * s.sett.working.minOff))
    ∧ (fired = false ∨ s.sett.working.minOff = 0 →
      t.burn.inhibit.antiCycle = s.burn.inhibit.antiCycle ∧ t.burn.antiCycle = s.burn.antiCycle)
    ∧ (fired = true → (∃ x : Int, s.flowKnown = some x ∧ x < s.sett.working.overTemp) →
      t.burn.overrun = false)
    ∧ (fired = true → (∀ x : Int, s.flowKnown = some x → s.sett.working.overTemp ≤ x) →
      t.burn.overrun = true ∧ t.burn.overrunTimer = some (1000 * s.sett.working.overMax))
    ∧ (fired = false → t.burn.overrun = s.burn.overrun ∧ t.burn.overrunTimer = s.burn.overrunTimer)

/-- The call is withdrawn (R71, R72): CH0 released, STOPPING with its timer while the oil valve is open,
else at rest at once, where an edge that came together with the withdrawal still finds STOPPING (log entry
47). The ignition window is stopped (log entry 53). -/
def State.withdrawnFrom (s t : State) : Prop :=
  t.posts.demand[0] = s.posts.demand[0] ++ [false] ∧ t.burn.ignitionTimer = none
    ∧ (s.inputs.valve = some true → t.burn.state = .stopping ∧ t.burn.stopTimer = some 10000)
    ∧ (s.inputs.valve ≠ some true → t.burn.stopTimer = none ∧ t.burn.stoppingLeft = true
      ∧ (t.burn.inhibit = InhibitSet.empty → t.burn.state = .idle)
      ∧ (t.burn.inhibit ≠ InhibitSet.empty → t.burn.state = .inhibited))
    ∧ s.afterRelease s.burn.firedInCall t

/-- Until BURN has derived its state the stage FUEL restored is the one stage on its way to it, once the
hand-over has posted it, and none before (R79, R135, R154). -/
def State.stagePosted (s : State) : Prop :=
  (s.phase = .unpowered ∨ s.phase = .released ∨ s.phase = .scanning ∨ s.phase = .supplyWait →
      s.posts.stageBurn = [])
    ∧ (s.phase = .burnerWait → s.posts.stageBurn = [s.fuel.stage])

/-- The burner is not called, no heat request has reached BURN, and no withdrawal has just left STOPPING (the
mark of log entry 47). -/
def Burn.uncalled (b : Burn) : Prop := b.state.calling = false ∧ b.heat = false ∧ b.stoppingLeft = false

/-- Until BURN has derived its state it does not call, no heat request has reached it and no call has been
withdrawn (R79, R154). -/
def State.burnRests (s : State) : Prop := s.burnActive = false → s.burn.uncalled

/-- Before the end of start-up no node has been polled (R45, R155). -/
def State.ringRests (s : State) : Prop := s.running = false → s.loop.lastPolled = none

/-- A SIGHTED zone that goes by its temperature has one, and before the end of start-up none is SIGHTED (R49,
R51, R61). -/
def State.sightedByReport (s : State) : Prop :=
  (∀ z : Fin 6, s.zone.zones[z].sighted = .sighted → s.sett.working.zones[z].kind ≠ .contact →
      s.zone.zones[z].temp ≠ none)
    ∧ (s.running = false → ∀ z : Fin 6, s.zone.zones[z].sighted ≠ .sighted)

/-- BURN owes no record and waits for none, and STORE is ready for the next (R91, R142). -/
def State.recordsClear (s : State) : Prop :=
  s.store.ready ∧ s.burn.owed = [] ∧ s.burn.asks = []

/-- RESETTING has begun with origin `o`, and its RESET record is asked for: a non-attended one counts
itself against the budget (R88); dark waiting is clear (log entry 56). -/
def State.resetBegun (s t : State) (o : Origin) : Prop :=
  t.burn.state = .resetting ∧ t.burn.resetOrigin = o ∧ t.burn.resetPhase = .recording
    ∧ t.burn.cooldown = none ∧ t.burn.attendedOwed = false ∧ t.burn.darkWaiting = false
    ∧ t.burn.window = s.burn.window
    ∧ t.store = s.store.appending
      (if o = .auto ∨ o = .host then .reset o false (s.burn.window.length + 1)
        else .reset o true s.burn.window.length) (some .reset)

/-- The task in the slot has ended, with its TASK_END notice (R166). -/
def State.taskEnded (t : State) (k : TaskKind) (serial : Nat) (o : TaskOutcome) (r : ReasonCode) :
    Prop :=
  t.link.slot = none ∧ t.link.lastEnd = some ⟨k, serial, o, r, 0⟩ ∧ .taskEnd ∈ t.link.notices

/-- The pending notices stand in ascending order of their codes, each kind once (R165, R172). -/
def State.noticesOnce (s : State) : Prop := s.link.notices.Pairwise fun m n => m.code < n.code

/-- What TXD sends next with no reply owed: the notice of the lowest code pending, with its snapshot taken
now, and its kind leaves the set; or nothing (R165, R172). -/
def State.sendsNext (s : State) (tx : TxLine) (left : List Notice) : Prop :=
  (s.link.notices = [] ∧ tx = .free ∧ left = [])
    ∨ ∃ n, n ∈ s.link.notices ∧ (∀ m ∈ s.link.notices, n.code ≤ m.code)
      ∧ tx = .notice n (snapshot n s) ∧ left = s.link.notices.filter (fun m => decide (m ≠ n))

/-! ## The tank gauge, as Chapter 6 writes it -/

/-- The volume `v` that the strapping table gives at depth `m`: the first point's at or above it, the last
one's at or below it, else between two points, halves up (R110). -/
def tableGives (table : List Point) (m v : Nat) : Prop :=
  (∀ p rest, table = p :: rest → m ≤ p.depth → v = p.volume)
    ∧ (∀ a p q b, table = a ++ p :: q :: b → pointsOrdered table = true → p.depth ≤ m →
      m < q.depth → v = p.volume
        + (2 * ((m - p.depth) * (q.volume - p.volume)) + (q.depth - p.depth))
          / (2 * (q.depth - p.depth)))
    ∧ (∀ a p, table = a ++ [p] → pointsOrdered table = true → p.depth ≤ m → v = p.volume)

/-- The whole degrees `T` used for V15: the temperature held, halves away from zero, within -30..50; 15
without one (R106). -/
def degreesOf (held : Option Int) (T : Int) : Prop :=
  (held = none → T = 15)
    ∧ ∀ h : Int, held = some h →
      (505 ≤ h → T = 50) ∧ (h ≤ -305 → T = -30)
      ∧ (0 ≤ h → h < 505 → 10 * T ≤ h + 5 ∧ h + 5 < 10 * T + 10)
      ∧ (-305 < h → h < 0 → 10 * T - 10 < h - 5 ∧ h - 5 ≤ 10 * T)

/-- V15 of the volume `v` at `T` degrees, with the coefficient `k`: halves away from zero, within 0..65,535
(R111). -/
def compensatedTo (k v : Nat) (T : Int) (x : Nat) : Prop :=
  (v ≤ 65535 → 15 ≤ T → x = v - (2 * (v * k * (T - 15).toNat) + 1000000) / 2000000)
    ∧ (v ≤ 65535 → T < 15 → x = min 65535 (v + (2 * (v * k * (15 - T).toNat) + 1000000) / 2000000))

/-! ## The fuel account, as Chapter 7 writes it -/

/-- The plain stage of a volume (Table 7-5). -/
def stageOfVolume (w : Settings) (v : Nat) : FuelStage :=
  if 10 * w.low ≤ v then .normal
  else if 10 * w.reserve ≤ v then .low
  else if 10 * w.dry ≤ v then .reserve
  else .dry

/-- The stage a volume gives: down at once, up one step at its rise bound (R131). -/
def stageByRule (w : Settings) (present : FuelStage) (v : Nat) : FuelStage :=
  match present, stageOfVolume w v with
  | .normal, g => g
  | .low, .normal => if 10 * (w.low + 30) ≤ v then .normal else .low
  | .low, g => g
  | .reserve, .dry => .dry
  | .reserve, _ => if 10 * (w.reserve + 30) ≤ v then .low else .reserve
  | .dry, _ => if 10 * (w.dry + 30) ≤ v then .reserve else .dry

/-- The reference becomes `v` and nothing is awaited; the period begins again (R125, R126). -/
def Fuel.rebased (w : Settings) (now v : Nat) (gaugeFault : Bool) (f : Fuel) : Fuel :=
  { f with
    reference := v, refStamp := now, refGood := true, meter := 0, awaiting := .none
    periodTimer := 60 * w.period, deferred := false, ungauged := gaugeFault }

/-- FUEL has acted on the GOOD value `x` outside a settling that finishes (R125, R129, R131). -/
def State.fuelActed (s t : State) (x : Nat) : Prop :=
  ∀ f : Fuel, f = { s.fuel with
      value := x, status := .good, stage := stageByRule s.sett.working s.fuel.stage x } →
    ∀ rises : Bool, rises = decide (s.fuel.reference + 10 * s.sett.working.delivery ≤ x) →
    (s.fuel.awaiting = .table ∨ (s.fuel.awaiting = .start ∧ rises = false) →
      t.fuel = f.rebased s.sett.working s.store.runMinute x t.gauge.fault)
    ∧ (s.fuel.awaiting = .start → rises = true →
      t.fuel = { f with awaiting := .none, settling := some ⟨0, x, 0⟩ })
    ∧ (s.fuel.awaiting = .none → s.fuel.settling = none →
      t.fuel = if rises then { f with settling := some ⟨0, x, 0⟩ } else f)
    ∧ (∀ y n, s.fuel.awaiting = .none → s.fuel.settling = some y →
      n = (if x ≤ y.previous + 50 ∧ y.previous ≤ x + 50 then y.steady + 1 else 0) →
      (n < 10 → t.fuel = { f with settling := some ⟨n, x, y.minutes⟩ })
      ∧ (10 ≤ n → rises = true → s.store.ready →
        t.fuel.settling = none ∧ t.fuel.reference = x ∧ t.fuel.refStamp = s.store.runMinute
        ∧ t.fuel.refGood = true ∧ t.fuel.meter = 0 ∧ t.fuel.remainder = s.fuel.remainder
        ∧ t.fuel.leakCount = 0 ∧ t.fuel.leakFlag = false ∧ t.fuel.deferred = false
        ∧ t.fuel.stage = stageOfVolume s.sett.working x ∧ .delivery ∈ t.link.notices
        ∧ t.store = s.store.appending (.delivery (x - s.fuel.reference + s.fuel.meter / 100)
          s.fuel.reference x) none)
      ∧ (10 ≤ n → rises = false →
        t.fuel.settling = none ∧ t.fuel.reference = s.fuel.reference
        ∧ t.fuel.refStamp = s.fuel.refStamp ∧ t.fuel.meter = s.fuel.meter
        ∧ t.fuel.leakFlag = s.fuel.leakFlag ∧ t.fuel.leakCount = s.fuel.leakCount
        ∧ t.fuel.deferred = false ∧ t.fuel.stage = f.stage ∧ t.store = s.store
        ∧ (t.fuel.awaiting = if s.fuel.refGood then .none else .start)))
    ∧ (f.stage ≠ s.fuel.stage → .fuelStage ∈ t.link.notices
      ∧ ∃ more, t.posts.stageBurn = s.posts.stageBurn ++ f.stage :: more)

/-! ## The catalogue, as Table 11-1 and the tables it names have it -/

/-- The triples of Table 11-1's writable items. -/
def writable (g i t : Nat) : Prop :=
  (g = 1 ∧ i = 0 ∧ (t = 1 ∨ t = 2)) ∨ (g = 2 ∧ i = 0 ∧ t = 1)
    ∨ (g = 2 ∧ 1 ≤ i ∧ i ≤ 6 ∧ 1 ≤ t ∧ t ≤ 10) ∨ (g = 3 ∧ i ≤ 9 ∧ 1 ≤ t ∧ t ≤ 4)
    ∨ (g = 4 ∧ i = 0 ∧ 1 ≤ t ∧ t ≤ 9) ∨ (g = 5 ∧ i = 0 ∧ 1 ≤ t ∧ t ≤ 4)
    ∨ (g = 6 ∧ i = 0 ∧ 1 ≤ t ∧ t ≤ 8)

/-- The ranges of Table 3-7's numbers. -/
def zoneRange : Nat → Option (Int × Int)
  | 2 => some (0, 15) | 4 => some (50, 300) | 5 => some (50, 300) | 6 => some (30, 150)
  | 7 => some (2, 20) | 8 => some (10, 120) | 9 => some (0, 100) | _ => none

/-- The ranges of Tables 4-3 and 5-3. -/
def burnerRange : Nat → Option (Int × Int)
  | 1 => some (20, 180) | 2 => some (300, 900) | 3 => some (0, 900) | 4 => some (300, 800)
  | 5 => some (60, 1800) | 7 => some (0, 3) | 8 => some (1, 30) | 9 => some (60, 600) | _ => none

/-- The ranges of Table 6-2. -/
def tankRange : Nat → Option (Int × Int)
  | 1 => some (0, 4095) | 2 => some (0, 4095) | 3 => some (100, 4000) | 4 => some (0, 1500)
  | _ => none

/-- The ranges of Table 7-1; the leak threshold's stands beside its 0. -/
def fuelRange : Nat → Option (Int × Int)
  | 1 => some (1000, 12000) | 2 => some (1, 24) | 3 => some (5, 200) | 4 => some (50, 1000)
  | 5 => some (20, 6000) | 6 => some (20, 6000) | 7 => some (20, 6000) | 8 => some (-10, 10)
  | _ => none

/-- The range of a number (Tables 2-2, 3-7, 4-3, 5-3, 6-2, 7-1, 11-1). -/
def rangeOf (g i t : Nat) : Option (Int × Int) :=
  match g with
  | 1 => if t = 1 then some (10, 600) else none
  | 2 => if i = 0 then (if t = 1 then some (1, 6) else none) else zoneRange t
  | 3 => if t = 3 then some (0, 1990) else if t = 4 then some (10, 2000) else none
  | 4 => burnerRange t
  | 5 => tankRange t
  | 6 => fuelRange t
  | _ => none

/-- How many codes an enumeration has (11.2). -/
def codesOf (g i t : Nat) : Option Nat :=
  match g with
  | 2 => if i = 0 then none else match t with | 1 => some 2 | 3 => some 3 | 10 => some 4 | _ => none
  | 3 => if t = 1 ∨ t = 2 then some 3 else none
  | 4 => if t = 6 then some 3 else none
  | _ => none

/-- The value of a zone's setting, in Table 3-7's rows. -/
def zoneRow (p : ZoneSettings) : Nat → Int
  | 1 => if p.enabled then 1 else 0
  | 2 => p.node
  | 3 => match p.kind with | .sensor => 0 | .dial => 1 | .contact => 2
  | 4 => p.comfort | 5 => p.economy | 6 => p.frost | 7 => p.hyst | 8 => p.travel | 9 => p.duty
  | 10 => match p.failSafe with | .comfort => 0 | .economy => 1 | .frost => 2 | .off => 3
  | _ => 0

/-- The value of a pattern (11.2). -/
def patternValue : Pattern → Int
  | .follow => 0 | .forceOn => 1 | .forceOff => 2

/-- The value of a channel's setting, in Table 11-1's order. -/
def channelRow (p : ChannelSettings) : Nat → Int
  | 1 => patternValue p.failSafe | 2 => patternValue p.standby | 3 => p.minMA | 4 => p.maxMA
  | _ => 0

/-- The value of a burner item (Tables 4-3 and 5-3). -/
def burnerRow (w : Settings) : Nat → Int
  | 1 => w.ignition | 2 => w.satisfied | 3 => w.minOff | 4 => w.overTemp | 5 => w.overMax
  | 6 => match w.authority with | .openToAll => 0 | .remoteOnly => 1 | .attended => 2
  | 7 => w.budget | 8 => w.cooldown | 9 => w.prove | _ => 0

/-- The value of a tank item (Table 6-2). -/
def tankRow (w : Settings) : Nat → Int
  | 1 => w.zeroCount | 2 => w.fullCount | 3 => w.fullDepth | 4 => w.coeff | _ => 0

/-- The value of a fuel item (Table 7-1). -/
def fuelRow (w : Settings) : Nat → Int
  | 1 => w.nozzle | 2 => w.period | 3 => w.leak | 4 => w.delivery | 5 => w.low | 6 => w.reserve
  | 7 => w.dry | 8 => w.wax | _ => 0

/-- The value of a triple's item in a working set; the restart item reads 0 (Table 11-1, R176). -/
def itemOfSet (w : Settings) (g i t : Nat) : Int :=
  match g with
  | 1 => if t = 1 then w.silence else 0
  | 2 => if i = 0 then w.sink.val + 1
    else if h : i - 1 < 6 then zoneRow (w.zones[i - 1]) t else 0
  | 3 => if h : i < 10 then channelRow (w.channels[i]) t else 0
  | 4 => burnerRow w t
  | 5 => tankRow w t
  | 6 => fuelRow w t
  | _ => 0

/-- The key protects the item (Table 11-1). -/
def keyProtected (g i t : Nat) : Prop :=
  (g = 1 ∧ t = 2) ∨ (g = 3 ∧ i ≤ 1) ∨ g = 4 ∨ g = 5 ∨ (g = 6 ∧ t = 1)

/-- A zone's setpoints stand in their order (R177 step 5). -/
def setpointsOrdered (p : ZoneSettings) : Prop := p.economy ≤ p.comfort ∧ p.frost ≤ p.economy

/-- The order checks that bear on an item, in the working set as it would be (R37, R58, R177 step 5). -/
def orderKept (w : Settings) (g i t : Nat) : Prop :=
  (g = 5 → t = 1 ∨ t = 2 → w.zeroCount + 100 ≤ w.fullCount)
    ∧ (∀ ch : Fin 10, g = 3 → i = ch.val → t = 3 ∨ t = 4 →
      (w.channels[ch]).minMA + 10 ≤ (w.channels[ch]).maxMA)
    ∧ (g = 6 → 5 ≤ t → t ≤ 7 → w.reserve < w.low ∧ w.dry < w.reserve)
    ∧ (∀ z : Fin 6, g = 2 → i = z.val + 1 →
      (4 ≤ t → t ≤ 6 → setpointsOrdered w.zones[z])
      ∧ (t = 1 → (w.zones[z]).enabled = false → w.sink ≠ z)
      ∧ (t = 1 ∨ t = 2 → ∀ x y : Fin 6, x ≠ y → (w.zones[x]).enabled = true →
        (w.zones[y]).enabled = true → (w.zones[x]).node ≠ 0 → (w.zones[x]).node ≠ (w.zones[y]).node))
    ∧ (g = 2 → i = 0 → (w.zones[w.sink]).enabled = true)

/-- The triples of the items a working set holds, in the order of Table 11-1. -/
def settingTriples : List (Nat × Nat × Nat) :=
  [(1, 0, 1)]
    ++ ((List.range 6).flatMap fun z => (List.range 10).map fun t => (2, z + 1, t + 1))
    ++ [(2, 0, 1)]
    ++ ((List.range 10).flatMap fun ch => (List.range 4).map fun t => (3, ch, t + 1))
    ++ ((List.range 9).map fun t => (4, 0, t + 1)) ++ ((List.range 4).map fun t => (5, 0, t + 1))
    ++ ((List.range 8).map fun t => (6, 0, t + 1))

/-- A value in its width: one byte where the range fits in 0..255, two otherwise, two's complement (11.2). -/
def valueCoded (lo hi v : Int) : List Byte :=
  if lo < 0 ∨ 255 < hi then [BitVec.ofInt 8 v, BitVec.ofInt 8 (v / 256)] else [BitVec.ofInt 8 v]

/-- An item's value as a GET reports it: an enumeration in one byte (11.2, R176). -/
def itemCoded (w : Settings) (g i t : Nat) : List Byte :=
  match rangeOf g i t with
  | some (lo, hi) => valueCoded lo hi (itemOfSet w g i t)
  | none => [BitVec.ofInt 8 (itemOfSet w g i t)]

/-! ## What the part reports, field by field, as R162 codes it -/

/-- A field of a report: a number of one, two or four bytes, a signed one of four, a flag, or a number that
may be missing, behind its presence byte. -/
inductive Field where
  | one (n : Nat) | two (n : Nat) | four (n : Nat) | signed (v : Int) | bit (b : Bool)
  | one? (o : Option Nat) | two? (o : Option Nat) | four? (o : Option Nat) | signed? (o : Option Int)
  | zeros (n : Nat)
deriving DecidableEq, Repr

/-- Four bytes of a number, least significant first. -/
def inFour (v : Int) : List Byte :=
  [BitVec.ofInt 8 v, BitVec.ofInt 8 (v / 256), BitVec.ofInt 8 (v / 65536),
   BitVec.ofInt 8 (v / 16777216)]

/-- A field's bytes (R162). -/
def Field.bytes : Field → List Byte
  | .one n => [BitVec.ofNat 8 n]
  | .two n => [BitVec.ofNat 8 n, BitVec.ofNat 8 (n / 256)]
  | .four n => inFour n
  | .signed v => inFour v
  | .bit b => [if b then 1 else 0]
  | .one? none => [0, 0]
  | .one? (some n) => [1, BitVec.ofNat 8 n]
  | .two? none => [0, 0, 0]
  | .two? (some n) => [1, BitVec.ofNat 8 n, BitVec.ofNat 8 (n / 256)]
  | .four? none => [0, 0, 0, 0, 0]
  | .four? (some n) => 1 :: inFour n
  | .signed? none => [0, 0, 0, 0, 0]
  | .signed? (some v) => 1 :: inFour v
  | .zeros n => List.replicate n 0

/-- A report's bytes. -/
def layout (l : List Field) : List Byte := l.flatMap Field.bytes

/-- A temperature record (R6; one presence byte for count and value, log entry 21). -/
def tempReport (r : TempRecord) : List Field :=
  match r.reading with
  | none => [.zeros 7, .one r.state.code, .bit r.fresh]
  | some (c, v) => [.one 1, .two c, .signed v, .one r.state.code, .bit r.fresh]

/-- A current record (R6). -/
def currentReport (r : CurrentRecord) : List Field :=
  match r.reading with
  | none => [.zeros 5, .bit r.fresh]
  | some (c, ma) => [.one 1, .two c, .two ma, .bit r.fresh]

/-- The last self-test result (R9). -/
def selfTestReport : Option SelfTest → List Field
  | none => [.zeros 12]
  | some t => [.one 1, .two t.low, .two t.mid, .two t.high, .bit (!t.pass), .four t.stamp]

/-- The measurement group: the thirteen records, MEASURE_FAULT and the last self-test (R6, R9, R12). -/
def State.measurementReport (s : State) : List Field :=
  (match s.scan.probe.count with
    | none => [.zeros 3, .bit s.scan.probe.fresh]
    | some c => [.one 1, .two c, .bit s.scan.probe.fresh] : List Field)
  |>.append (tempReport s.scan.tankTemp) |>.append (tempReport s.scan.flowTemp)
  |>.append ((List.finRange 10).flatMap fun ch => currentReport s.scan.cs[ch])
  |>.append (.bit s.scan.measureFault :: selfTestReport s.scan.lastTest)

/-- An override's value as 11.2 codes it. -/
def overrideCode : Option (Bool × Nat) → Nat
  | none => 2 | some (true, _) => 0 | some (false, _) => 1

/-- The channel reading group: Table 2-2, the record of CSn, pump proven (R6, R33; log entries 21, 58). -/
def State.channelReport (s : State) (ch : Fin 10) : List Field :=
  let c := s.out.channels[ch]
  let p := s.sett.working.channels[ch]
  ([.bit c.demand, .one (overrideCode c.override), .one? (c.override.map Prod.snd),
    .one (Pattern.code p.failSafe), .one (Pattern.code p.standby), .two p.minMA, .two p.maxMA,
    .one c.load.code, .one c.low, .one c.high, .one c.offs, .one c.judgement.code,
    .one c.settle, .bit c.effective] : List Field)
  |>.append (currentReport s.scan.cs[ch]) |>.append [.bit s.out.pumpProven]

/-- A contact's code: absent, open, closed (Table 3-8). -/
def contactValue : Option Bool → Nat
  | none => 0 | some false => 1 | some true => 2

/-- A zone's state timer, in seconds or minutes (Table 3-8). -/
def zoneTimerLeft : ZoneTimer → Option Nat
  | .stopped => none | .travel ms => some (wholeSeconds ms) | .retry n => some n

/-- The battery-low flag of the node a zone binds (R37, R46). -/
def State.batteryLowAt (s : State) (z : Fin 6) : Bool :=
  s.sett.working.zones[z].enabled && (List.finRange 15).any fun n =>
    s.sett.working.zones[z].node == n.val + 1 && s.loop.nodes[n].batteryLow

/-- The zone reading group: Tables 3-7 and 3-8, battery low and end switch, heat request, boiler-frost call
and sink zone (R46, R57, R58). -/
def State.zoneReport (s : State) (z : Fin 6) : List Field :=
  let p := s.sett.working.zones[z]
  let x := s.zone.zones[z]
  [.bit p.enabled, .one p.node, .one (NodeKind.code p.kind), .two p.comfort, .two p.economy,
    .one p.frost, .one p.hyst, .one p.travel, .one p.duty, .one (HeatMode.code p.failSafe),
    .one (HeatMode.code x.hostMode), .signed? x.temp, .signed? x.dial, .one (contactValue x.contact),
    .bit x.statLost, .one x.sighted.code,
    .two? (if x.sighted = .blind then some (min x.blindPos 1199999 / 1000) else none),
    .two? x.target, .bit x.modeCall, .bit x.frostCall, .bit x.sinkDrive, .bit x.call,
    .one x.state.code, .one? (zoneTimerLeft x.timer), .one x.cause.code, .bit x.writeFailed,
    .bit (s.batteryLowAt z), .bit (s.inputs.ends[z] == some true), .bit s.zone.heatRequest,
    .bit s.zone.boilerFrost, .one (s.sett.working.sink.val + 1)]

/-- The loop reading group: the write queue's length and entries, eight places (R41). -/
def State.loopReport (s : State) : List Field :=
  (Field.one s.loop.queue.length :: (s.loop.queue.take 8).flatMap fun e =>
      [.one (e.node.val + 1), .one e.item.code, .two e.value, .bit e.failedOnce, .bit e.inSlot])
  |>.append [.zeros (6 * (8 - s.loop.queue.length))]

/-- A timer's remaining seconds (R162; log entry 17). -/
def secondsLeft (t : Timer) : Option Nat := t.map wholeSeconds

/-- An origin, none as 0 (Tables 5-2 and 8-4). -/
def originValue : Option Origin → Nat
  | none => 0 | some .auto => 1 | some .host => 2 | some .localPress => 3 | some .attended => 4
  | some .external => 5

/-- The state a lockout left, 0xFF for the start-up marking (Table 8-4). -/
def leftValue : Option BurnState → Nat
  | none => 0xFF | some g => g.code

/-- A latch reason's code, none as 0 (Tables 5-2 and 8-4). -/
def latchValue : Option LatchReason → Nat
  | none => 0 | some .starvation => 1 | some .relock => 2

/-- The newest lockout's cause, state left and fuel stage used (R75; zeros before any, log entry 21). -/
def newestReport : Option Lockout → List Field
  | none => [.zeros 3]
  | some l => [.one l.cause.code, .one (leftValue l.left), .one l.stage.code]

/-- A record's kind and payload fields (Table 8-3). -/
def Payload.report : Payload → Nat × List Field
  | .lockout c l g p => (0x01, [.one c.code, .one (leftValue l), .one g.code, .bit p])
  | .reset o a n => (0x02, [.one (originValue (some o)), .bit a, .one n])
  | .outcome k n o => (0x03, [.one k.code, .one n, .one (originValue o)])
  | .latch r n => (0x04, [.one (latchValue (some r)), .one n])
  | .ack r => (0x05, [.one (latchValue (some r))])
  | .noStart w f g => (0x11, [.two w, .two (match f with
      | none => 0x8000 | some x => (x % 65536).toNat), .one g.code])
  | .gauge v m r l => (0x12, [.two v, .four m, .two r, .four l])
  | .delivery a b c => (0x13, [.four a, .two b, .two c])
  | .leak suspect d => (0x14, [.one (if suspect then 1 else 2), .signed d])
  | .mains n => (0x15, [.four n])
  | .settingsKept w => (0x16, [.two w.toNat])

/-- The bytes before the check byte of a stored record (Table 8-2). -/
def Record.report (r : Record) : List Byte :=
  layout [.four r.seq, .one (r.payload.report.1 + if r.orig = none then 0 else 0x80), .four r.stamp,
      .four (r.wall.getD 0xFFFFFFFF)]
    |>.append ((layout r.payload.report.2 ++ List.replicate 14 0).take 14)
    |>.append (inFour (r.orig.getD 0 : Nat))

/-- The burner reading group: R62's fields, the counters, the levels, the flow record, R81's fields (R6, R62,
R77, R78, R81, R83; log entries 21, 59, 88). -/
def State.burnerReport (s : State) : List Field :=
  let b := s.burn
  ([.one b.state.code, .one b.inhibit.mask, .bit b.firedInCall, .one? (secondsLeft b.ignitionTimer),
    .one? (secondsLeft b.stopTimer), .two? (secondsLeft b.antiCycle), .two? (secondsLeft b.noStart),
    .two? (secondsLeft b.overrunTimer), .bit (!b.overrun), .bit b.runaway, .bit b.uncontrolled,
    .one b.stage.code, .two b.accMs, .four b.totalSeconds, .four b.starts,
    .bit (s.inputs.valve == some true), .bit (s.inputs.lockout == some true)] : List Field)
  |>.append (tempReport s.scan.flowTemp) |>.append (.one b.lockStep.code :: newestReport b.newest)
  |>.append [.bit (b.newest.any Lockout.wasPending), .one b.answer.code, .bit b.lockoutOwed,
    .one? b.cooldown, .one b.heldReason.code,
    .one (if b.state = .resetting then originValue (some b.resetOrigin) else 0),
    .one (if b.state = .resetting then b.resetPhase.code else 0), .one? (secondsLeft b.pulseTimer),
    .one? (secondsLeft b.checkTimer), .bit b.attendedOwed, .bit b.pressWaiting, .bit b.darkWaiting,
    .bit b.proofPending, .one (originValue b.pendingOrigin), .one? b.proofLimit, .bit b.ackAwaited,
    .two? (secondsLeft b.proveTimer), .one b.relock, .one b.window.length]
  |>.append ((b.window.take 3).map .four) |>.append [.zeros (4 * (3 - b.window.length)),
    .two? (b.window.head?.map fun t => 1440 - (s.store.runMinute - t)), .one b.owed.length]
  |>.append (b.owed.flatMap fun p => .one p.report.1 :: p.report.2) |>.append [.one (latchValue b.latchReason)]

/-- The latest sample (Table 6-1). -/
def sampleReport : Option Sample → List Field
  | none => [.zeros 7]
  | some x => [.one 1, .two x.count, .bit x.depth.isNone, .two? x.depth]

/-- The load in progress (R103). -/
def loadReport : Option TableLoad → List Field
  | none => [.one 0, .one 0, .one? none]
  | some l => [.one l.expected, .one (l.slots.filter Option.isSome).length, .one? (secondsLeft l.timer)]

/-- Settling (Table 7-2). -/
def settlingReport : Option Settling → List Field
  | none => [.zeros 5] | some x => [.one 1, .one x.steady, .two x.previous, .one x.minutes]

/-- The fuel reading group: R6's two records, Table 6-1, Table 7-2 (R103, R122; log entries 21, 50, 58). -/
def State.fuelReport (s : State) : List Field :=
  let g := s.gauge
  let f := s.fuel
  (match s.scan.probe.count with
    | none => [.zeros 3, .bit s.scan.probe.fresh]
    | some c => [.one 1, .two c, .bit s.scan.probe.fresh] : List Field)
  |>.append (tempReport s.scan.tankTemp) |>.append (.one g.counter :: sampleReport g.latest)
  |>.append (.one g.faulty :: .one g.window.length :: (g.window.take 5).map .two)
  |>.append [.zeros (2 * (5 - g.window.length)), .two? g.filtered, .two? g.vol, .signed? g.heldTemp,
    .signed g.usedTemp.1, .one g.usedTemp.2.code, .two? g.v15, .bit g.fault, .one g.cause.code,
    .two g.basis, .bit (!g.basisGood), .four g.metered, .two g.offered, .one g.status.code]
  |>.append (loadReport g.load)
  |>.append [.two f.value, .one f.status.code, .two f.reference, .four f.refStamp, .bit (!f.refGood),
    .one f.awaiting.code, .four f.meter, .two f.remainder, .four f.lifetime, .two f.periodTimer,
    .bit f.ungauged, .bit f.deferred, .one f.leakCount, .signed? f.lastD, .bit f.leakFlag]
  |>.append (settlingReport f.settling)
  |>.append [.one f.stage.code, .bit f.lineHeat, .one f.trendTimer, .two f.hourMeter, .two f.hourFiring,
    .one f.trend.length]

/-- The array's code (R143). -/
def arrayCode : ArrayState → Nat
  | .free => 0 | .programming _ => 1 | .reading => 2 | .erasing _ _ => 3

/-- The erase in flight or suspended, the settings sector as 4 (R143; log entry 21). -/
def eraseReport : ArrayState → Option (Erase × Nat) → List Field
  | .erasing (.sector i) ms, _ => [.one 1, .one i.val, .two ms]
  | .erasing .settings ms, _ => [.one 1, .one 4, .two ms]
  | _, some (.sector i, ms) => [.one 1, .one i.val, .two ms]
  | _, some (.settings, ms) => [.one 1, .one 4, .two ms]
  | _, none => [.zeros 4]

/-- The rotation's code: none, deferred with its cause, in flight (R144). -/
def rotationCode : Rotation → Nat
  | .none => 0 | .byGuard => 1 | .byHold => 2 | .byRead => 3
  | .carrying => 4 | .eraseDue => 4 | .erasing => 4

/-- The phase of a KEEP in progress (Table 8-6). -/
def keepPhaseCode : KeepPhase → Option Nat
  | .none => none | .waiting => some 0 | .erasing => some 1
  | .programming _ _ _ => some 2 | .verifying _ _ => some 3

/-- The store reading group, outside a guard deferral: the counter, the clock, the queue, the dropped count,
the array and its erase, the rotation, the carry list, KEEP's phase and the start-up scan's counts (R137,
R138, R141, R143 to R145, R149, R150; log entries 21, 49). -/
def State.storeReport (s : State) : List Field :=
  ([.four s.store.runMinute, .four s.store.wall, .bit s.store.wallSet, .one s.store.queue.length,
    .two s.store.dropped, .one (arrayCode s.store.array)] : List Field)
  |>.append (eraseReport s.store.array s.store.suspended)
  |>.append [.one (rotationCode (s.store.setBack.getD s.store.rotation)), .two? none,
    .one (s.store.carryList.length
      + if s.store.rotation = .none then s.store.carryWork.length else 0),
    .one? (keepPhaseCode s.store.keep), .two s.store.badRecords, .one s.store.reErased]

/-- The settings reading group: the working set item by item, the strapping table's point count and its 40
places, the image state with its check word, changed-since-kept, SETTINGS_DEFAULTED (R175; log entry 22). -/
def State.settingsReport (s : State) : List Byte :=
  let w := s.sett.working
  (settingTriples.flatMap fun (g, i, t) => itemCoded w g i t)
    |>.append (layout ((Field.one w.table.length
      :: (w.table.take 40).flatMap fun p => [.two p.depth, .two p.volume])
      |>.append [.zeros (4 * (40 - w.table.length)), .bit s.sett.imageState.isNone,
        .two? (s.sett.imageState.map BitVec.toNat), .bit s.sett.changed, .bit s.sett.defaulted]))

/-- The task slot (R164). -/
def slotReport : Option (TaskKind × Nat) → List Field
  | none => [.zeros 4] | some (k, serial) => [.one 1, .one k.code, .two serial]

/-- Follow mode (R164, R171). -/
def followReport : Option Follow → List Field
  | none => [.zeros 4] | some f => [.one 1, .one f.index, .one f.count, .bit f.wrap]

/-- The pending notices as a set: bit 0 for code 1 (R162, Table 10-5). -/
def noticeSet (l : List Notice) : Nat := (l.map fun n => 2 ^ (n.code - 1)).sum

/-- The STATUS reply (R164). -/
def State.statusReport (s : State) : List Field :=
  ([.one s.out.mode.code, .one s.out.cause.code, .one s.burn.state.code, .one s.burn.inhibit.mask,
    .two? (s.burn.antiCycle.map wholeSeconds), .two? (s.burn.noStart.map wholeSeconds),
    .bit s.zone.heatRequest, .bit s.out.pumpProven, .one s.fuel.stage.code, .bit s.fuel.leakFlag,
    .bit s.scan.measureFault, .bit s.supply.hold, .one? (s.supply.returnTimer.map wholeSeconds),
    .four s.store.runMinute, .four s.store.wall, .bit s.store.wallSet, .bit s.store.droppedFlag,
    .bit s.sett.defaulted, .bit (s.inputs.key == some true)] : List Field)
  |>.append (slotReport s.link.slot)
  |>.append [.one s.link.buffer.code, .two s.link.content.length]
  |>.append (followReport s.link.follow)
  |>.append [.one (noticeSet s.link.notices), .one (noticeSet s.link.notices / 256),
    .one (noticeSet s.link.notices / 65536), .two? (s.link.silence.map wholeSeconds),
    .bit s.link.overrun]

/-- The snapshots of the notices (R12, R19, R32, R40, R56, R69, R75, R87, R92, R95, R113, R128, R130, R158,
R166, R175; the order of STAT_LOST's addresses is log entry 91); none for FUEL_STAGE's, whose fourth setting
no table names, and for one whose first event is still to come. -/
def State.snapshotReport (s : State) : Notice → Option (List Field)
  | .taskEnd => s.link.lastEnd.map fun e =>
    [.one e.kind.code, .two e.serial, .one e.outcome.code, .one e.reason.code, .two e.size]
  | .lockout => some (.one s.burn.state.code :: newestReport s.burn.newest
    |>.append [.one s.burn.inhibit.mask, .bit s.burn.runaway, .bit s.burn.uncontrolled,
      .bit s.burn.proofPending])
  | .recovered => s.burn.lastProof.map fun x => [.four x.1, .one (originValue x.2)]
  | .leakSuspect => some [.bit s.fuel.leakFlag, .one s.fuel.leakCount, .signed? s.fuel.lastD,
    .two s.fuel.reference, .four s.fuel.refStamp, .two s.fuel.value, .one s.fuel.status.code]
  | .statLost => some (
    let bound := (List.finRange 15).filter fun n => s.loop.nodes[n].zone.isSome
    .one bound.length :: ((bound.take 6).flatMap fun n =>
      [.one (n.val + 1), .bit s.loop.nodes[n].statLost,
       .one (match s.loop.nodes[n].zone with | some z => z.val + 1 | none => 0)])
    |>.append [.zeros (3 * (6 - bound.length))])
  | .latch => some [.one s.burn.state.code, .one (latchValue s.burn.latchReason),
    .one s.burn.relock, .bit (s.inputs.lockout == some true)]
  | .held => some [.one s.burn.state.code, .one s.burn.heldReason.code,
    .one (Authority.code s.sett.working.authority), .one s.sett.working.budget,
    .one s.burn.window.length,
    .two? (s.burn.window.head?.map fun t => 1440 - (s.store.runMinute - t)),
    .bit s.burn.lockoutOwed]
  | .mains => some [.bit s.supply.hold, .four s.supply.holdStart,
    .one? (s.supply.returnTimer.map wholeSeconds), .four? s.supply.lastDuration]
  | .mode => some [.one s.out.mode.code, .one s.out.cause.code]
  | .gauge => some [.bit s.gauge.fault, .one s.gauge.cause.code, .two s.gauge.offered,
    .one s.gauge.status.code, .one s.gauge.window.length, .two s.gauge.basis,
    .bit (!s.gauge.basisGood)]
  | .measure => some (.bit s.scan.measureFault :: .one s.scan.tankTemp.state.code
    :: .one s.scan.flowTemp.state.code :: selfTestReport s.scan.lastTest)
  | .channelFault => some ((List.finRange 10).map fun ch => .one s.out.channels[ch].load.code)
  | .zoneFault => some ((List.finRange 6).flatMap fun z =>
    [.one s.zone.zones[z].state.code, .one s.zone.zones[z].cause.code])
  | .noStart => s.burn.lastNoStart.map fun x =>
    [.four x.1, .signed? x.2, .two? (s.burn.noStart.map wholeSeconds)]
  | .delivery => s.fuel.lastDelivery.map fun d =>
    [.four d.amount, .two d.before, .two d.after, .four d.stamp]
  | .settings => some [.bit s.sett.defaulted, .bit s.sett.imageState.isNone,
    .two? (s.sett.imageState.map BitVec.toNat), .bit s.sett.changed]
  | .fuelStage => none

/-- The codes of the enumerations: Table 8-4's and Chapters 10 and 11's where they stand there, otherwise
from 0 in the order their rules list them (R162). -/
def codesByList : Prop :=
  [OutMode.run, .standby, .failsafe].map OutMode.code = [0, 1, 2]
  ∧ [ModeCause.start, .resume, .silence].map ModeCause.code = [0, 1, 2]
  ∧ [TempState.empty, .valid, .sensorFault].map TempState.code = [0, 1, 2]
  ∧ [LoadState.ok, .openLoad, .tripped, .stuckOn].map LoadState.code = [0, 1, 2, 3]
  ∧ [Judgement.none, .below, .within, .above].map Judgement.code = [0, 1, 2, 3]
  ∧ [Sighted.awaiting, .sighted, .blind].map Sighted.code = [0, 1, 2]
  ∧ [ZoneState.idle, .opening, .opened, .hold, .closing, .fault].map ZoneState.code
    = [0, 1, 2, 3, 4, 5]
  ∧ [ZoneFault.none, .noOpen, .stuckOpen, .switchLost, .channel].map ZoneFault.code
    = [0, 1, 2, 3, 4]
  ∧ [BurnState.idle, .inhibited, .called, .firing, .satisfied, .stopping, .locked, .cooldown,
    .resetting, .held, .latched].map BurnState.code = [0, 1, 2, 3, 4, 5, 6, 7, 8, 9, 10]
  ∧ [HeldReason.awaitOrder, .budget, .store].map HeldReason.code = [0, 1, 2]
  ∧ [GaugeCause.none, .probe, .measure].map GaugeCause.code = [0, 1, 2]
  ∧ [ValueStatus.good, .estimate, .restored].map ValueStatus.code = [0, 1, 2]
  ∧ [FuelStage.normal, .low, .reserve, .dry].map FuelStage.code = [0, 1, 2, 3]
  ∧ [HeatMode.comfort, .economy, .frost, .off].map HeatMode.code = [0, 1, 2, 3]
  ∧ [Pattern.follow, .forceOn, .forceOff].map Pattern.code = [0, 1, 2]
  ∧ [NodeKind.sensor, .dial, .contact].map NodeKind.code = [0, 1, 2]
  ∧ [Item.shownSetpoint, .oilLamp, .faultLamp].map Item.code = [0, 1, 2]
  ∧ [Authority.openToAll, .remoteOnly, .attended].map Authority.code = [0, 1, 2]
  ∧ [Notice.taskEnd, .lockout, .latch, .held, .recovered, .mains, .mode, .fuelStage, .leakSuspect,
    .delivery, .gauge, .measure, .channelFault, .zoneFault, .statLost, .noStart, .settings].map
    Notice.code = [1, 2, 3, 4, 5, 6, 7, 8, 9, 10, 11, 12, 13, 14, 15, 16, 17]
  ∧ [BufferState.empty, .filled, .held].map BufferState.code = [0, 1, 2]
  ∧ [TaskKind.keep, .burnerReset, .selftest, .tableLoad, .historyRead].map TaskKind.code
    = [1, 2, 3, 4, 5]
  ∧ [TaskOutcome.done, .rejected, .timedOut, .aborted].map TaskOutcome.code = [1, 2, 3, 4]
  ∧ [LockCause.ignitionFail, .flameLoss, .unknown, .starvation].map LockCause.code = [1, 2, 3, 4]
  ∧ [OutcomeKind.recovered, .relock, .resetFailed, .abandoned].map OutcomeKind.code = [1, 2, 3, 4]
  ∧ [LockStep.awaitRecord, .awaitMains].map LockStep.code = [0, 1]
  ∧ [LockAnswer.none, .stored, .refused].map LockAnswer.code = [0, 1, 2]
  ∧ [ResetPhase.recording, .pulse, .check].map ResetPhase.code = [0, 1, 2]
  ∧ [AwaitRef.none, .start, .table].map AwaitRef.code = [0, 1, 2]
  ∧ [ReplyResult.ok, .clamped, .taken, .busy, .refused].map ReplyResult.code = [0, 1, 2, 3, 4]
  ∧ [ReasonCode.none, .unknownKind, .badLength, .badValue, .order, .keyRequired, .notNow, .bufferHeld,
    .nothingHeld, .queueFull, .supply, .budget, .latched, .notLocked, .notAbortable, .noTask, .noFollow,
    .recovered, .relock, .resetFailed, .store, .proof, .abort, .missing, .check, .inactive,
    .verifyFail].map ReasonCode.code = List.range 27

/-! ## The trend, as R170 and R171 write it -/

/-- The index a copy begins at. -/
def trendFrom (n start : Nat) (wrap : Bool) : Nat :=
  if start < n then start else if wrap then 0 else n

/-- The entries a copy takes. -/
def trendTaken (ring : List TrendEntry) (start count : Nat) (wrap : Bool) : List TrendEntry :=
  ((ring.drop (trendFrom ring.length start wrap))
    ++ (if wrap then ring.take (trendFrom ring.length start wrap) else [])).take count

/-- The follow index after `m` entries copied from index `k` of a ring of `n`. -/
def trendAfter (n k m : Nat) (wrap : Bool) : Nat :=
  if n < k + m then k + m - n else if wrap ∧ k + m = n ∧ m < n then 0 else k + m

/-- An entry of the trend in the result buffer: Table 10-6, the status in the two highest bits. -/
def trendReport (e : TrendEntry) : List Field :=
  [.four e.stamp, .two e.value, .two e.meter,
    .two ((if 16383 < e.firing then 16383 else e.firing)
      + (match e.status with | .good => 0 | .estimate => 16384 | .restored => 32768))]

/-- The content of a fill: its four header bytes (of a wrapping copy, log entry 90) and the entries. -/
def trendBytes (ring : List TrendEntry) (start count : Nat) (wrap : Bool) : List Byte :=
  let k := trendFrom ring.length start wrap
  let es := trendTaken ring start count wrap
  [BitVec.ofNat 8 k, BitVec.ofNat 8 es.length, BitVec.ofNat 8 ring.length,
    if ring.length < k + es.length then 1 else 0] ++ es.flatMap fun e => layout (trendReport e)

/-- The state after LINK has filled the buffer from the ring and answered with kind `kind`. -/
def State.trendFilled (s : State) (kind : Byte) (start count : Nat) (wrap follow : Bool) : State :=
  let es := trendTaken s.fuel.trend start count wrap
  let bytes := trendBytes s.fuel.trend start count wrap
  let next := trendAfter s.fuel.trend.length (trendFrom s.fuel.trend.length start wrap) es.length wrap
  State.replied
    { s with link := { s.link with
        buffer := .held, content := bytes
        follow := if follow then some ⟨next, count, wrap⟩ else none } }
    (plainReply kind (if s.fuel.trend.length < start then .clamped else .ok) .none
      (BitVec.ofNat 8 es.length :: byte16 bytes.length))

/-! ## STORE with one operation in flight -/

/-- Nothing but the operation in flight occupies STORE, and BURN has no answer to take. -/
def Store.alone (st : Store) : Prop :=
  st.answers = [] ∧ st.reading = none ∧ st.carryWork = [] ∧ st.carryList = []
    ∧ st.rotation = .none ∧ st.suspended = none ∧ st.eraseDue = []

/-- An erase is in flight and nothing else waits for the array, so that a read suspends it for as long as it
lasts, and it goes on (R143). -/
def Store.erasesAlone (st : Store) : Prop :=
  (∃ e ms, st.array = .erasing e ms) ∧ st.answers = [] ∧ st.reading = none ∧ st.carryWork = []
    ∧ st.queue = [] ∧ st.suspended = none ∧ st.setBack = none
    ∧ (∀ w n ok, st.keep ≠ .programming w n ok)
    ∧ (st.rotation = .erasing ∨ (st.rotation = .none ∧ st.rotationNeeded = false))

/-- Nothing waits for the free array, nothing of a KEEP is in progress and no rotation is needed. -/
def Store.quiet (st : Store) : Prop :=
  st.alone ∧ st.array = .free ∧ st.queue = [] ∧ st.keep = .none ∧ st.rotationNeeded = false

/-! ## Invariants -/

/-- The effective state that Table 2-4 gives a channel (R22); before the end of start-up every DRV line
is released (R35, R152). -/
def State.tableEffective (s : State) (ch : Fin 10) : Bool :=
  let c := s.out.channels[ch]
  let p := s.sett.working.channels[ch]
  if s.phase ≠ .running then false
  else if s.supply.hold then false
  else if c.load = .tripped then false
  else match s.out.mode with
    | .run => match c.override with
      | some (v, _) => v
      | none => c.demand
    | .standby => match p.standby with
      | .forceOn => true
      | .forceOff => false
      | .follow => c.demand
    | .failsafe => match p.failSafe with
      | .forceOn => true
      | .forceOff => false
      | .follow => c.demand

/-- Every relay is driven exactly as Table 2-4 says (R22). -/
def State.outputsByTable (s : State) : Prop :=
  ∀ ch : Fin 10, s.out.channels[ch].effective = s.tableEffective ch

/-- A burner that calls has no reason against it (R62, R63). -/
def State.callsUninhibited (s : State) : Prop :=
  s.burn.state.calling = true → s.burn.inhibit = InhibitSet.empty

/-- The demand of a channel as its owner has told it last: the youngest on its way, or the one OUT
holds (R18). -/
def State.toldDemand (s : State) (ch : Fin 10) : Bool :=
  (s.posts.demand[ch].getLast?).getD s.out.channels[ch].demand

/-- What each owner has told OUT is what its own state calls for: BURN's call and pulse, ZONE's pump
demand and valves, FUEL's line heat (R18, R57, R59, R62, R88, R133). -/
def State.demandsTold (s : State) : Prop :=
  s.toldDemand 0 = s.burn.state.calling
    ∧ s.toldDemand 1 = s.burn.pulseTimer.isSome
    ∧ s.toldDemand 2 = s.zone.pumpDemand
    ∧ s.toldDemand 3 = s.fuel.lineHeat
    ∧ ∀ z : Fin 6, s.toldDemand (valveChannel z) = s.zone.zones[z].state.valveDemand

/-- The heat request and the pump demand are what R57 and R59 form. -/
def State.plantFormed (s : State) : Prop :=
  (s.zone.heatRequest = true ↔
      ∃ z : Fin 6, s.zone.zones[z].state = .opened ∧ s.zone.zones[z].call = true)
    ∧ (s.zone.pumpDemand = true ↔
      (∃ z : Fin 6, s.zone.zones[z].state = .opening ∨ s.zone.zones[z].state = .opened
        ∨ s.zone.zones[z].state = .hold) ∨ s.zone.overrun = true ∨ s.zone.boilerFrost = true)

/-- Every zone's call is what R52 forms of its parts; before the end of start-up all are off (R61). -/
def State.callsFormed (s : State) : Prop :=
  ∀ z : Fin 6, s.zone.zones[z].call =
    (s.phase == .running && s.sett.working.zones[z].enabled
      && (s.zone.zones[z].modeCall || s.zone.zones[z].frostCall || s.zone.zones[z].sinkDrive))

/-- At most one zone holds its valve open without a call (R54). -/
def State.oneHold (s : State) : Prop :=
  ∀ z y : Fin 6, s.zone.zones[z].state = .hold → s.zone.zones[y].state = .hold → z = y

/-- Every queue, ring, list and count keeps to the size its rule gives (R8, R41, R84, R109, R134, R141,
R166, R168). -/
def State.bounded (s : State) : Prop :=
  s.store.queue.length ≤ 4 ∧ s.loop.queue.length ≤ 8 ∧ s.fuel.trend.length ≤ 48
    ∧ s.gauge.window.length ≤ 5 ∧ s.burn.relock ≤ 2 ∧ s.scan.passCounter ≤ 449
    ∧ s.link.serial < 65536 ∧ s.link.content.length ≤ 512
    ∧ ∀ r, s.store.reading = some r → r.count ≤ 15

end Sys2Proof.Machine
end

