-- ==== Sys2Proof/Certificates/Slice0/Obligations.lean ====
section
/-! DEFINITION. The statements for the provers. Each docstring names the rules it formalises; a
statement that rests on a choice of the model names the log entry. -/

open Sys2Proof Sys2Proof.Machine

/-! ## The whole machine -/

/-- A step takes the command at the front of the queue and runs it on the queue's rest. -/
def Obligations.StepRunsTheFrontCommand : Prop :=
  ∀ (c : Instr) (rest : List Instr) (s : State),
    s.pending = c :: rest → step s = exec c { s with pending := rest }

/-- With an empty queue, nothing due and nothing to send, a powered part lives through one
millisecond: every running timer loses one, a blind zone's cycle position, the accumulator with the oil
valve open and the timebase gain one, and nothing else of any block changes but the mark of log entry 47:
neither outputs, records, queues nor the working set (log entry 4). -/
def Obligations.QuietStepPassesOneMillisecond : Prop :=
  ∀ s : State, s.pending = [] → dueCommands s = [] → s.canSend = false → s.phase ≠ .unpowered →
    ∃ t, step s = .next t
      ∧ s.changesOnly [.scan, .zone, .burn, .gauge, .store, .supply, .link, .svc] t
      ∧ t.scan = { s.scan with passTimer := s.scan.passTimer.map (· - 1) }
      ∧ (∀ z : Fin 6, t.zone.zones[z] = { s.zone.zones[z] with
          timer := match s.zone.zones[z].timer with
            | .travel ms => .travel (ms - 1) | .retry n => .retry n | .stopped => .stopped
          blindPos := s.zone.zones[z].blindPos
            + (if s.zone.zones[z].sighted = .blind then 1 else 0) })
      ∧ t.zone = { s.zone with zones := t.zone.zones }
      ∧ t.burn = { s.burn with
          ignitionTimer := s.burn.ignitionTimer.map (· - 1)
          stopTimer := s.burn.stopTimer.map (· - 1)
          antiCycle := s.burn.antiCycle.map (· - 1), noStart := s.burn.noStart.map (· - 1)
          overrunTimer := s.burn.overrunTimer.map (· - 1)
          pulseTimer := s.burn.pulseTimer.map (· - 1), checkTimer := s.burn.checkTimer.map (· - 1)
          proveTimer := s.burn.proveTimer.map (· - 1), stoppingLeft := false
          accMs := s.burn.accMs
            + (if s.burn.accRunning = true ∧ s.inputs.valve = some true then 1 else 0) }
      ∧ (∀ l, s.gauge.load = some l →
        t.gauge = { s.gauge with load := some { l with timer := l.timer.map (· - 1) } })
      ∧ (s.gauge.load = none → t.gauge = s.gauge)
      ∧ t.store.timebase = s.store.timebase + (if s.store.minutesSet then 1 else 0)
      ∧ (∀ e n, s.store.array = .erasing e n → t.store.array = .erasing e (n - 1))
      ∧ ((∀ e n, s.store.array ≠ .erasing e n) → t.store.array = s.store.array)
      ∧ t.store = { s.store with timebase := t.store.timebase, array := t.store.array }
      ∧ t.supply = { s.supply with returnTimer := s.supply.returnTimer.map (· - 1) }
      ∧ t.link = { s.link with silence := s.link.silence.map (· - 1) }
      ∧ t.svc = { s.svc with holdTimer := s.svc.holdTimer.map (· - 1) }

/-- Every command answers a next state: none faults, none is refused, none changes the queue, and each
changes no part of the state but those its block owns and those it tells. -/
def Obligations.CommandsCompleteWithinTheirParts : Prop :=
  (∀ (c : Instr) (s : State), ∃ t, exec c s = .next t ∧ t.pending = s.pending)
    ∧ (∀ (c : Instr) (s t : State), exec c s = .next t → s.changesOnly (Instr.touches c) t)

/-- A part without supply sees nothing but the return of the supply; during start-up LINK discards every
frame and every byte, and nothing changes (R152; log entry 7). -/
def Obligations.StartUpHearsNoHost : Prop :=
  (∀ (c : Instr) (s : State), s.phase = .unpowered → c ≠ .powerOn → c ≠ .lossOfSupply →
    exec c s = .next s)
    ∧ (∀ (c : Instr) (s : State), s.phase ≠ .running →
    (Instr.isRequest c = true ∨ c = .startByte ∨ c = .interByteGap ∨ (∃ bs, c = .abandonedFrame bs)) →
    exec c s = .next s)

/-! ## What every step keeps -/

/-- Every relay is driven as Table 2-4 says, and stays so through every step (R22, R23, R35, R36). -/
def Obligations.EveryStepDrivesByTable : Prop :=
  ∀ s t : State, s.outputsByTable → step s = .next t → t.outputsByTable

/-- A burner that calls stands without an inhibit reason, and stays so through every step (R62, R63,
R67, R71, R80). -/
def Obligations.EveryStepKeepsCallsUninhibited : Prop :=
  ∀ s t : State, s.callsUninhibited → step s = .next t → t.callsUninhibited

/-- What BURN, ZONE and FUEL have told OUT to drive is what their own state calls for, and stays so
through every step (R18, R57, R59, R62, R88, R133). -/
def Obligations.EveryStepKeepsDemandsTold : Prop :=
  ∀ s t : State, s.demandsTold → step s = .next t → t.demandsTold

/-- The heat request and the pump demand are what R57 and R59 form, and stay so through every step. -/
def Obligations.EveryStepKeepsPlantFormed : Prop :=
  ∀ s t : State, s.plantFormed → step s = .next t → t.plantFormed

/-- Every zone's call is what R52 forms of its parts, and stays so through every step. -/
def Obligations.EveryStepKeepsCallsFormed : Prop :=
  ∀ s t : State, s.callsFormed → step s = .next t → t.callsFormed

/-- At most one zone is in HOLD, and stays so through every step (R54). -/
def Obligations.EveryStepKeepsOneHold : Prop :=
  ∀ s t : State, s.oneHold → step s = .next t → t.oneHold

/-- Nine sizes stay within their bounds through every step: STORE's append queue, LOOP's write queue,
FUEL's trend ring, GAUGE's window, BURN's relock count, SCAN's pass counter, LINK's task serial and buffer
content, and the count of a HISTORY_READ (R8, R41, R84, R109, R134, R141, R146, R166, R168). -/
def Obligations.EveryStepKeepsBounds : Prop :=
  ∀ s t : State, s.bounded → step s = .next t → t.bounded

/-- Every invariant above holds at reset. -/
def Obligations.ResetMeetsTheInvariants : Prop :=
  State.reset.outputsByTable ∧ State.reset.callsUninhibited ∧ State.reset.demandsTold
    ∧ State.reset.plantFormed ∧ State.reset.callsFormed ∧ State.reset.oneHold ∧ State.reset.bounded

/-! ## Start-up (Chapter 9) -/

/-- POWER_ON, the loss of the supply before it, and RESTART: every block abandons its work and stands at its
first values, with the outputs released, mode FAILSAFE, cause START and the MODE notice pending. Without
supply the counter and the clock are lost; across a RESTART they carry on. A program in flight is cut short:
a bad slot of the head, or, opening a sector, a torn header or one bad slot (log entry 19). The other records
and the settings sector stay (R16, R19, R35, R45, R61, R137, R138, R142, R152, R174, R181; the first values of
SUPPLY, FUEL and BURN before the hand-over are log entry 3, and POWER_ON from every phase is log entry 7). -/
def Obligations.StartsAbandonAllWork : Prop :=
  (∀ s : State,
    ∃ t u, exec .powerOn s = .next t ∧ exec .lossOfSupply s = .next u
      ∧ t.phase = .scanning ∧ u.phase = .unpowered
      ∧ ∀ x, (x = t ∨ x = u) →
        x.inputs = Inputs.first ∧ x.scan = Scan.first ∧ x.out = Out.first ∧ x.loop = StatLoop.first
        ∧ x.zone = ZoneBlock.first ∧ x.burn = Burn.first ∧ x.gauge = Gauge.first
        ∧ x.fuel = Fuel.first ∧ x.supply = Supply.first ∧ x.link = Link.first ∧ x.svc = Svc.first
        ∧ x.posts = Posts.first
        ∧ x.out.mode = .failsafe ∧ x.out.cause = .start ∧ x.link.notices = [.mode]
        ∧ (∀ ch : Fin 10, x.out.channels[ch].effective = false ∧ x.out.channels[ch].settle = 1)
        ∧ x.store.queue = [] ∧ x.store.minutesSet = false ∧ x.store.runMinute = 0
        ∧ x.store.wall = 0 ∧ x.store.wallSet = false
        ∧ x.store.dropped = 0 ∧ x.store.droppedFlag = false
        ∧ x.store.carryWork = [] ∧ x.store.carryList = []
        ∧ ((∀ p, s.store.array ≠ .programming p) → x.store.sectors = s.store.sectors)
        ∧ s.store.cutShort x.store.sectors ∧ x.store.settings = s.store.settings)
    ∧ (∀ s : State, s.phase ≠ .unpowered →
    ∃ t, exec .restart s = .next t ∧ t.phase = .released
      ∧ t.inputs = Inputs.first ∧ t.scan = Scan.first ∧ t.out = Out.first ∧ t.loop = StatLoop.first
      ∧ t.zone = ZoneBlock.first ∧ t.burn = Burn.first ∧ t.gauge = Gauge.first ∧ t.fuel = Fuel.first
      ∧ t.supply = Supply.first ∧ t.link = Link.first ∧ t.svc = Svc.first ∧ t.posts = Posts.first
      ∧ t.store.queue = [] ∧ t.store.array = .free
      ∧ t.store.dropped = 0 ∧ t.store.droppedFlag = false
      ∧ t.store.carryWork = [] ∧ t.store.carryList = []
      ∧ t.store.runMinute = s.store.runMinute ∧ t.store.minutesSet = s.store.minutesSet
      ∧ t.store.timebase = s.store.timebase ∧ t.store.wall = s.store.wall
      ∧ t.store.wallSet = s.store.wallSet ∧ t.store.settings = s.store.settings
      ∧ ((∀ p, s.store.array ≠ .programming p) → t.store.sectors = s.store.sectors)
      ∧ s.store.cutShort t.store.sectors
      ∧ (∀ (r : Record) (h : Fin 4), s.store.array = .programming (.append r none) →
        s.store.head = some h → t.store.sectors[h].slots = s.store.sectors[h].slots ++ [.bad]))

/-- RESET_N returns high: phase 2, with the start-up scan's erases of RETIRING and torn sectors in ascending
order (log entry 82), their marks left as they are (log entry 76), or without any at once its head, the VALID
sector with the highest first sequence, and the next sequence (R139, R150, R152; a VALID mark is torn when it
is in step with none of the other VALID sectors', log entry 42). An input's first level is taken once and is
no edge: nothing but the level changes, and a LOCAL_RESET released at it makes the press state IDLE (R153,
R181). -/
def Obligations.ScanAndFirstLevels : Prop :=
  (∀ s : State, s.phase = .released →
    ∃ t, exec .resetNRelease s = .next t ∧ s.changesOnly [.phase, .store] t ∧ t.phase = .scanning
      ∧ t.store.sectors = s.store.sectors ∧ t.store.reErased = 0
      ∧ t.store.reErase.Pairwise (fun i j => i < j)
      ∧ (∀ i : Fin 4, i ∈ t.store.reErase ↔
        s.store.sectors[i].mark = .retiring ∨ s.store.sectors[i].mark = .torn
        ∨ ∃ n, s.store.sectors[i].mark = .valid n
          ∧ (∃ (j : Fin 4) (m : Nat), j ≠ i ∧ s.store.sectors[j].mark = .valid m)
          ∧ ∀ (j : Fin 4) (m : Nat), j ≠ i → s.store.sectors[j].mark = .valid m → n % 64 ≠ m % 64)
      ∧ (∀ i rest, t.store.reErase = i :: rest → t.store.array = .erasing (.sector i) 300)
      ∧ (t.store.reErase = [] →
        (∀ h, t.store.head = some h → ∃ n, s.store.sectors[h].mark = .valid n
          ∧ t.store.nextSeq = n + s.store.sectors[h].slots.length
          ∧ ∀ (j : Fin 4) (m : Nat), s.store.sectors[j].mark = .valid m → m ≤ n)
        ∧ (t.store.head = none → t.store.nextSeq = 0
          ∧ ∀ (j : Fin 4) (m : Nat), s.store.sectors[j].mark ≠ .valid m)))
    ∧ (∀ (x : Input) (v : Bool) (s : State), s.phase ≠ .unpowered → s.phase ≠ .released →
    (s.inputs.level x = none →
      exec (.firstLevel x v) s = .next { s with
        inputs := s.inputs.setLevel v x
        svc := if x = .localReset ∧ v = false then { s.svc with press := .idle } else s.svc })
    ∧ (s.inputs.level x ≠ none → exec (.firstLevel x v) s = .next s))

/-- Until STORE's own state begins it rests (R151), before the end of start-up every zone is IDLE without a
call (R61), and no step gives a sequence number twice (R140). The hand-over, begun after the scan, or gone on
with once MAINS_OK has its level: the run-minute counter after POWER_ON is the highest stamp found plus one;
the working set comes from a valid image or is the factory defaults; SUPPLY_HOLD from MAINS_OK's first level,
an edge since then taken as an edge after it, its hold waiting for BURN (log entry 83); GAUGE's and FUEL's
volume from the newest GAUGE record, the leak flag, and BURN's window list, relock count, proof pending and
latch from the records by original sequence (of two copies the older, log entry 77); without the level it waits
(R102, R120, R135, R137, R153, R154, R175; edges held log entries 27, 85; STORE waits with it, DEDUCED, log
entry 68). -/
def Obligations.HandOverRestoresTheBlocks : Prop :=
  State.reset.storeWaits ∧ (∀ s t : State, s.storeWaits → step s = .next t → t.storeWaits)
  ∧ State.reset.zonesRest ∧ (∀ s t : State, s.zonesRest → step s = .next t → t.zonesRest)
  ∧ State.reset.numbersOnce
  ∧ (∀ s t : State, s.storeWaits → s.numbersOnce → step s = .next t → t.numbersOnce)
  ∧ ∀ s : State, s.storeWaits → s.zonesRest → s.store.numbered →
    (s.phase = .scanning ∧ s.store.reErase = [])
      ∨ (s.phase = .supplyWait ∧ s.inputs.mainsOk ≠ none) →
    ∃ t, exec .handOver s = .next t ∧ s.changesOnly (Instr.touches .handOver) t
      ∧ (s.phase = .supplyWait → t.sett = s.sett ∧ t.loop = s.loop
        ∧ t.store.minutesSet = s.store.minutesSet ∧ t.store.runMinute = s.store.runMinute)
      ∧ (s.phase = .scanning →
        t.store.minutesSet = true
        ∧ (s.store.minutesSet = true → t.store.runMinute = s.store.runMinute)
        ∧ (s.store.minutesSet = false →
          (∀ r, s.store.found r → (∀ x, s.store.found x → x.stamp ≤ r.stamp) →
            t.store.runMinute = min (r.stamp + 1) 4294967295)
          ∧ ((∀ r, ¬ s.store.found r) → t.store.runMinute = 0))
        ∧ (∀ w, s.store.settings = .image w → t.sett.working = w ∧ t.sett.defaulted = false)
        ∧ (s.store.settings = .invalid →
          t.sett.working = factorySettings ∧ t.sett.defaulted = true
          ∧ .settings ∈ t.link.notices))
      ∧ (s.inputs.mainsOk = none → t.phase = .supplyWait ∧ t.supply = s.supply ∧ t.burn = s.burn
        ∧ t.fuel = s.fuel ∧ t.gauge = s.gauge ∧ t.posts = s.posts)
      ∧ ∀ v, s.inputs.mainsOk = some v → s.supply.hold = false →
        t.phase = .burnerWait
        ∧ ((∀ up : Bool, .edge .mainsOk up ∉ s.inputs.held) →
          t.inputs = s.inputs ∧ t.supply.hold = !v
          ∧ (v = true → t.supply = s.supply)
          ∧ (v = false → t.supply.holdStart = t.store.runMinute ∧ t.supply.returnTimer = none))
        ∧ (v = true → s.inputs.held = [.edge .mainsOk false] →
          t.inputs.mainsOk = some false ∧ t.supply.hold = true ∧ t.inputs.held = [.hold true]
          ∧ t.supply.holdStart = t.store.runMinute ∧ .mains ∈ t.link.notices)
        ∧ (v = false → s.inputs.held = [.edge .mainsOk true] →
          t.inputs.mainsOk = some true ∧ t.supply.hold = true ∧ t.supply.returnTimer = some 30000
          ∧ t.inputs.held = [])
        ∧ (∀ r x m f l, s.store.newestOf Record.isGauge r → r.payload = .gauge x m f l →
          t.fuel.value = x ∧ t.fuel.refStamp = r.stamp ∧ t.fuel.lifetime = l)
        ∧ ((∀ r, s.store.keeps r → r.isGauge = false) →
          t.fuel.value = 0 ∧ t.fuel.refStamp = 0 ∧ t.fuel.lifetime = 0)
        ∧ t.fuel.reference = t.fuel.value ∧ t.gauge.offered = t.fuel.value
        ∧ t.gauge.basis = t.fuel.value ∧ t.gauge.basisGood = false
        ∧ t.gauge.status = .restored ∧ t.fuel.status = .restored ∧ t.fuel.refGood = false
        ∧ t.fuel.awaiting = .start
        ∧ t.fuel.stage = stageOfVolume t.sett.working t.fuel.value
        ∧ t.posts.stageBurn = s.posts.stageBurn ++ [t.fuel.stage]
        ∧ t.posts.stageZone = s.posts.stageZone ++ [t.fuel.stage]
        ∧ t.posts.stageLoop = s.posts.stageLoop ++ [t.fuel.stage]
        ∧ (t.fuel.leakFlag = true ↔ ∃ r, s.store.newestOf Record.isLeak r ∧ r.isSuspect = true
          ∧ ¬ s.store.followed Record.isDelivery r)
        ∧ (∀ l : List Record, l.Pairwise (fun x y => x.origin < y.origin) →
          (∀ r, r ∈ l ↔ s.store.keeps r ∧ t.store.runMinute < r.stamp + 1440
            ∧ ∃ o a n, r.payload = .reset o a n ∧ (o = .auto ∨ o = .host)) →
          t.burn.window = (l.drop (l.length - 3)).map Record.stamp)
        ∧ (∀ l : List Record, l.Pairwise (fun x y => x.origin < y.origin) →
          (∀ r, r ∈ l ↔ s.store.failing r) → t.burn.relock = min l.length 2)
        ∧ (∀ r o a n, s.store.newestOf Record.isReset r → r.payload = .reset o a n →
          ¬ s.store.followed Record.isOutcome r →
          t.burn.proofPending = true ∧ t.burn.pendingOrigin = some o)
        ∧ ((∀ r, s.store.newestOf Record.isReset r → s.store.followed Record.isOutcome r) →
          t.burn.proofPending = false ∧ t.burn.pendingOrigin = none)
        ∧ (∀ r why n, s.store.newestOf Record.isLatch r → r.payload = .latch why n →
          ¬ s.store.followed Record.isAck r →
          t.burn.latchReason = some why ∧ t.burn.latchMissing = false)
        ∧ ((∀ r, s.store.newestOf Record.isLatch r → s.store.followed Record.isAck r) →
          (∀ r, s.store.newestOf Record.isLockout r → r.isStarvation = true →
            ¬ s.store.followed (fun x => x.isReset || x.isAck) r →
            t.burn.latchReason = some .starvation ∧ t.burn.latchMissing = true)
          ∧ ((∀ r, s.store.newestOf Record.isLockout r → r.isStarvation = true →
              s.store.followed (fun x => x.isReset || x.isAck) r) →
            (t.burn.relock = 2 → (∀ r, s.store.keeps r → r.isLatch = false) →
              t.burn.latchReason = some .relock ∧ t.burn.latchMissing = true)
            ∧ (t.burn.relock ≠ 2 ∨ (∃ r, s.store.newestOf Record.isLatch r) →
              t.burn.latchReason = none ∧ t.burn.latchMissing = false)))

/-- Until BURN has derived its state, the stage FUEL restored is the one on its way to it, it does not call, no
heat request has reached it (R79, R154) and no call has been withdrawn (log entry 47). BURN derives its state
once both levels stand (R79, R102, R154): LATCHED before anything; a lit lamp outside the hold is LOCKED with
the start-up marking, its cause by the stage posted, its notice and its record, and with proof pending a
relock with its OUTCOME record (R75, R84); else INHIBITED or IDLE by its reasons, where an open oil valve is
RUNAWAY. The hold is that of step 3. An edge debounced after the first level, and a hold begun or ended since
step 3, are taken by the state so derived (R80, R153; log entries 27 and 83). -/
def Obligations.DerivationFindsTheBurner : Prop :=
  State.reset.stagePosted ∧ (∀ s t : State, s.stagePosted → step s = .next t → t.stagePosted)
  ∧ State.reset.burnRests ∧ (∀ s t : State, s.burnRests → step s = .next t → t.burnRests)
  ∧ (∀ s : State, s.phase = .burnerWait →
    (s.inputs.lockout ≠ none → s.inputs.valve ≠ none →
      ∃ t, exec .burnerDerivation s = .next t ∧ t.phase = .derived
        ∧ s.changesOnly (Instr.touches .burnerDerivation) t)
    ∧ (s.inputs.lockout = none ∨ s.inputs.valve = none → exec .burnerDerivation s = .next s))
  ∧ ∀ (s : State) (g : FuelStage) (lamp valve : Bool), s.phase = .burnerWait → s.burnRests →
    s.posts.stageBurn = [g] → s.inputs.lockout = some lamp → s.inputs.valve = some valve →
    s.store.answers = [] →
    (s.inputs.held = [] → lamp = false ∨ s.supply.hold = true ∨ s.burn.latchReason ≠ none →
      ∃ t, exec .burnerDerivation s = .next t
        ∧ s.changesOnly [.phase, .burn, .link, .posts] t ∧ t.phase = .derived
        ∧ t.posts.stageBurn = [] ∧ t.burn.stage = g
        ∧ t.burn.inhibit = { s.burn.inhibit with supply := s.supply.hold, fuelDry := g == .dry }
        ∧ t.burn.accRunning = valve ∧ t.burn.latchReason = s.burn.latchReason
        ∧ t.burn.relock = s.burn.relock ∧ t.burn.proofPending = s.burn.proofPending
        ∧ (s.burn.latchReason ≠ none → t.burn.state = .latched ∧ .latch ∈ t.link.notices)
        ∧ (s.burn.latchReason = none →
          (t.burn.state = .idle ↔ t.burn.inhibit = InhibitSet.empty)
          ∧ (t.burn.state = .inhibited ↔ t.burn.inhibit ≠ InhibitSet.empty)
          ∧ (t.burn.runaway = true ↔ valve = true ∨ s.burn.runaway = true)))
    ∧ (s.supply.hold = false → s.burn.latchReason = none → s.recordsClear →
      ∀ cause : LockCause, cause = (if g = .reserve ∨ g = .dry then .starvation else .unknown) →
      (s.inputs.held = [] ∨ s.inputs.held = [.edge .lockoutSense false] → lamp = true →
        ∃ t, exec .burnerDerivation s = .next t ∧ t.phase = .derived ∧ t.burn.state = .locked
          ∧ t.burn.lockStep = .awaitRecord ∧ .lockout ∈ t.link.notices
          ∧ t.burn.newest = some ⟨cause, none, g, s.burn.proofPending⟩
          ∧ t.burn.darkWaiting = decide (s.inputs.held = [.edge .lockoutSense false])
          ∧ (s.burn.proofPending = false → t.burn.relock = s.burn.relock ∧ t.store =
            s.store.appending (.lockout cause none g false)
              (some (.lockout (s.burn.lockouts + 1))))
          ∧ (s.burn.proofPending = true → t.burn.relock = min (s.burn.relock + 1) 2
            ∧ t.burn.proofPending = false
            ∧ t.store.array = .programming
              (.append (s.store.recordOf (.lockout cause none g true)) none)
            ∧ t.store.queue =
              [⟨.lockout cause none g true, some (.lockout (s.burn.lockouts + 1))⟩,
               ⟨.outcome .relock (min (s.burn.relock + 1) 2) s.burn.pendingOrigin,
                some .closing⟩]))
      ∧ (lamp = false → s.inputs.held = [.edge .lockoutSense true] → s.burn.proofPending = false →
        ∃ t, exec .burnerDerivation s = .next t ∧ t.inputs.lockout = some true
          ∧ t.burn.state = .locked ∧ .lockout ∈ t.link.notices
          ∧ (∀ left : BurnState, left = (if { s.burn.inhibit with
                supply := false, fuelDry := g == .dry } = InhibitSet.empty then .idle
              else .inhibited) →
            t.burn.newest = some ⟨cause, some left, g, false⟩
            ∧ t.store = s.store.appending (.lockout cause (some left) g false)
              (some (.lockout (s.burn.lockouts + 1)))))
      ∧ (lamp = false → valve = false → s.inputs.held = [.edge .valveSense true] →
        ∃ t, exec .burnerDerivation s = .next t ∧ t.inputs.valve = some true
          ∧ t.burn.runaway = true ∧ t.burn.accRunning = true ∧ t.store = s.store
          ∧ (t.burn.state = .idle ∨ t.burn.state = .inhibited)))
    ∧ (∀ now : Bool, s.inputs.held = [.hold now] →
      lamp = false ∨ s.burn.latchReason ≠ none ∨ s.recordsClear →
      ∃ t, exec .burnerDerivation s = .next t
        ∧ s.changesOnly (Instr.touches .burnerDerivation) t ∧ t.phase = .derived
        ∧ t.inputs = { s.inputs with held := [] } ∧ t.burn.stage = g
        ∧ t.burn.inhibit = { s.burn.inhibit with supply := now, fuelDry := g == .dry }
        ∧ t.burn.accRunning = (valve && !now)
        ∧ (s.burn.latchReason ≠ none → t.burn.state = .latched ∧ .latch ∈ t.link.notices)
        ∧ (s.burn.latchReason = none → lamp = false →
          t.burn.newest = s.burn.newest
          ∧ (t.burn.state = .idle ↔ t.burn.inhibit = InhibitSet.empty)
          ∧ (t.burn.state = .inhibited ↔ t.burn.inhibit ≠ InhibitSet.empty)
          ∧ (t.burn.runaway = true ↔ valve = true ∨ s.burn.runaway = true))
        ∧ (s.burn.latchReason = none → lamp = true → s.recordsClear →
          t.burn.state = .locked ∧ t.burn.lockStep = .awaitRecord ∧ .lockout ∈ t.link.notices
          ∧ ∀ cause : LockCause, cause = (if g = .reserve ∨ g = .dry then .starvation else .unknown) →
            ∀ left : Option BurnState, left = (if now then none else some .inhibited) →
            t.burn.newest = some ⟨cause, left, g, s.burn.proofPending⟩
            ∧ (s.burn.proofPending = false → t.store =
              s.store.appending (.lockout cause left g false)
                (some (.lockout (s.burn.lockouts + 1))))))

/-- Before the end of start-up no node has been polled. Then: the first pass, the channels resolved in FAILSAFE
with the demands their owners have posted by then (R35; none reaches OUT before, the model's choice, log entry
95), the targets, the poll ring from the lowest bound address, FUEL's period and trend timer, the silence
timer, and the MAINS notice in the hold (R155). A LATCH record that start-up found missing is asked (R102; log
entry 26), none once an ACK has cleared the latch (log entry 93); the targets are derived by the stage ZONE
holds, before it takes the one posted (log entry 94). -/
def Obligations.EndOfStartUpBeginsTheWork : Prop :=
  State.reset.ringRests ∧ (∀ s t : State, s.ringRests → step s = .next t → t.ringRests)
  ∧ ∀ s : State, s.phase = .derived → s.ringRests → s.store.answers = [] →
    s.burn.latchMissing = false ∨ s.recordsClear →
    ∃ t, exec .endOfStartUp s = .next t ∧ t.phase = .running
      ∧ s.changesOnly [.phase, .scan, .out, .loop, .zone, .burn, .fuel, .store, .link, .posts] t
      ∧ (s.burn.latchMissing = false ∨ s.burn.latchReason = none →
        t.burn = s.burn ∧ t.store = s.store)
      ∧ (∀ why, s.burn.latchMissing = true → s.burn.latchReason = some why →
        t.burn = { s.burn with latchMissing := false }
        ∧ t.store = s.store.appending (.latch why s.burn.relock) (some .closing))
      ∧ t.scan.passTimer = some 2000 ∧ t.scan.inFlight.isSome = true
      ∧ t.outputsByTable
      ∧ (∀ ch : Fin 10, t.out.channels[ch].demand = s.toldDemand ch)
      ∧ (∀ z : Fin 6, t.zone.zones[z].target = t.targetByRule z)
      ∧ t.fuel.periodTimer = 60 * s.par.period ∧ t.fuel.deferred = false ∧ t.fuel.trendTimer = 60
      ∧ t.link.receiver = .hunting ∧ t.link.silence = some (1000 * s.par.silence)
      ∧ (s.supply.hold = true → .mains ∈ t.link.notices)
      ∧ (t.loop.slot = .quiet ↔ ∀ n : Fin 15, s.loop.nodes[n].zone = none)
      ∧ (∀ n b, t.loop.slot = .poll n b → b = false ∧ t.loop.nodes[n].zone ≠ none
        ∧ t.loop.lastPolled = some n ∧ ∀ k : Fin 15, k < n → t.loop.nodes[k].zone = none)
      ∧ (∀ v b, t.loop.slot ≠ .write v b)


/-! ## Requests (Chapter 10) -/

/-- What LINK decides before a block sees a request (R159, R160, R163): a payload above 120 bytes makes no
frame, and only the reception ends; with a reply owed the frame is discarded and LINK_OVERRUN set; else an
unknown kind, a wrong length, an occupied slot and a filled buffer are answered in that order, and nothing
else changes. -/
def Obligations.RequestsAreCheckedFirst : Prop :=
  ∀ s : State, s.running = true →
    (∀ (c : Instr) (p : List Byte), Instr.payload? c = some p → 120 < p.length →
      exec c s = .next { s with link := { s.link with receiver := .hunting } })
    ∧ (∀ (c : Instr) (r : Reply), Instr.isRequest c = true → s.link.owed = some r →
      (∀ p, Instr.payload? c = some p → p.length ≤ 120) →
      exec c s = .next { s with link := { s.link with
        silence := some (1000 * s.par.silence), receiver := .hunting, overrun := true } })
    ∧ (s.link.owed = none →
      (∀ k p, p.length ≤ 120 →
        exec (.unknownKind k p) s = .next (s.replied (plainReply k .refused .unknownKind [])))
      ∧ (∀ c k n p, Instr.fixedForm c = some (k, n) → Instr.payload? c = some p → p.length ≠ n →
        p.length ≤ 120 → exec c s = .next (s.replied (plainReply k .refused .badLength [])))
      ∧ (∀ p : List Byte, p.length ≤ 120 → p = [] ∨ (p.length - 1) % 4 ≠ 0 →
        exec (.tableRows p) s = .next (s.replied (plainReply 0x0F .refused .badLength [])))
      ∧ (∀ p : List Byte, p.length < 3 →
        exec (.setParam p) s = .next (s.replied (plainReply 0x04 .refused .badLength [])))
      ∧ (∀ c k n p kd serial, Instr.startsTask c = true → Instr.fixedForm c = some (k, n) →
        Instr.payload? c = some p → p.length = n → s.link.slot = some (kd, serial) →
        (kd = .tableLoad → ∀ q, c ≠ .tableBegin q) →
        exec c s = .next (s.replied (plainReply k .busy .none [])))
      ∧ (s.link.slot = none → s.link.buffer ≠ .empty →
        exec (.selftest []) s = .next (s.replied (plainReply 0x0D .refused .bufferHeld []))
        ∧ ∀ a b c d n, exec (.historyRead [a, b, c, d, n]) s =
            .next (s.replied (plainReply 0x11 .refused .bufferHeld []))))

/-! ## The scan (Chapter 1) -/

/-- SCAN_PASS_START: the next pass is 2 s away, the pass carries the REF slot when a self-test is due, and a
waiting SELFTEST task is in it. SELFTEST with the slot free and the buffer empty is always taken: the task
waits for the next pass to start, and follow mode ends (R1, R8, R13, R166, R171). -/
def Obligations.SelftestsRideOnPasses : Prop :=
  (∀ s : State, s.running = true → s.scan.inFlight = none →
    exec .scanPassStart s = .next { s with scan := { s.scan with
      passTimer := some 2000
      inFlight := some (decide (s.scan.passCounter = 449 ∨ s.scan.measureFault = true
        ∨ s.scan.taskWait = .forStart))
      taskWait := if s.scan.taskWait = .forStart then .inPass else s.scan.taskWait } })
    ∧ (∀ s : State, s.takes → s.link.slot = none → s.link.buffer = .empty →
    exec (.selftest []) s = .next (State.replied { s with
        scan := { s.scan with taskWait := .forStart }
        link := { s.link with
          serial := (s.link.serial + 1) % 65536
          slot := some (.selftest, (s.link.serial + 1) % 65536)
          follow := none } }
      (plainReply 0x0D .taken .none (byte16 ((s.link.serial + 1) % 65536)))))

/-- PASS_COMPLETION stores for every temperature count the value round(c × 1,600 / 4,095) − 400, halves
up, between −400 and 1,200, whatever the input's state becomes (R3). -/
def Obligations.PassCompletionConvertsTemperatures : Prop :=
  ∀ (p : PassCounts) (s : State) (ref : Bool), s.running = true → s.scan.inFlight = some ref →
    ∃ t, exec (.passCompletion p) s = .next t
      ∧ ∀ (c : Count) (r : TempRecord),
        ((c, r) = (p.tank, t.scan.tankTemp) ∨ (c, r) = (p.flow, t.scan.flowTemp)) →
        ∃ x : Int, r.reading = some (c.toNat, x)
          ∧ 8190 * (x + 400) ≤ 3200 * (c.toNat : Int) + 4095
          ∧ 3200 * (c.toNat : Int) + 4095 < 8190 * (x + 401)
          ∧ -400 ≤ x ∧ x ≤ 1200 ∧ (c.toNat = 0 → x = -400) ∧ (c.toNat = 4095 → x = 1200)

/-- PASS_COMPLETION's stages 1, 2 and 4 at SCAN (R2, R4, R5, R7 to R11, R14): every record takes its
count, fresh; a self-test pass replaces the last result and settles MEASURE_FAULT; a waiting task ends
with its twelve bytes, field by field as R14 lists them. A temperature input is VALID or SENSOR_FAULT after
each pass, and each change but that from EMPTY to VALID posts the MEASURE notice, as a change of MEASURE_FAULT
does (R4, R10, R11). -/
def Obligations.PassCompletionUpdatesTheScan : Prop :=
  ∀ (p : PassCounts) (s : State) (ref : Bool), s.running = true → s.scan.inFlight = some ref →
    ∃ t, exec (.passCompletion p) s = .next t
      ∧ s.changesOnly [.scan, .out, .loop, .zone, .burn, .gauge, .fuel, .store, .link, .sett, .posts] t
      ∧ t.scan.inFlight = none ∧ t.scan.passTimer = s.scan.passTimer
      ∧ t.scan.probe = ⟨some p.probe.toNat, true⟩
      ∧ t.scan.tankTemp.fresh = true ∧ t.scan.flowTemp.fresh = true
      ∧ (t.scan.tankTemp.state = .valid ↔ 16 ≤ p.tank.toNat ∧ p.tank.toNat ≤ 4079)
      ∧ (t.scan.flowTemp.state = .valid ↔ 16 ≤ p.flow.toNat ∧ p.flow.toNat ≤ 4079)
      ∧ (t.scan.tankTemp.state = .sensorFault ↔ p.tank.toNat < 16 ∨ 4079 < p.tank.toNat)
      ∧ (t.scan.flowTemp.state = .sensorFault ↔ p.flow.toNat < 16 ∨ 4079 < p.flow.toNat)
      ∧ (.measure ∈ t.link.notices ↔ .measure ∈ s.link.notices
        ∨ t.scan.measureFault ≠ s.scan.measureFault
        ∨ ∃ a b : TempState, ((a, b) = (s.scan.tankTemp.state, t.scan.tankTemp.state)
            ∨ (a, b) = (s.scan.flowTemp.state, t.scan.flowTemp.state))
          ∧ a ≠ b ∧ ¬ (a = .empty ∧ b = .valid))
      ∧ (∀ ch : Fin 10, ∃ ma : Nat,
        t.scan.cs[ch] = ⟨some ((p.cs[ch]).toNat, ma), true⟩
        ∧ 8190 * ma ≤ 4000 * (p.cs[ch]).toNat + 4095
        ∧ 4000 * (p.cs[ch]).toNat + 4095 < 8190 * (ma + 1))
      ∧ (ref = false → t.scan.measureFault = s.scan.measureFault
        ∧ t.scan.passCounter = min (s.scan.passCounter + 1) 449
        ∧ t.scan.lastTest = s.scan.lastTest ∧ t.scan.consecPass = s.scan.consecPass)
      ∧ (ref = true → t.scan.passCounter = 0
        ∧ ∃ pass : Bool, t.scan.lastTest =
            some ⟨p.low.toNat, p.mid.toNat, p.high.toNat, pass, s.store.runMinute⟩
          ∧ (pass = true ↔ (370 ≤ p.low.toNat ∧ p.low.toNat ≤ 450)
            ∧ (2008 ≤ p.mid.toNat ∧ p.mid.toNat ≤ 2088)
            ∧ (3646 ≤ p.high.toNat ∧ p.high.toNat ≤ 3726))
          ∧ (pass = false → t.scan.measureFault = true ∧ t.scan.consecPass = 0
            ∧ (s.scan.measureFault = false → .measure ∈ t.link.notices))
          ∧ (pass = true → s.scan.measureFault = false →
            t.scan.measureFault = false ∧ t.scan.consecPass = 0)
          ∧ (pass = true → s.scan.measureFault = true → s.scan.consecPass < 2 →
            t.scan.measureFault = true ∧ t.scan.consecPass = s.scan.consecPass + 1)
          ∧ (pass = true → s.scan.measureFault = true → 2 ≤ s.scan.consecPass →
            t.scan.measureFault = false ∧ t.scan.consecPass = 0 ∧ .measure ∈ t.link.notices))
      ∧ (s.scan.taskWait ≠ .inPass → t.scan.taskWait = s.scan.taskWait)
      ∧ (s.scan.taskWait = .inPass → t.scan.taskWait = .none)
      ∧ (∀ serial, ref = true → s.scan.taskWait = .inPass → s.link.slot = some (.selftest, serial) →
        s.store.answers = [] →
        t.link.slot = none ∧ .taskEnd ∈ t.link.notices
        ∧ (s.link.buffer = .empty → t.link.buffer = .held ∧ t.link.content.length = 12
          ∧ (∀ x, t.scan.lastTest = some x → t.link.content = layout [.two x.low, .two x.mid,
            .two x.high, .bit (!x.pass), .bit t.scan.measureFault, .four x.stamp])
          ∧ t.link.lastEnd = some ⟨.selftest, serial, .done, .none, 12⟩)
        ∧ (s.link.buffer = .held → t.link.buffer = .held ∧ t.link.content = s.link.content
          ∧ t.link.lastEnd = some ⟨.selftest, serial, .rejected, .bufferHeld, 0⟩))

/-- PASS_COMPLETION at OUT: each channel takes its current as R27 to R30 judge it, with its counts begun
again at a change of MEASURE_FAULT, and pump proven is what R33 says. A change of load state posts its notice
and reaches the neighbours: BURN's reason PUMP by CH2 and its call uncontrolled by CH0; a VALVE channel's
entry into either fault, from the other one too, is its zone's FAULT CHANNEL with fifteen minutes, notice and
lamp (R32, R56; a further off-scan in STUCK_ON leaves the off count at 3, log entry 55). -/
def Obligations.PassCompletionJudgesTheLoads : Prop :=
  ∀ (p : PassCounts) (s : State) (ref : Bool), s.running = true → s.scan.inFlight = some ref →
    ∃ t, exec (.passCompletion p) s = .next t
      ∧ t.out.mode = s.out.mode ∧ t.out.cause = s.out.cause
      ∧ t.out.pumpProven = t.pumpProvenByRule
      ∧ ∀ ch : Fin 10, ∃ ma : Nat, (t.scan.cs[ch].reading = some ((p.cs[ch]).toNat, ma))
        ∧ t.out.channels[ch] =
          (if t.scan.measureFault = s.scan.measureFault then s.out.channels[ch]
            else s.out.channels[ch].recounted).scanned s.supply.hold t.scan.measureFault
              s.sett.working.channels[ch].minMA s.sett.working.channels[ch].maxMA ma
      ∧ (∀ ch : Fin 10, t.out.channels[ch].load ≠ s.out.channels[ch].load →
        .channelFault ∈ t.link.notices)
      ∧ (t.out.channels[2].load ≠ s.out.channels[2].load → (t.burn.inhibit.pump = true ↔
        t.out.channels[2].load = .openLoad ∨ t.out.channels[2].load = .tripped))
      ∧ (t.out.channels[2].load = s.out.channels[2].load →
        t.burn.inhibit.pump = s.burn.inhibit.pump)
      ∧ (t.out.channels[0].load ≠ s.out.channels[0].load →
        (t.burn.uncontrolled = true ↔ t.out.channels[0].load = .stuckOn))
      ∧ (t.out.channels[0].load = s.out.channels[0].load →
        t.burn.uncontrolled = s.burn.uncontrolled)
      ∧ (∀ z : Fin 6,
        t.out.channels[valveChannel z].load ≠ s.out.channels[valveChannel z].load →
        t.out.channels[valveChannel z].load = .openLoad
          ∨ t.out.channels[valveChannel z].load = .tripped →
        t.zone.zones[z].state = .fault
        ∧ (s.zone.zones[z].state ≠ .fault → t.zone.zones[z].cause = .channel
          ∧ t.zone.zones[z].timer = .retry 15 ∧ .zoneFault ∈ t.link.notices
          ∧ ∀ n : Fin 15, s.sett.working.zones[z].enabled = true →
            s.sett.working.zones[z].node = n.val + 1 → t.owes n .faultLamp 1))

/-- PASS_COMPLETION at the jobs: GAUGE keeps a valid tank temperature and makes every 15th pass due
outside the hold (R105, R106), FUEL derives line heat (R133), BURN adds and removes OVERHEAT (R65), ZONE
forms the boiler-frost call (R58). MEASURE_FAULT newly set is GAUGE_FAULT with cause MEASURE: its window is
empty and nothing is derived from it; an entry posts its notice, ends FUEL's settling, leaves the period
ungauged and offers an estimate (R113, R114, R125). -/
def Obligations.PassCompletionReachesTheJobs : Prop :=
  ∀ (p : PassCounts) (s : State) (ref : Bool), s.running = true → s.scan.inFlight = some ref →
    ∃ t, exec (.passCompletion p) s = .next t
      ∧ (s.supply.hold = true → t.gauge.counter = s.gauge.counter ∧ t.gauge.due = s.gauge.due)
      ∧ (s.supply.hold = false → s.gauge.counter < 14 →
        t.gauge.counter = s.gauge.counter + 1 ∧ t.gauge.due = s.gauge.due)
      ∧ (s.supply.hold = false → 14 ≤ s.gauge.counter →
        t.gauge.counter = 0 ∧ t.gauge.due = some (p.probe.toNat, t.scan.measureFault))
      ∧ (t.scan.tankTemp.state ≠ .valid → t.gauge.heldTemp = s.gauge.heldTemp
        ∧ t.fuel.lineHeat = s.fuel.lineHeat)
      ∧ (∀ x : Int, t.scan.tankTemp.state = .valid →
        t.scan.tankTemp.reading = some (p.tank.toNat, x) →
        t.gauge.heldTemp = some x
        ∧ (x ≤ 10 * s.sett.working.wax → t.fuel.lineHeat = true)
        ∧ (10 * (s.sett.working.wax + 2) ≤ x → t.fuel.lineHeat = false)
        ∧ (10 * s.sett.working.wax < x → x < 10 * (s.sett.working.wax + 2) →
          t.fuel.lineHeat = s.fuel.lineHeat))
      ∧ (∀ x : Int, t.scan.measureFault = false → t.scan.flowTemp.state = .valid →
        t.scan.flowTemp.reading = some (p.flow.toNat, x) → s.store.answers = [] →
        (950 ≤ x → t.burn.inhibit.overheat = true) ∧ (x < 850 → t.burn.inhibit.overheat = false)
        ∧ (x < 50 → t.zone.boilerFrost = true) ∧ (80 ≤ x → t.zone.boilerFrost = false)
        ∧ (ref = false → 850 ≤ x → x < 950 → t.burn.inhibit.overheat = s.burn.inhibit.overheat)
        ∧ (ref = false → 50 ≤ x → x < 80 → t.zone.boilerFrost = s.zone.boilerFrost))
      ∧ (s.scan.measureFault = false → t.scan.measureFault = true →
        t.gauge.fault = true ∧ t.gauge.cause = .measure ∧ t.gauge.window = []
        ∧ t.gauge.faulty = 0 ∧ t.gauge.filtered = none ∧ t.gauge.vol = none ∧ t.gauge.v15 = none
        ∧ (s.gauge.fault = true → t.gauge.offered = s.gauge.offered
          ∧ t.fuel.value = s.fuel.value ∧ t.fuel.ungauged = s.fuel.ungauged)
        ∧ (s.gauge.fault = false → .gauge ∈ t.link.notices
          ∧ t.gauge.offered = s.gauge.basis - s.gauge.metered / 100
          ∧ t.gauge.status = .estimate ∧ t.fuel.value = t.gauge.offered
          ∧ t.fuel.status = .estimate ∧ t.fuel.ungauged = true ∧ t.fuel.settling = none))
      ∧ (s.scan.measureFault = true ∨ t.scan.measureFault = false →
        t.gauge.fault = s.gauge.fault ∧ t.gauge.window = s.gauge.window)
      ∧ (t.scan.measureFault = true ∨ t.scan.flowTemp.state ≠ .valid → t.zone.boilerFrost = false)

/-! ## The channels (Chapter 2) -/

/-- JOB_DEMAND_CHANGE and OVERRIDE_EXPIRY each change one channel, which is then driven by Table 2-4
with R23's effects, a changed CH2 with pump proven evaluated again and told to BURN; the other channels stand
(R18, R22, R23, R26, R33; an expiry at 0 minutes left, DEDUCED, log entry 6). -/
def Obligations.DemandsAndExpiriesResolveTheirChannel : Prop :=
  ∀ (ch : Fin 10) (s : State), s.running = true →
    (∀ v rest, s.posts.demand[ch] = v :: rest → v ≠ s.out.channels[ch].demand →
      ∃ t, exec (.jobDemandChange ch) s = .next t ∧ s.changesOnly [.out, .posts] t
        ∧ t.posts.demand = s.posts.demand.set ch rest
        ∧ t.out.channels[ch] =
          ({ s.out.channels[ch] with demand := v } : Channel).entered (t.tableEffective ch)
        ∧ (∀ c : Fin 10, c ≠ ch → t.out.channels[c] = s.out.channels[c]) ∧ s.pumpFollows t)
    ∧ (∀ rest, s.posts.demand[ch] = s.out.channels[ch].demand :: rest →
      exec (.jobDemandChange ch) s =
        .next { s with posts := { s.posts with demand := s.posts.demand.set ch rest } })
    ∧ (∀ v, s.out.channels[ch].override = some (v, 0) →
      ∃ t, exec (.overrideExpiry ch) s = .next t ∧ s.changesOnly [.out, .posts] t
        ∧ t.out.channels[ch] =
          ({ s.out.channels[ch] with override := none } : Channel).entered (t.tableEffective ch)
        ∧ (∀ c : Fin 10, c ≠ ch → t.out.channels[c] = s.out.channels[c]) ∧ s.pumpFollows t)

/-- RESUME and the silence timer's expiry change the output mode: cause and notice with it, every channel
driven by Table 2-4, every zone's target that of its mode in force (Table 3-9) by setpoint, dial and fuel
stage; a mode that already stands stays with its cause, and a mode RESUME cannot name is refused (R19, R20,
R47, R48, R173). The expiry is taken at any remaining time (log entry 5). -/
def Obligations.ModeChangesReachChannelsAndZones : Prop :=
  ∀ s : State, s.running = true →
    (∀ (m : OutMode) (b : Byte), s.link.owed = none →
      (b = 0 ∧ m = .run) ∨ (b = 1 ∧ m = .standby) →
      (m = s.out.mode → exec (.resume [b]) s = .next (s.replied (plainReply 0x06 .ok .none [])))
      ∧ (m ≠ s.out.mode → ∃ t, exec (.resume [b]) s = .next t
        ∧ s.changesOnly [.out, .loop, .zone, .link, .posts] t
        ∧ s.answered t (plainReply 0x06 .ok .none [])
        ∧ t.out.mode = m ∧ t.out.cause = .resume ∧ .mode ∈ t.link.notices
        ∧ t.outputsByTable ∧ ∀ z : Fin 6, t.zone.zones[z].target = t.targetByRule z))
    ∧ (∀ b : Byte, s.link.owed = none → 2 ≤ b.toNat →
      exec (.resume [b]) s = .next (s.replied (plainReply 0x06 .refused .badValue [])))
    ∧ (∀ n, s.link.silence = some n →
      (s.out.mode = .failsafe → exec .silenceTimerExpiry s =
        .next { s with link := { s.link with silence := none } })
      ∧ (s.out.mode ≠ .failsafe → ∃ t, exec .silenceTimerExpiry s = .next t
        ∧ s.changesOnly [.out, .loop, .zone, .link, .posts] t
        ∧ t.link.silence = none ∧ t.out.mode = .failsafe ∧ t.out.cause = .silence
        ∧ .mode ∈ t.link.notices ∧ t.outputsByTable
        ∧ ∀ z : Fin 6, t.zone.zones[z].target = t.targetByRule z))

/-- OVERRIDE as Table 2-5 answers it (R24; values coded as 11.2 codes them, the stored override in the
reply as log entry 21 lays it out). -/
def Obligations.OverrideActsByItsTable : Prop :=
  ∀ (c v m : Byte) (s : State), s.takes →
    ((9 < c.toNat ∨ c.toNat ≤ 1 ∨ 2 < v.toNat) →
      exec (.override [c, v, m]) s = .next (s.replied (plainReply 0x08 .refused .badValue [])))
    ∧ ∀ ch : Fin 10, c.toNat = ch.val → 2 ≤ ch.val →
      (v = 2 → ∃ t, exec (.override [c, v, m]) s = .next t
        ∧ s.changesOnly [.out, .link, .posts] t
        ∧ s.answered t (plainReply 0x08 .ok .none [2, 0, 0])
        ∧ t.out.channels[ch] =
          ({ s.out.channels[ch] with override := none } : Channel).entered (t.tableEffective ch)
        ∧ ∀ x : Fin 10, x ≠ ch → t.out.channels[x] = s.out.channels[x])
      ∧ (v.toNat ≤ 1 → ∃ t, exec (.override [c, v, m]) s = .next t
        ∧ s.changesOnly [.out, .link, .posts] t
        ∧ s.answered t (plainReply 0x08 (if 1 ≤ m.toNat ∧ m.toNat ≤ 240 then .ok else .clamped) .none
          [v, 1, if m = 0 then 1 else if 240 < m.toNat then 240 else m])
        ∧ t.out.channels[ch] = ({ s.out.channels[ch] with
            override := some (v == 0, max 1 (min m.toNat 240)) } : Channel).entered (t.tableEffective ch)
        ∧ ∀ x : Fin 10, x ≠ ch → t.out.channels[x] = s.out.channels[x])

/-- CLEAR_TRIP as Table 2-8 answers it: the first row that holds decides; cleared, the load is OK with
its counts and judgement begun again, and the channel driven by Table 2-4 (R31, R32). -/
def Obligations.ClearTripActsByItsTable : Prop :=
  ∀ (c : Byte) (s : State), s.takes →
    (9 < c.toNat →
      exec (.clearTrip [c]) s = .next (s.replied (plainReply 0x09 .refused .badValue [])))
    ∧ ∀ ch : Fin 10, c.toNat = ch.val →
      (ch.val ≤ 1 → s.inputs.key ≠ some true →
        exec (.clearTrip [c]) s = .next (s.replied (plainReply 0x09 .refused .keyRequired [])))
      ∧ ((2 ≤ ch.val ∨ s.inputs.key = some true) →
        ((s.out.channels[ch].load ≠ .tripped ∨ s.scan.measureFault = true) →
          exec (.clearTrip [c]) s = .next (s.replied (plainReply 0x09 .refused .notNow [])))
        ∧ (s.out.channels[ch].load = .tripped → s.scan.measureFault = false →
          ∃ t, exec (.clearTrip [c]) s = .next t
            ∧ s.changesOnly [.out, .loop, .zone, .burn, .link, .posts] t
            ∧ s.answered t (plainReply 0x09 .ok .none []) ∧ .channelFault ∈ t.link.notices
            ∧ t.out.channels[ch] =
              ({ s.out.channels[ch].recounted with load := .ok, judgement := .none } : Channel).entered
                (t.tableEffective ch)
            ∧ (∀ x : Fin 10, x ≠ ch → t.out.channels[x] = s.out.channels[x])
            ∧ t.zone = s.zone ∧ t.loop = s.loop
            ∧ (ch = 2 → t.burn.inhibit.pump = false)
            ∧ (ch.val ≠ 0 → ch ≠ 2 → t.burn = s.burn)
            ∧ (ch = 0 → t.burn = { s.burn with uncontrolled := false })))


/-! ## The thermostat loop (Chapter 3) -/

/-- POLL_SLOT_END with a good report: the node's record, the zone's view by its kind, the calls it
forms, and the next slot (R38, R39, R48 to R51). -/
def Obligations.PollReportReachesItsZone : Prop :=
  ∀ (n : Fin 15) (z : Fin 6) (r : Report) (s : State), s.running = true →
    s.loop.slot = .poll n false → s.loop.nodes[n].zone = some z →
    ∃ t, exec (.pollSlotEnd (some r)) s = .next t ∧ s.changesOnly [.loop, .zone, .link, .posts] t
      ∧ t.loop.nodes[n].zone = some z ∧ t.loop.nodes[n].miss = 0 ∧ t.loop.nodes[n].polled = true
      ∧ t.loop.nodes[n].statLost = false ∧ t.loop.nodes[n].batteryLow = r.batteryLow
      ∧ (s.loop.nodes[n].statLost = true → .statLost ∈ t.link.notices)
      ∧ s.ringGoesOn t ∧ t.plantFormed
      ∧ t.zone.zones[z].statLost = false ∧ t.zone.zones[z].target = t.targetByRule z
      ∧ (∀ x : Int, s.sett.working.zones[z].kind ≠ .contact → r.temp = some x →
        -400 ≤ x → x ≤ 1200 →
        t.zone.zones[z].sighted = .sighted ∧ t.zone.zones[z].temp = some x
        ∧ (s.sett.working.zones[z].kind = .dial → ∀ d : Int, r.dial = some d →
          -400 ≤ d → d ≤ 1200 →
          t.zone.zones[z].dial = some d)
        ∧ (∀ g, t.zone.zones[z].target = some g →
          (x < (g : Int) - s.sett.working.zones[z].hyst → t.zone.zones[z].modeCall = true)
          ∧ ((g : Int) ≤ x → t.zone.zones[z].modeCall = false))
        ∧ (t.zone.zones[z].target = none → t.zone.zones[z].modeCall = false)
        ∧ (x < s.sett.working.zones[z].frost → t.zone.zones[z].frostCall = true)
        ∧ (((s.sett.working.zones[z].frost + s.sett.working.zones[z].hyst : Nat) : Int) ≤ x →
          t.zone.zones[z].frostCall = false))
      ∧ (s.sett.working.zones[z].kind = .contact → ∀ closed, r.contact = some closed →
        t.zone.zones[z].sighted = .sighted ∧ t.zone.zones[z].contact = some closed
        ∧ t.zone.zones[z].modeCall = (closed && t.servedMode z != .off)
        ∧ t.zone.zones[z].frostCall = false)
      ∧ ((s.sett.working.zones[z].kind = .contact ∧ r.contact = none)
          ∨ (s.sett.working.zones[z].kind ≠ .contact
            ∧ ∀ x : Int, r.temp = some x → x < -400 ∨ 1200 < x) →
        t.zone.zones[z].sighted = .blind ∧ t.zone.zones[z].frostCall = false)

/-- POLL_SLOT_END without a good report: the misses up to STAT_LOST, and what they tell the zone; a slot whose
node is no longer bound has no result (R38, R40, R49, R51). A miss at a node already polled leaves a zone
AWAITING, as after a change of kind, as it is (log entry 46, DEDUCED). A slot marked lost stays without a
result when its node is bound again meanwhile (log entry 78). -/
def Obligations.PollMissesLoseTheNode : Prop :=
  ∀ (n : Fin 15) (s : State), s.running = true →
    (∀ z : Fin 6, s.loop.slot = .poll n false → s.loop.nodes[n].zone = some z →
      ∃ t, exec (.pollSlotEnd none) s = .next t ∧ s.changesOnly [.loop, .zone, .link, .posts] t
        ∧ s.ringGoesOn t ∧ t.loop.nodes[n].polled = true ∧ t.loop.nodes[n].zone = some z
        ∧ (s.loop.nodes[n].statLost = true → t.zone = s.zone ∧ t.loop.nodes[n].statLost = true
          ∧ t.loop.nodes[n].miss = s.loop.nodes[n].miss)
        ∧ (s.loop.nodes[n].statLost = false → s.loop.nodes[n].miss < 2 →
          t.loop.nodes[n].miss = s.loop.nodes[n].miss + 1 ∧ t.loop.nodes[n].statLost = false
          ∧ (s.loop.nodes[n].polled = true ∨ s.zone.zones[z].sighted ≠ .awaiting → t.zone = s.zone)
          ∧ (s.loop.nodes[n].polled = false → s.zone.zones[z].sighted = .awaiting →
            t.zone.zones[z].sighted = .blind ∧ t.zone.zones[z].blindPos = 0
            ∧ t.zone.zones[z].modeCall =
              (t.servedMode z != .off && decide (0 < s.sett.working.zones[z].duty))))
        ∧ (s.loop.nodes[n].statLost = false → 2 ≤ s.loop.nodes[n].miss →
          t.loop.nodes[n].miss = 0 ∧ t.loop.nodes[n].statLost = true ∧ .statLost ∈ t.link.notices
          ∧ t.zone.zones[z].temp = none ∧ t.zone.zones[z].dial = none
          ∧ t.zone.zones[z].contact = none ∧ t.zone.zones[z].statLost = true
          ∧ t.zone.zones[z].sighted = .blind ∧ t.zone.zones[z].frostCall = false))
    ∧ (∀ answer lost, s.loop.slot = .poll n lost → (lost = true ∨ s.loop.nodes[n].zone = none) →
      ∃ t, exec (.pollSlotEnd answer) s = .next t ∧ s.changesOnly [.loop] t ∧ s.ringGoesOn t
        ∧ t.loop.nodes = s.loop.nodes ∧ t.loop.queue.length = s.loop.queue.length)

/-- WRITE_SLOT_END as Table 3-4 decides it, and the next poll slot (R38, R42). The slot carries the value its
entry held when the slot opened: a merge meanwhile changes the entry and leaves the slot (R42). A slot marked
lost has no result, its node bound again or not (log entry 78). -/
def Obligations.WriteSlotEndsByItsTable : Prop :=
  ∀ (e : WriteEntry) (rest : List WriteEntry) (ack : Bool) (s : State), s.running = true →
    s.loop.queue = e :: rest →
    (∀ (w : Nat) (a i v0 v1 : Byte) (n : Fin 15), s.takes → s.loop.slot = .write w false →
      e.inSlot = true → e.node = n → a.toNat = n.val + 1 → e.item = .oilLamp → i = 1 →
      v0.toNat ≤ 3 → v1 = 0 → s.loop.nodes[n].zone ≠ none →
      ∃ t, exec (.statWrite [a, i, v0, v1]) s = .next t ∧ t.loop.slot = .write w false
        ∧ ∃ more, t.loop.queue =
          { e with value := v0.toNat, failedOnce := false, merged := true } :: more)
    ∧ (∀ w, s.loop.slot = .write w true →
      ∃ t, exec (.writeSlotEnd ack) s = .next t ∧ s.changesOnly [.loop] t
        ∧ s.pollsNext t ∧ t.loop.queue = s.loop.queue ∧ t.loop.nodes = s.loop.nodes)
    ∧ (∀ w, s.loop.slot = .write w false →
      ∃ t, exec (.writeSlotEnd ack) s = .next t ∧ s.changesOnly [.loop, .zone] t
        ∧ s.pollsNext t ∧ t.loop.nodes = s.loop.nodes
        ∧ (e.merged = true → t.loop.queue =
          { e with inSlot := false, merged := false, failedOnce := false } :: rest)
        ∧ (e.merged = false → (ack = true ∨ e.failedOnce = true) → t.loop.queue = rest)
        ∧ (e.merged = false → ack = false → e.failedOnce = false → t.loop.queue =
          { e with inSlot := false, merged := false, failedOnce := true } :: rest)
        ∧ ∀ y : Fin 6, ∃ failed : Bool,
          t.zone.zones[y] = { s.zone.zones[y] with writeFailed := failed }
          ∧ (s.loop.nodes[e.node].zone = some y → ack = true → failed = false)
          ∧ (s.loop.nodes[e.node].zone = some y → ack = false → e.merged = false →
            e.failedOnce = true → failed = true)
          ∧ (s.loop.nodes[e.node].zone ≠ some y ∨ (ack = false
            ∧ (e.merged = true ∨ e.failedOnce = false)) → failed = s.zone.zones[y].writeFailed))

/-- STAT_WRITE as Table 3-5 answers it: addresses and values refused, setpoints clamped to 30..300, the
write merged, joined or refused by the queue (R41, R43; codes of 11.2). That a setpoint out of range is
refused by a full queue too, and not CLAMPED, is the model's choice (log entry 87). -/
def Obligations.StatWriteActsByItsTable : Prop :=
  ∀ (a i v0 v1 : Byte) (s : State), s.takes →
    ((a = 0 ∨ 15 < a.toNat ∨ 2 < i.toNat) → exec (.statWrite [a, i, v0, v1]) s =
      .next (s.replied (plainReply 0x0B .refused .badValue [])))
    ∧ ∀ (n : Fin 15) (item : Item) (v w : Nat), a.toNat = n.val + 1 → i.toNat = item.code →
      v = v0.toNat + 256 * v1.toNat →
      (s.loop.nodes[n].zone = none → exec (.statWrite [a, i, v0, v1]) s =
        .next (s.replied (plainReply 0x0B .refused .badValue [])))
      ∧ (s.loop.nodes[n].zone ≠ none →
        ((item = .oilLamp ∧ 3 < v) ∨ (item = .faultLamp ∧ 1 < v) →
          exec (.statWrite [a, i, v0, v1]) s =
            .next (s.replied (plainReply 0x0B .refused .badValue [])))
        ∧ ((item = .shownSetpoint ∧ w = (if v = 65535 then v else max 30 (min v 300)))
            ∨ (item = .oilLamp ∧ v ≤ 3 ∧ w = v) ∨ (item = .faultLamp ∧ v ≤ 1 ∧ w = v) →
          (∀ q, ((∃ e ∈ s.loop.queue, e.node = n ∧ e.item = item)
                ∧ q = s.loop.queue.map (fun e => if e.node = n ∧ e.item = item then
                  { e with value := w, failedOnce := false, merged := e.inSlot } else e))
              ∨ ((∀ e ∈ s.loop.queue, ¬ (e.node = n ∧ e.item = item)) ∧ s.loop.queue.length < 8
                ∧ q = s.loop.queue ++ [⟨n, item, w, false, false, false⟩]) →
            exec (.statWrite [a, i, v0, v1]) s = .next (State.replied
              { s with loop := { s.loop with queue := q } }
              (if w = v then plainReply 0x0B .ok .none []
                else plainReply 0x0B .clamped .none (byte16 w))))
          ∧ ((∀ e ∈ s.loop.queue, ¬ (e.node = n ∧ e.item = item)) → 8 ≤ s.loop.queue.length →
            exec (.statWrite [a, i, v0, v1]) s =
              .next (s.replied (plainReply 0x0B .refused .queueFull [])))))

/-! ## The zones (Chapter 3) -/

/-- ZONE_MODE sets the host mode in every output mode; in RUN it is in force at once, and target, mode call
and call follow: the target by the mode of Table 3-9, the setpoints, the dial and the fuel stage; OFF has no
target and no mode call, a temperature zone calls by its target and hysteresis, a contact zone by its contact,
a blind one by its duty (R47 to R52). Every step keeps that a SIGHTED zone which goes by its temperature has
one (R49, R51). -/
def Obligations.ZoneModeSetsTheHostMode : Prop :=
  State.reset.sightedByReport
  ∧ (∀ s t : State, s.sightedByReport → step s = .next t → t.sightedByReport)
  ∧ ∀ (i m : Byte) (s : State), s.takes → s.sightedByReport →
    ((i = 0 ∨ 6 < i.toNat ∨ 3 < m.toNat) → exec (.zoneMode [i, m]) s =
      .next (s.replied (plainReply 0x0A .refused .badValue [])))
    ∧ ∀ (z : Fin 6) (mode : HeatMode), i.toNat = z.val + 1 → m.toNat = HeatMode.code mode →
      (s.out.mode ≠ .run → exec (.zoneMode [i, m]) s = .next (State.replied
        { s with zone := { s.zone with
          zones := s.zone.zones.set z { s.zone.zones[z] with hostMode := mode } } }
        (plainReply 0x0A .ok .none [])))
      ∧ (s.out.mode = .run → ∃ t, exec (.zoneMode [i, m]) s = .next t
        ∧ s.changesOnly [.loop, .zone, .link, .posts] t
        ∧ s.answered t (plainReply 0x0A .ok .none [])
        ∧ t.zone.zones[z].hostMode = mode ∧ t.zone.zones[z].target = t.targetByRule z
        ∧ t.plantFormed
        ∧ t.zone.zones[z].call = (s.sett.working.zones[z].enabled
          && (t.zone.zones[z].modeCall || t.zone.zones[z].frostCall || t.zone.zones[z].sinkDrive))
        ∧ (mode = .off → t.zone.zones[z].target = none
          ∧ t.zone.zones[z].modeCall = false)
        ∧ (∀ x : Int, mode ≠ .off → s.sett.working.zones[z].kind ≠ .contact →
          s.zone.zones[z].sighted = .sighted → s.zone.zones[z].temp = some x →
          ∀ g, t.zone.zones[z].target = some g →
            (x < (g : Int) - s.sett.working.zones[z].hyst → t.zone.zones[z].modeCall = true)
            ∧ ((g : Int) ≤ x → t.zone.zones[z].modeCall = false)
            ∧ ((g : Int) - s.sett.working.zones[z].hyst ≤ x → x < (g : Int) →
              t.zone.zones[z].modeCall = s.zone.zones[z].modeCall))
        ∧ (mode ≠ .off → s.sett.working.zones[z].kind = .contact →
          s.zone.zones[z].sighted = .sighted →
          t.zone.zones[z].modeCall = (s.zone.zones[z].contact == some true))
        ∧ (mode ≠ .off → s.zone.zones[z].sighted = .blind → t.zone.zones[z].modeCall =
          decide (100 ≤ s.sett.working.zones[z].duty
            ∨ s.zone.zones[z].blindPos < 12000 * s.sett.working.zones[z].duty))
        ∧ (s.zone.zones[z].sighted = .awaiting → t.zone.zones[z].modeCall = false)
        ∧ ∀ y : Fin 6, y ≠ z → t.zone.zones[y].hostMode = s.zone.zones[y].hostMode
          ∧ t.zone.zones[y].target = s.zone.zones[y].target
          ∧ t.zone.zones[y].call = s.zone.zones[y].call)

/-- BLIND_CYCLE_START puts a blind zone's cycle at 0 with the mode call on; BLIND_DUTY_END puts the mode call
off, and changes nothing at a duty of 100; OFF keeps it off (R51). Both are taken at the sender's word at any
position of the cycle (log entry 5); the position BLIND_DUTY_END leaves is not stated. -/
def Obligations.BlindDutyRunsTheModeCall : Prop :=
  ∀ (z : Fin 6) (s : State), s.running = true → s.zone.zones[z].sighted = .blind →
    (∃ t, exec (.blindCycleStart z) s = .next t ∧ s.changesOnly [.zone, .posts] t
      ∧ t.zone.zones[z].blindPos = 0 ∧ t.zone.zones[z].sighted = .blind
      ∧ t.zone.zones[z].modeCall =
        (s.servedMode z != .off && decide (0 < s.sett.working.zones[z].duty))
      ∧ t.zone.zones[z].frostCall = false ∧ t.plantFormed)
    ∧ (s.sett.working.zones[z].duty < 100 →
      ∃ t, exec (.blindDutyEnd z) s = .next t ∧ s.changesOnly [.zone, .posts] t
        ∧ t.zone.zones[z].sighted = .blind ∧ t.zone.zones[z].modeCall = false
        ∧ t.zone.zones[z].frostCall = false ∧ t.plantFormed)
    ∧ (100 ≤ s.sett.working.zones[z].duty → exec (.blindDutyEnd z) s = .next s)

/-- The valve sequence's own events (R53 to R56): the end switch proves OPEN and IDLE, a valve that leaves
its place or takes too long is a FAULT with its cause, lamp and fifteen minutes, and the retry goes on
by the call; every other state only sees the switch level (R55), and in SUPPLY_HOLD every state does (R61). A
travel time ends at any remaining time (log entry 5). -/
def Obligations.ValveSequenceFollowsItsEvents : Prop :=
  (∀ (z : Fin 6) (s : State), s.running = true → s.supply.hold = true →
    (s.inputs.ends[z] = some false → exec (.endMade z) s =
      .next { s with inputs := { s.inputs with ends := s.inputs.ends.set z (some true) } })
    ∧ (s.inputs.ends[z] = some true → exec (.endBroken z) s =
      .next { s with inputs := { s.inputs with ends := s.inputs.ends.set z (some false) } }))
  ∧ ∀ (z : Fin 6) (s : State), s.running = true → s.supply.hold = false →
    (s.inputs.ends[z] = some false →
      ∃ t, exec (.endMade z) s = .next t ∧ s.changesOnly [.inputs, .zone, .posts] t
        ∧ t.inputs = { s.inputs with ends := s.inputs.ends.set z (some true) }
        ∧ (s.zone.zones[z].state = .opening → t.plantFormed ∧ t.zone.zones =
          s.zone.zones.set z { s.zone.zones[z] with state := .opened, timer := .stopped })
        ∧ (s.zone.zones[z].state ≠ .opening → t.zone = s.zone ∧ t.posts = s.posts))
    ∧ (s.inputs.ends[z] = some true →
      ∃ t, exec (.endBroken z) s = .next t ∧ s.changesOnly [.inputs, .loop, .zone, .link, .posts] t
        ∧ t.inputs = { s.inputs with ends := s.inputs.ends.set z (some false) }
        ∧ (s.zone.zones[z].state = .closing → t.plantFormed
          ∧ (s.zone.zones[z].call = false → t.zone.zones =
            s.zone.zones.set z { s.zone.zones[z] with state := .idle, timer := .stopped })
          ∧ (s.zone.zones[z].call = true → t.zone.zones =
            s.zone.zones.set z { s.zone.zones[z] with
              state := .opening, timer := .travel (1000 * s.sett.working.zones[z].travel) }))
        ∧ (s.zone.zones[z].state = .opened ∨ s.zone.zones[z].state = .hold →
          t.plantFormed ∧ .zoneFault ∈ t.link.notices ∧ t.zone.zones =
            s.zone.zones.set z { s.zone.zones[z] with
              state := .fault, timer := .retry 15, cause := .switchLost }
          ∧ ∀ n : Fin 15, s.sett.working.zones[z].enabled = true →
            s.sett.working.zones[z].node = n.val + 1 → t.owes n .faultLamp 1)
        ∧ (s.zone.zones[z].state = .idle ∨ s.zone.zones[z].state = .opening
            ∨ s.zone.zones[z].state = .fault → t.zone = s.zone ∧ t.posts = s.posts))
    ∧ (∀ ms cause, s.zone.zones[z].timer = .travel ms →
      (s.zone.zones[z].state = .opening ∧ cause = .noOpen)
        ∨ (s.zone.zones[z].state = .closing ∧ cause = .stuckOpen) →
      ∃ t, exec (.travelTimerExpiry z) s = .next t ∧ s.changesOnly [.loop, .zone, .link, .posts] t
        ∧ t.plantFormed ∧ .zoneFault ∈ t.link.notices
        ∧ t.zone.zones = s.zone.zones.set z { s.zone.zones[z] with
          state := .fault, timer := .retry 15, cause := cause }
        ∧ (∀ n : Fin 15, s.sett.working.zones[z].enabled = true →
          s.sett.working.zones[z].node = n.val + 1 → t.owes n .faultLamp 1))
    ∧ (s.zone.zones[z].state = .fault → s.zone.zones[z].timer = .retry 0 →
      ∃ t, exec (.faultRetryExpiry z) s = .next t ∧ s.changesOnly [.loop, .zone, .link, .posts] t
        ∧ t.plantFormed ∧ .zoneFault ∈ t.link.notices
        ∧ (∀ n : Fin 15, s.sett.working.zones[z].enabled = true →
          s.sett.working.zones[z].node = n.val + 1 → t.owes n .faultLamp 0)
        ∧ (s.zone.zones[z].call = false → t.zone.zones =
          s.zone.zones.set z { s.zone.zones[z] with state := .idle, timer := .stopped })
        ∧ (s.zone.zones[z].call = true → s.inputs.ends[z] ≠ some true → t.zone.zones =
          s.zone.zones.set z { s.zone.zones[z] with
            state := .opening, timer := .travel (1000 * s.sett.working.zones[z].travel) })
        ∧ (s.zone.zones[z].call = true → s.inputs.ends[z] = some true → t.zone.zones =
          s.zone.zones.set z { s.zone.zones[z] with state := .opened, timer := .stopped }))

/-- OVERRUN_STATE: ZONE holds what BURN tells it; stopped takes every zone out of HOLD, running leaves all
zones as they are (R59, R60). FUEL_STAGE: each block named takes its oldest posted stage, in the order
named (log entry 9): BURN with its reason FUEL_DRY, ZONE with its targets, LOOP with every bound node's
oil lamp (R44, R48, R64, R132). A call that FUEL_DRY withdraws leaves STOPPING at once with the valve closed
(log entry 47), its ignition window stopped (log entry 53). -/
def Obligations.TellingsReachTheirTakers : Prop :=
  (∀ (v : Bool) (rest : List Bool) (s : State), s.running = true → s.posts.overrun = v :: rest →
    ∃ t, exec .overrunState s = .next t ∧ s.changesOnly [.zone, .posts] t
      ∧ t.posts.overrun = rest ∧ t.zone.overrun = v ∧ t.plantFormed
      ∧ (v = true → t.zone.zones = s.zone.zones)
      ∧ (v = false → ∀ z : Fin 6, t.zone.zones[z].state ≠ .hold
        ∧ (s.zone.zones[z].state ≠ .hold → t.zone.zones[z] = s.zone.zones[z])
        ∧ (s.zone.zones[z].state = .hold → s.inputs.ends[z] = some true →
          t.zone.zones[z] = { s.zone.zones[z] with
            state := .closing, timer := .travel (1000 * s.sett.working.zones[z].travel) })))
    ∧ (∀ (g : FuelStage) (rest : List FuelStage) (s : State), s.running = true →
    (∀ w ws t, exec (.fuelStage [w]) s = .next t →
      exec (.fuelStage (w :: ws)) s = exec (.fuelStage ws) t)
    ∧ exec (.fuelStage []) s = .next s
    ∧ (s.posts.stageBurn = g :: rest →
      ∃ t, exec (.fuelStage [.burn]) s = .next t ∧ s.changesOnly [.burn, .posts] t
        ∧ t.posts.stageBurn = rest ∧ t.burn.stage = g
        ∧ (t.burn.inhibit.fuelDry = true ↔ g = .dry)
        ∧ (g = .dry → s.burn.inhibit.fuelDry = false →
          (s.burn.state.calling = true → s.withdrawnFrom t)
          ∧ (s.burn.state = .idle → t.burn.state = .inhibited))
        ∧ (g ≠ .dry → s.burn.inhibit.fuelDry = true → s.burn.state = .inhibited → s.atRest t))
    ∧ (s.posts.stageZone = g :: rest →
      ∃ t, exec (.fuelStage [.zone]) s = .next t ∧ s.changesOnly [.loop, .zone, .posts] t
        ∧ t.posts.stageZone = rest ∧ t.zone.stage = g ∧ t.plantFormed
        ∧ ∀ z : Fin 6, t.zone.zones[z].target = t.targetByRule z)
    ∧ (s.posts.stageLoop = g :: rest →
      ∃ t, exec (.fuelStage [.loop]) s = .next t ∧ s.changesOnly [.loop, .posts] t
        ∧ t.posts.stageLoop = rest ∧ t.loop.stage = g
        ∧ ∀ n : Fin 15, s.loop.nodes[n].zone ≠ none → t.owes n .oilLamp g.code))


/-! ## The burner supervisor (Chapter 4) -/

/-- HEAT_REQUEST and PUMP_PROVEN: BURN stores what it is told; in IDLE the three call conditions call the
burner, a loss withdraws a standing call, and every fall of the heat request is answered with the
overrun state (R60, R67, R71). A call with the oil valve already open is FIRING at once and counts no start
(log entry 15, DEDUCED); a withdrawal with the valve closed leaves STOPPING at once (log entry 47), and stops
the ignition window (DESIGN CHOICE, log entry 53). -/
def Obligations.CallConditionsCallAndWithdraw : Prop :=
  ∀ (v : Bool) (rest : List Bool) (s : State), s.burnActive = true →
    (s.posts.heat = v :: rest → ∃ t, exec .heatRequest s = .next t ∧ s.changesOnly [.burn, .posts] t
      ∧ t.posts.heat = rest ∧ t.burn.heat = v
      ∧ (v = s.burn.heat → t.burn = s.burn ∧ t.posts.overrun = s.posts.overrun)
      ∧ (v = true → s.burn.heat = false → s.burn.state = .idle → s.burn.pump = true →
        s.burn.inhibit = InhibitSet.empty → s.calledFrom t)
      ∧ (v = true → (s.burn.state ≠ .idle ∨ s.burn.pump = false
          ∨ s.burn.inhibit ≠ InhibitSet.empty) →
        t.burn = { s.burn with heat := true } ∧ t.posts.overrun = s.posts.overrun)
      ∧ (v = false → s.burn.heat = true → t.posts.overrun.getLast? = some t.burn.overrun)
      ∧ (v = false → s.burn.heat = true → s.burn.state.calling = true → s.withdrawnFrom t)
      ∧ (v = false → s.burn.heat = true → s.burn.state.calling = false →
        t.burn = { s.burn with heat := false }))
    ∧ (s.posts.pump = v :: rest → ∃ t, exec .pumpProven s = .next t ∧ s.changesOnly [.burn, .posts] t
      ∧ t.posts.pump = rest ∧ t.burn.pump = v
      ∧ (v = s.burn.pump → t.burn = s.burn ∧ t.posts.overrun = s.posts.overrun)
      ∧ (v = true → s.burn.pump = false → s.burn.state = .idle → s.burn.heat = true →
        s.burn.inhibit = InhibitSet.empty → s.calledFrom t)
      ∧ (v = true → (s.burn.state ≠ .idle ∨ s.burn.heat = false
          ∨ s.burn.inhibit ≠ InhibitSet.empty) → t.burn = { s.burn with pump := true })
      ∧ (v = false → s.burn.pump = true → s.burn.state.calling = true → s.withdrawnFrom t)
      ∧ (v = false → s.burn.state.calling = false → t.burn = { s.burn with pump := false }))

/-- VALVE_SENSE_RISE outside the hold: the accumulator runs; CALLED and SATISFIED fire and count a start,
STOPPING, also one left in the same step (log entry 47), counts a start and becomes a fired call, IDLE and
INHIBITED show RUNAWAY, the recovery states change nothing else; in the hold only the level changes (R68, R70,
R72, R73, R77, R78, R80, R92). -/
def Obligations.OilValveOpening : Prop :=
  ∀ s : State, s.burnActive = true → s.inputs.valve = some false →
    (s.supply.hold = true → exec .valveSenseRise s =
      .next { s with inputs := { s.inputs with valve := some true } })
    ∧ (s.supply.hold = false → ∃ t, exec .valveSenseRise s = .next t
      ∧ s.changesOnly [.inputs, .burn, .link, .posts] t
      ∧ t.inputs = { s.inputs with valve := some true } ∧ t.burn.accRunning = true
      ∧ t.burn.accMs = s.burn.accMs
      ∧ (s.burn.state = .called ∨ s.burn.state = .satisfied → t.burn = { s.burn with
          accRunning := true, state := .firing, firedInCall := true, ignitionTimer := none
          stoppingLeft := false
          starts := (s.burn.starts + 1) % 4294967296
          proveTimer := if s.burn.proofPending then some (1000 * s.sett.working.prove) else none })
      ∧ (s.burn.met = .stopping → t.burn.state = .stopping ∧ t.burn.firedInCall = true
        ∧ (t.burn.stopTimer =
          if s.burn.state = .stopping then s.burn.stopTimer else some 10000)
        ∧ t.burn.starts = (s.burn.starts + 1) % 4294967296
        ∧ s.afterRelease (!s.burn.firedInCall) t)
      ∧ (s.burn.met = .idle ∨ s.burn.met = .inhibited →
        t.burn = { s.burn with accRunning := true, runaway := true }
        ∧ (s.burn.runaway = false → .lockout ∈ t.link.notices))
      ∧ (s.burn.state.normal = false ∨ s.burn.state = .firing →
        t.burn = { s.burn with accRunning := true }))

/-- VALVE_SENSE_FALL outside the hold and ACCUMULATOR_FULL post the whole seconds of firing, which FUEL
meters at the nozzle rate; the fall stops the accumulator, clears RUNAWAY, takes FIRING to SATISFIED and
STOPPING to rest; with VALVE_SENSE low, or the accumulator stopped, nothing is posted (R70, R72, R73, R77, R80,
R112, R123; at 60,000 ms log entry 5). -/
def Obligations.FiringTimeIsPosted : Prop :=
  ∀ s : State, s.burnActive = true →
    (s.inputs.valve = some true → s.supply.hold = true → exec .valveSenseFall s =
      .next { s with inputs := { s.inputs with valve := some false } })
    ∧ (s.inputs.valve = some true → s.supply.hold = false → ∃ t, exec .valveSenseFall s = .next t
      ∧ s.changesOnly [.inputs, .burn, .gauge, .fuel, .link, .posts] t
      ∧ t.inputs = { s.inputs with valve := some false } ∧ t.burn.accRunning = false
      ∧ t.burn.runaway = false ∧ (s.burn.runaway = true → .lockout ∈ t.link.notices)
      ∧ t.burn.accMs = s.burn.accMs % 1000
      ∧ t.burn.totalSeconds = (s.burn.totalSeconds + s.burn.accMs / 1000) % 4294967296
      ∧ t.fuel = (if s.burn.accMs < 1000 then s.fuel
        else s.fuel.posted s.sett.working.nozzle (s.burn.accMs / 1000))
      ∧ (s.burn.accMs < 1000 → t.gauge = s.gauge)
      ∧ (1000 ≤ s.burn.accMs → t.gauge = { s.gauge with metered := min (s.gauge.metered
          + (s.fuel.remainder + s.burn.accMs / 1000 * s.sett.working.nozzle) / 3600) 4294967295 })
      ∧ (s.burn.state = .firing → t.burn.state = .satisfied ∧ t.burn.proveTimer = none)
      ∧ (s.burn.state = .stopping → t.burn.stopTimer = none ∧ State.atRest
        { s with inputs := { s.inputs with valve := some false } } t)
      ∧ (s.burn.state ≠ .firing → s.burn.state ≠ .stopping → t.burn.state = s.burn.state))
    ∧ (s.burn.accRunning = true → s.inputs.valve = some true → exec .accumulatorFull s = .next { s with
        burn := { s.burn with accMs := 0, totalSeconds := (s.burn.totalSeconds + 60) % 4294967296 }
        fuel := s.fuel.posted s.sett.working.nozzle 60
        gauge := { s.gauge with metered := min (s.gauge.metered
          + (s.fuel.remainder + 60 * s.sett.working.nozzle) / 3600) 4294967295 } })
    ∧ (s.burn.accRunning = false ∨ s.inputs.valve ≠ some true → exec .accumulatorFull s = .next s)

/-- IGNITION_WINDOW_EXPIRY in CALLED: a flow known to be hot rests SATISFIED; otherwise the call ends
NO_START, with its reason, its 600 s, its notice and its record (R68, R69). The stop timer, with RUNAWAY
for the open valve; the two timed reasons, after the last of which the burner is at rest; the overrun
maximum, which ZONE is told (R66, R72, R73, R74). Each expiry acts at any remaining time (log entry 5); the
record holds the ignition window of the working set (log entry 54), and after a timed expiry no edge counts as
together with the withdrawal (log entry 47). The window's timer is stopped by the withdrawal (log entry
53). -/
def Obligations.BurnerTimersAct : Prop :=
  (∀ (n : Nat) (s : State), s.burnActive = true → s.burn.state = .called →
    s.burn.ignitionTimer = some n → s.store.ready →
    (∀ x : Int, s.flowKnown = some x → s.sett.working.satisfied ≤ x →
      exec .ignitionWindowExpiry s = .next { s with burn := { s.burn with
        state := .satisfied, ignitionTimer := none, proveTimer := none
        stoppingLeft := false } })
    ∧ ((∀ x : Int, s.flowKnown = some x → x < s.sett.working.satisfied) →
      ∃ t, exec .ignitionWindowExpiry s = .next t
        ∧ s.changesOnly [.burn, .store, .link, .posts] t ∧ s.withdrawnFrom t
        ∧ t.burn.inhibit.noStart = true ∧ t.burn.noStart = some 600000
        ∧ t.burn.lastNoStart = some (s.store.runMinute, s.flowKnown)
        ∧ .noStart ∈ t.link.notices
        ∧ t.store = s.store.appending
          (.noStart s.sett.working.ignition s.flowKnown s.burn.stage) none))
    ∧ (∀ (n : Nat) (s : State), s.burnActive = true →
    (s.burn.state = .stopping → s.burn.stopTimer = some n →
      ∃ t, exec .stopTimerExpiry s = .next t ∧ s.changesOnly [.burn, .link, .posts] t
        ∧ t.burn.stopTimer = none ∧ s.atRest t
        ∧ (s.inputs.valve = some true → t.burn.runaway = true)
        ∧ (s.inputs.valve = some true → s.burn.runaway = false → .lockout ∈ t.link.notices)
        ∧ (s.inputs.valve ≠ some true → t.burn.runaway = s.burn.runaway))
    ∧ (s.burn.antiCycle = some n → s.burn.inhibit.antiCycle = true →
      ∃ t, exec .antiCycleExpiry s = .next t ∧ s.changesOnly [.burn, .posts] t
        ∧ t.burn.antiCycle = none ∧ t.burn.stoppingLeft = false
        ∧ t.burn.inhibit = { s.burn.inhibit with antiCycle := false }
        ∧ (s.burn.state = .inhibited → s.atRest t)
        ∧ (s.burn.state ≠ .inhibited → t.burn.state = s.burn.state))
    ∧ (s.burn.noStart = some n → s.burn.inhibit.noStart = true →
      ∃ t, exec .noStartExpiry s = .next t ∧ s.changesOnly [.burn, .posts] t
        ∧ t.burn.noStart = none ∧ t.burn.stoppingLeft = false
        ∧ t.burn.inhibit = { s.burn.inhibit with noStart := false }
        ∧ (s.burn.state = .inhibited → s.atRest t)
        ∧ (s.burn.state ≠ .inhibited → t.burn.state = s.burn.state))
    ∧ (s.burn.overrunTimer = some n → s.burn.overrun = true →
      exec .overrunTimerExpiry s = .next { s with
        burn := { s.burn with overrun := false, overrunTimer := none, stoppingLeft := false }
        posts := { s.posts with overrun := s.posts.overrun ++ [false] } }))

/-! ## Lockouts and their recovery (Chapter 5) -/

/-- LOCKOUT_SENSE_RISE: in a normal state outside the hold the burner is LOCKED with Table 4-4's cause,
STARVATION_SUSPECT on RESERVE or DRY, its notice and its LOCKOUT record; with proof pending it is a relock,
which counts and ends a BURNER_RESET task that waits on proof REJECTED with reason RELOCK (R75, R84, R99); a
record STORE has no place for is HELD with reason STORE, the record owed (R85, R141). The lamp together with a
withdrawal finds STOPPING (log entry 47). In LOCKED and RECORDING a rise clears dark waiting; elsewhere, and
in the hold, only the level changes. -/
def Obligations.LampLighting : Prop :=
  ∀ s : State, s.burnActive = true → s.inputs.lockout = some false →
    (s.supply.hold = true ∨ s.burn.state = .cooldown ∨ s.burn.state = .held
        ∨ s.burn.state = .latched ∨ (s.burn.state = .resetting ∧ s.burn.resetPhase ≠ .recording)
        ∨ (s.burn.state = .locked ∧ s.burn.lockStep = .awaitMains) → s.store.answers = [] →
      exec .lockoutSenseRise s = .next { s with inputs := { s.inputs with lockout := some true } })
    ∧ (s.supply.hold = false → s.store.answers = [] →
      (s.burn.state = .locked ∧ s.burn.lockStep = .awaitRecord)
        ∨ (s.burn.state = .resetting ∧ s.burn.resetPhase = .recording) →
      exec .lockoutSenseRise s = .next { s with
        inputs := { s.inputs with lockout := some true }
        burn := { s.burn with darkWaiting := false } })
    ∧ (s.supply.hold = false → s.burn.state.normal = true → s.recordsClear →
      ∃ t, exec .lockoutSenseRise s = .next t
        ∧ s.changesOnly [.inputs, .burn, .store, .link, .posts] t
        ∧ t.inputs = { s.inputs with lockout := some true }
        ∧ t.burn.state = .locked ∧ t.burn.lockStep = .awaitRecord ∧ t.burn.answer = .none
        ∧ t.burn.ignitionTimer = none ∧ t.burn.stopTimer = none
        ∧ t.burn.pressWaiting = false ∧ t.burn.darkWaiting = false
        ∧ t.burn.attendedOwed = false ∧ .lockout ∈ t.link.notices
        ∧ t.posts.demand[0] = s.posts.demand[0] ++ (if s.burn.state.calling then [false] else [])
        ∧ (s.burn.proofPending = false ∨ (∀ o, s.burn.task ≠ some ⟨o, .proving⟩) →
          t.burn.task = s.burn.task ∧ t.burn.proofLimit = s.burn.proofLimit ∧ t.link.slot = s.link.slot)
        ∧ (∀ cause : LockCause,
          cause = (if s.burn.stage = .reserve ∨ s.burn.stage = .dry then .starvation
            else if s.burn.state = .called then .ignitionFail
            else if s.burn.met = .idle ∨ s.burn.met = .inhibited then .unknown
            else .flameLoss) →
          t.burn.newest =
            some ⟨cause, some s.burn.met, s.burn.stage, s.burn.proofPending⟩
          ∧ (s.burn.proofPending = false → t.burn.relock = s.burn.relock ∧ t.store =
            s.store.appending (.lockout cause (some s.burn.met) s.burn.stage false)
              (some (.lockout (s.burn.lockouts + 1))))
          ∧ (s.burn.proofPending = true → t.burn.relock = min (s.burn.relock + 1) 2
            ∧ t.burn.proofPending = false ∧ t.burn.proveTimer = none
            ∧ (∀ o k serial, s.burn.task = some ⟨o, .proving⟩ → s.link.slot = some (k, serial) →
              t.burn.task = none ∧ t.burn.proofLimit = none ∧ t.taskEnded k serial .rejected .relock)
            ∧ t.store.array = .programming (.append (s.store.recordOf
              (.lockout cause (some s.burn.met) s.burn.stage true)) none)
            ∧ t.store.queue =
              [⟨.lockout cause (some s.burn.met) s.burn.stage true,
                some (.lockout (s.burn.lockouts + 1))⟩,
               ⟨.outcome .relock (min (s.burn.relock + 1) 2) s.burn.pendingOrigin, some .closing⟩]))
        ∧ (s.burn.state = .firing ∨ s.burn.state = .satisfied
            ∨ (s.burn.met = .stopping ∧ s.burn.firedInCall = true) →
          (∃ x : Int, s.flowKnown = some x ∧ x < s.sett.working.overTemp) ∧ t.burn.overrun = false
          ∨ (∀ x : Int, s.flowKnown = some x → s.sett.working.overTemp ≤ x) ∧ t.burn.overrun = true))
    ∧ (s.supply.hold = false → s.burn.state.normal = true → s.store.packed → s.burn.owed = [] →
      s.burn.asks = [] → s.burn.proofPending = false →
      ∃ t, exec .lockoutSenseRise s = .next t ∧ t.burn.state = .held
        ∧ t.burn.heldReason = .store ∧ t.burn.lockoutOwed = true ∧ t.burn.answer = .refused
        ∧ .lockout ∈ t.link.notices ∧ .held ∈ t.link.notices ∧ t.store = s.store)

/-- LOCKOUT_SENSE_FALL outside the hold: in COOLDOWN and in HELD an external reset with proof pending, in
HELD with a lockout record owed after that record is asked again, or the latch it calls for; in LOCKED and
RECORDING dark waiting; in CHECK the reset's success; in LATCHED and the normal states nothing but the level
(R84, R88, R89, R94, R95). -/
def Obligations.LampGoingDark : Prop :=
  ∀ s : State, s.burnActive = true → s.inputs.lockout = some true → s.store.answers = [] →
    (s.supply.hold = true ∨ s.burn.state = .latched ∨ s.burn.state.normal = true
        ∨ (s.burn.state = .resetting ∧ s.burn.resetPhase = .pulse)
        ∨ (s.burn.state = .locked ∧ s.burn.lockStep = .awaitMains) →
      exec .lockoutSenseFall s = .next { s with inputs := { s.inputs with lockout := some false } })
    ∧ (s.supply.hold = false →
      (s.burn.state = .locked ∧ s.burn.lockStep = .awaitRecord)
        ∨ (s.burn.state = .resetting ∧ s.burn.resetPhase = .recording) →
      exec .lockoutSenseFall s = .next { s with
        inputs := { s.inputs with lockout := some false }
        burn := { s.burn with darkWaiting := true } })
    ∧ (s.supply.hold = false → s.burn.state = .resetting → s.burn.resetPhase = .check →
      ∃ t, exec .lockoutSenseFall s = .next t ∧ s.changesOnly [.inputs, .burn, .posts] t
        ∧ t.inputs = { s.inputs with lockout := some false } ∧ s.atRest t
        ∧ t.burn.checkTimer = none ∧ t.burn.proofPending = true
        ∧ t.burn.pendingOrigin = some s.burn.resetOrigin ∧ t.burn.relock = s.burn.relock)
    ∧ (s.supply.hold = false → s.burn.state = .cooldown
        ∨ (s.burn.state = .held ∧ s.burn.lockoutOwed = false) → s.recordsClear →
      ∃ t, exec .lockoutSenseFall s = .next t
        ∧ s.changesOnly [.inputs, .burn, .store, .link, .posts] t
        ∧ t.inputs = { s.inputs with lockout := some false } ∧ s.atRest t
        ∧ t.burn.cooldown = none ∧ t.burn.attendedOwed = false ∧ t.burn.proofPending = true
        ∧ t.burn.pendingOrigin = some .external
        ∧ t.store = s.store.appending (.reset .external true s.burn.window.length) (some .closing)
        ∧ (s.burn.task ≠ none → t.burn.proofLimit = some 60))
    ∧ (∀ l, s.supply.hold = false → s.burn.state = .held → s.burn.lockoutOwed = true →
      s.burn.lockoutAsked = false → s.burn.newest = some l → s.recordsClear →
      ∀ p : Payload, p = .lockout l.cause l.left l.stage l.wasPending →
      (∀ why, (l.cause = .starvation ∧ why = .starvation)
          ∨ (l.cause ≠ .starvation ∧ l.wasPending = true ∧ s.burn.relock = 2 ∧ why = .relock) →
        ∃ t, exec .lockoutSenseFall s = .next t ∧ t.burn.state = .latched
          ∧ t.burn.latchReason = some why ∧ .latch ∈ t.link.notices
          ∧ t.store.queue = [⟨p, some (.lockout s.burn.lockouts)⟩,
            ⟨.latch why s.burn.relock, some .closing⟩])
      ∧ (l.cause ≠ .starvation → l.wasPending = false ∨ s.burn.relock ≠ 2 →
        ∃ t, exec .lockoutSenseFall s = .next t ∧ s.atRest t ∧ t.burn.proofPending = true
          ∧ t.burn.pendingOrigin = some .external
          ∧ t.store.queue = [⟨p, some (.lockout s.burn.lockouts)⟩,
            ⟨.reset .external true s.burn.window.length, some .closing⟩]))

/-- COOLDOWN_EXPIRY: the first case of R86 that holds begins a reset or rests in HELD; a waiting task is
served or, its test failed, rejected (R86, R98; with both tests failed KEY_REQUIRED, log entry 57). A reset
begins without dark waiting (DESIGN CHOICE, log entry 56). A RESET
record STORE has no place for leaves HELD with reason STORE, without a pulse (R88, R141). -/
def Obligations.CooldownExpiryDecides : Prop :=
  (∀ (s : State) (o : Origin), s.burnActive = true → s.burn.state = .cooldown →
    s.burn.cooldown = some 0 → s.store.packed → s.burn.owed = [] → s.burn.asks = [] →
    s.burn.lockoutOwed = false → s.burn.abandonWait = none → s.inputs.lockout = some true →
    (s.burn.attendedOwed = true ∧ o = .attended)
      ∨ (s.burn.attendedOwed = false ∧ s.burn.task = none ∧ s.sett.working.authority = .openToAll
        ∧ s.burn.window.length < s.sett.working.budget ∧ o = .auto) →
    ∃ t, exec .cooldownExpiry s = .next t ∧ t.burn.state = .held ∧ t.burn.heldReason = .store
      ∧ t.burn.resetOrigin = o ∧ .held ∈ t.link.notices ∧ t.store = s.store
      ∧ t.burn.window = s.burn.window ∧ t.posts.demand = s.posts.demand)
  ∧ ∀ s : State, s.burnActive = true → s.burn.state = .cooldown → s.burn.cooldown = some 0 →
    s.recordsClear → s.burn.lockoutOwed = false →
    ∃ t, exec .cooldownExpiry s = .next t ∧ s.changesOnly [.burn, .store, .link, .posts] t
      ∧ (s.burn.attendedOwed = true → s.resetBegun t .attended)
      ∧ (s.burn.attendedOwed = false → s.burn.task = none →
        (s.sett.working.authority = .openToAll → s.burn.window.length < s.sett.working.budget →
          s.resetBegun t .auto)
        ∧ (s.sett.working.authority = .openToAll → s.sett.working.budget ≤ s.burn.window.length →
          t.burn.state = .held ∧ t.burn.heldReason = .budget ∧ .held ∈ t.link.notices)
        ∧ (s.sett.working.authority ≠ .openToAll →
          t.burn.state = .held ∧ t.burn.heldReason = .awaitOrder ∧ .held ∈ t.link.notices))
      ∧ (∀ g, s.burn.attendedOwed = false → s.burn.task = some ⟨.attended, g⟩ →
        s.resetBegun t .attended ∧ t.burn.task = some ⟨.attended, .serving⟩)
      ∧ (∀ g serial, s.burn.attendedOwed = false → s.burn.task = some ⟨.host, g⟩ →
        s.link.slot = some (.burnerReset, serial) →
        (s.sett.working.authority ≠ .attended → s.burn.window.length < s.sett.working.budget →
          s.resetBegun t .host ∧ t.burn.task = some ⟨.host, .serving⟩)
        ∧ (s.sett.working.authority = .attended →
          t.taskEnded .burnerReset serial .rejected .keyRequired ∧ t.burn.task = none
          ∧ t.burn.state = .held ∧ t.burn.heldReason = .awaitOrder)
        ∧ (s.sett.working.authority ≠ .attended → s.sett.working.budget ≤ s.burn.window.length →
          t.taskEnded .burnerReset serial .rejected .budget ∧ t.burn.task = none
          ∧ t.burn.state = .held ∧ (t.burn.heldReason = .budget ↔
            s.sett.working.authority = .openToAll)))

/-- PULSE_TIMER_EXPIRY and CHECK_TIMER_EXPIRY: CH1 is released; a dark lamp at the pulse's end is success, a
lit one waits in CHECK; still lit there the reset has failed, counts toward the latch and goes to COOLDOWN or
LATCHED with its records (R89, R90, R95), which are owed in their order when STORE has no place (R91). A failed
reset leaves the proof-pending mark as it is: clear, as R90 says, but for one restored at a start in LATCHED
that an ACK left set, which is the model's choice (log entry 92). Both timers act at any remaining time (log
entry 5). -/
def Obligations.ResetPulseAndCheck : Prop :=
  ∀ (n : Nat) (s : State), s.burnActive = true → s.burn.state = .resetting →
    (s.burn.resetPhase = .pulse → s.burn.pulseTimer = some n → s.store.answers = [] →
      (s.inputs.lockout = some true → exec .pulseTimerExpiry s = .next { s with
        burn := { s.burn with pulseTimer := none, resetPhase := .check, checkTimer := some 5000 }
        posts := { s.posts with demand := s.posts.demand.set 1 (s.posts.demand[1] ++ [false]) } })
      ∧ (s.inputs.lockout ≠ some true → ∃ t, exec .pulseTimerExpiry s = .next t
        ∧ s.changesOnly [.burn, .posts] t ∧ s.atRest t
        ∧ t.posts.demand[1] = s.posts.demand[1] ++ [false] ∧ t.burn.pulseTimer = none
        ∧ t.burn.proofPending = true ∧ t.burn.pendingOrigin = some s.burn.resetOrigin))
    ∧ (s.burn.resetPhase = .check → s.burn.checkTimer = some n → s.burn.pulseTimer = none →
      s.recordsClear →
      ∃ t, exec .checkTimerExpiry s = .next t ∧ s.changesOnly [.burn, .store, .link, .posts] t
        ∧ t.burn.checkTimer = none ∧ t.burn.relock = min (s.burn.relock + 1) 2
        ∧ t.burn.proofPending = s.burn.proofPending
        ∧ (∀ tk serial, s.burn.task = some tk → s.link.slot = some (.burnerReset, serial) →
          t.burn.task = none ∧ t.taskEnded .burnerReset serial .rejected .resetFailed)
        ∧ (s.burn.relock = 0 → t.burn.state = .cooldown
          ∧ t.burn.cooldown = some s.sett.working.cooldown
          ∧ t.store = s.store.appending (.outcome .resetFailed 1 (some s.burn.resetOrigin))
            (some .closing))
        ∧ (1 ≤ s.burn.relock → t.burn.state = .latched ∧ t.burn.latchReason = some .relock
          ∧ .latch ∈ t.link.notices ∧ t.store.queue =
            [⟨.outcome .resetFailed 2 (some s.burn.resetOrigin), some .closing⟩,
             ⟨.latch .relock 2, some .closing⟩]))
    ∧ (s.burn.resetPhase = .check → s.burn.checkTimer = some n → s.store.packed →
      s.burn.owed = [] → s.burn.asks = [] →
      ∃ t, exec .checkTimerExpiry s = .next t ∧ t.store = s.store
        ∧ (s.burn.relock = 0 → t.burn.state = .cooldown
          ∧ t.burn.owed = [.outcome .resetFailed 1 (some s.burn.resetOrigin)])
        ∧ (1 ≤ s.burn.relock → t.burn.state = .latched ∧ t.burn.owed =
          [.outcome .resetFailed 2 (some s.burn.resetOrigin), .latch .relock 2]))

/-- PROVE_TIMER_EXPIRY proves the reset, with its record, its notice and its task DONE; PROOF_LIMIT_EXPIRY
ends the task alone; WINDOW_STAMP_EXPIRY ages the list, and a HELD for want of budget begins its reset with it
(R83, R87, R92, R99; the prove timer at any remaining time, log entry 5; dark waiting cleared at the reset,
DESIGN CHOICE, log entry 56). HELD with reason AWAIT_ORDER is not stated here. -/
def Obligations.ProofAndItsLimits : Prop :=
  ∀ (n : Nat) (s : State), s.burnActive = true →
    (s.burn.state = .firing → s.burn.proofPending = true → s.burn.proveTimer = some n →
      s.recordsClear →
      ∃ t, exec .proveTimerExpiry s = .next t ∧ s.changesOnly [.burn, .store, .link] t
        ∧ t.burn.state = .firing ∧ t.burn.proofPending = false ∧ t.burn.pendingOrigin = none
        ∧ t.burn.proveTimer = none ∧ t.burn.relock = 0
        ∧ t.burn.lastProof = some (s.store.runMinute, s.burn.pendingOrigin)
        ∧ .recovered ∈ t.link.notices
        ∧ t.store = s.store.appending (.outcome .recovered 0 s.burn.pendingOrigin) (some .closing)
        ∧ (∀ o serial, s.burn.task = some ⟨o, .proving⟩ →
          s.link.slot = some (.burnerReset, serial) →
          t.burn.task = none ∧ t.taskEnded .burnerReset serial .done .recovered))
    ∧ (∀ tk serial, s.burn.task = some tk → s.burn.proofLimit = some 0 →
      s.link.slot = some (.burnerReset, serial) →
      ∃ t, exec .proofLimitExpiry s = .next t ∧ s.changesOnly [.burn, .link] t
        ∧ t.burn = { s.burn with task := none, proofLimit := none }
        ∧ t.taskEnded .burnerReset serial .timedOut .proof)
    ∧ (∀ old young, s.burn.window = old :: young → 1440 ≤ s.store.runMinute - old →
      (∀ x ∈ young, s.store.runMinute - x < 1440) → s.store.answers = [] →
      (s.burn.state ≠ .held → exec .windowStampExpiry s =
        .next { s with burn := { s.burn with window := young } })
      ∧ (s.burn.state = .held → s.burn.heldReason = .budget → s.supply.hold = false →
        s.sett.working.authority = .openToAll → young.length < s.sett.working.budget →
        s.recordsClear → s.burn.lockoutOwed = false →
        ∃ t, exec .windowStampExpiry s = .next t
          ∧ State.resetBegun { s with burn := { s.burn with window := young } } t .auto))

/-- BURNER_RESET as Table 5-5 answers it; taken in HELD its reset begins at once, in LOCKED and COOLDOWN
the task waits (R88, R97, R98, R166; dark waiting cleared at the reset, DESIGN CHOICE, log entry 56). -/
def Obligations.BurnerResetActsByItsTable : Prop :=
  ∀ s : State, s.takes → s.link.slot = none →
    (∀ why : ReasonCode,
      (s.burn.state = .latched ∧ why = .latched)
      ∨ (s.burn.state ≠ .latched ∧ s.supply.hold = true ∧ why = .supply)
      ∨ (s.supply.hold = false ∧ s.burn.state.normal = true ∧ why = .notLocked)
      ∨ (s.supply.hold = false ∧ s.burn.state = .resetting ∧ why = .notNow)
      ∨ (s.supply.hold = false ∧ (s.burn.state = .locked ∨ s.burn.state = .cooldown
          ∨ s.burn.state = .held) ∧ s.inputs.key ≠ some true
        ∧ ((s.sett.working.authority = .attended ∧ why = .keyRequired)
          ∨ (s.sett.working.authority ≠ .attended
            ∧ s.sett.working.budget ≤ s.burn.window.length ∧ why = .budget))) →
      exec (.burnerReset []) s = .next (s.replied (plainReply 0x0C .refused why [])))
    ∧ (∀ o : Origin, s.supply.hold = false →
      (s.inputs.key = some true ∧ o = .attended)
        ∨ (s.inputs.key ≠ some true ∧ s.sett.working.authority ≠ .attended
          ∧ s.burn.window.length < s.sett.working.budget ∧ o = .host) →
      (s.burn.state = .locked ∨ s.burn.state = .cooldown →
        exec (.burnerReset []) s = .next (State.replied { s with
          link := { s.link with
            serial := (s.link.serial + 1) % 65536
            slot := some (.burnerReset, (s.link.serial + 1) % 65536) }
          burn := { s.burn with task := some ⟨o, .waiting⟩ } }
          (plainReply 0x0C .taken .none (byte16 ((s.link.serial + 1) % 65536)))))
      ∧ (s.burn.state = .held → ∃ t, exec (.burnerReset []) s = .next t
        ∧ s.answered t (plainReply 0x0C .taken .none (byte16 ((s.link.serial + 1) % 65536)))
        ∧ (s.recordsClear → s.burn.lockoutOwed = false → s.resetBegun t o
          ∧ t.burn.task = some ⟨o, .serving⟩
          ∧ t.link.slot = some (.burnerReset, (s.link.serial + 1) % 65536))))

/-! ## The panel (Chapter 12) -/

/-- LOCAL_RESET_RELEASE from TIMING gives a PRESS: in COOLDOWN or HELD a LOCAL reset begins at once, whatever
budget, authority and key; in LOCKED it waits for the record's answer; elsewhere it changes nothing (R93).
Table 12-1's other rows: the press edge, the three seconds with and without the key, the release after an ACK
or from BLOCKED, and the key's edges; an ACK asks for its record in LATCHED and changes nothing elsewhere
(R96, R180, R181; the hold timer at any remaining time, log entry 5; dark waiting cleared at the reset, DESIGN
CHOICE, log entry 56; an ACK before BURN's derivation lost, DESIGN CHOICE, log entry 84). A PRESS in
SUPPLY_HOLD is not stated. -/
def Obligations.PanelFollowsItsTable : Prop :=
  (∀ s : State, s.burnActive = true → s.inputs.localReset = some true → s.svc.press = .timing →
    s.supply.hold = false → s.store.answers = [] →
    (s.burn.state = .cooldown ∨ s.burn.state = .held → s.recordsClear → s.burn.lockoutOwed = false →
      ∃ t, exec .localResetRelease s = .next t
        ∧ s.changesOnly [.inputs, .svc, .burn, .store, .posts] t
        ∧ s.resetBegun t .localPress ∧ t.svc = ⟨.idle, none⟩
        ∧ (∀ o g, s.burn.task = some ⟨o, g⟩ → t.burn.task = some ⟨o, .serving⟩))
    ∧ (s.burn.state = .locked → s.burn.lockStep = .awaitRecord →
      exec .localResetRelease s = .next { s with
        inputs := { s.inputs with localReset := some false }, svc := ⟨.idle, none⟩
        burn := { s.burn with pressWaiting := true } })
    ∧ ((s.burn.state = .locked ∧ s.burn.lockStep = .awaitMains) ∨ s.burn.state = .resetting
        ∨ s.burn.state = .latched ∨ s.burn.state.normal = true →
      exec .localResetRelease s = .next { s with
        inputs := { s.inputs with localReset := some false }, svc := ⟨.idle, none⟩ }))
    ∧ (∀ s : State, s.phase ≠ .unpowered → s.phase ≠ .released →
    (s.inputs.localReset = some false →
      exec .localResetPress s = .next { s with
        inputs := { s.inputs with localReset := some true }
        svc := if s.svc.press = .idle then ⟨.timing, some 3000⟩ else s.svc })
    ∧ (s.inputs.localReset = some true → s.svc.press ≠ .timing →
      exec .localResetRelease s = .next { s with
        inputs := { s.inputs with localReset := some false }, svc := ⟨.idle, none⟩ })
    ∧ (∀ v, s.inputs.key = some v →
      exec .serviceKeyEdge s = .next { s with inputs := { s.inputs with key := some (!v) } })
    ∧ (∀ n, s.svc.press = .timing → s.svc.holdTimer = some n →
      (s.inputs.key ≠ some true → exec .holdTimerExpiry s = .next { s with svc := ⟨.timing, none⟩ })
      ∧ (s.inputs.key = some true → s.store.answers = [] →
        (s.burnActive = false ∨ s.burn.state ≠ .latched ∨ s.burn.ackAwaited = true →
          exec .holdTimerExpiry s = .next { s with svc := ⟨.ackGiven, none⟩ })
        ∧ (∀ r, s.burnActive = true → s.burn.state = .latched → s.burn.ackAwaited = false →
          s.burn.latchReason = some r → s.recordsClear →
          exec .holdTimerExpiry s = .next { s with
            svc := ⟨.ackGiven, none⟩
            burn := { s.burn with ackAwaited := true }
            store := s.store.appending (.ack r) (some .ack) }))))

/-! ## The tank gauge (Chapter 6) -/

/-- DUE_PASS (R105 to R115): under MEASURE_FAULT no sample; a FAULTY count is counted, and the third in a
row is the fault; a GOOD one joins the window by the depth R107 gives, and a full window gives the
median, V, V15, the GOOD value and the end of a fault; while the fault stands each due pass gives an
estimate. FUEL acts on a GOOD value: a rebase while one is awaited, settling begun, counted and finished, and
the stage with its hysteresis (R125, R129 to R131). -/
def Obligations.DuePassTakesTheSample : Prop :=
  ∀ (c : Nat) (mf : Bool) (s : State), s.running = true → s.gauge.due = some (c, mf) →
    s.gauge.window.length ≤ 5 →
    ∃ t, exec .duePass s = .next t ∧ s.changesOnly [.gauge, .fuel, .store, .link, .sett, .posts] t
      ∧ t.gauge.due = none ∧ t.gauge.counter = s.gauge.counter
      ∧ (t.gauge.fault = true → t.gauge.offered = s.gauge.basis - s.gauge.metered / 100
        ∧ t.gauge.status = .estimate ∧ t.gauge.basis = s.gauge.basis
        ∧ t.fuel.value = t.gauge.offered ∧ t.fuel.status = .estimate)
      ∧ (mf = true → t.gauge.fault = s.gauge.fault ∧ t.gauge.window = s.gauge.window
        ∧ t.gauge.latest = s.gauge.latest ∧ t.gauge.faulty = s.gauge.faulty
        ∧ (s.gauge.fault = false → t = { s with gauge := { s.gauge with due := none } }))
      ∧ (mf = false → (c + 100 < s.sett.working.zeroCount ∨ 4090 < c) →
        t.gauge.latest = some ⟨c, none⟩
        ∧ (s.gauge.fault = false → s.gauge.faulty < 2 → t = { s with gauge := { s.gauge with
            due := none, latest := some ⟨c, none⟩, faulty := s.gauge.faulty + 1 } })
        ∧ (s.gauge.fault = false → 2 ≤ s.gauge.faulty → t.gauge.fault = true
          ∧ t.gauge.cause = .probe ∧ t.gauge.window = [] ∧ t.gauge.faulty = 0
          ∧ t.gauge.filtered = none ∧ t.gauge.vol = none ∧ t.gauge.v15 = none
          ∧ t.fuel.ungauged = true
          ∧ t.fuel.settling = none ∧ .gauge ∈ t.link.notices)
        ∧ (s.gauge.fault = true → t.gauge.fault = true ∧ t.gauge.window = []
          ∧ t.gauge.faulty = s.gauge.faulty))
      ∧ (mf = false → s.sett.working.zeroCount ≤ c + 100 → c ≤ 4090 →
        ∃ d, t.gauge.latest = some ⟨c, some d⟩ ∧ t.gauge.faulty = 0
          ∧ (c ≤ s.sett.working.zeroCount → d = 0)
          ∧ (s.sett.working.zeroCount < c → s.sett.working.fullCount ≤ c →
            d = s.sett.working.fullDepth)
          ∧ (∀ f, f = s.sett.working.fullCount - s.sett.working.zeroCount →
            s.sett.working.zeroCount < c → c < s.sett.working.fullCount →
            d = (2 * ((c - s.sett.working.zeroCount) * s.sett.working.fullDepth) + f) / (2 * f))
          ∧ t.gauge.window =
            (if s.gauge.window.length = 5 then s.gauge.window.tail else s.gauge.window) ++ [d]
          ∧ (s.gauge.window.length < 4 → t.gauge.fault = s.gauge.fault
            ∧ (s.gauge.fault = false → t.fuel = s.fuel ∧ t.gauge.offered = s.gauge.offered))
          ∧ (4 ≤ s.gauge.window.length → t.gauge.fault = false
            ∧ (s.gauge.fault = true → t.gauge.cause = .none ∧ .gauge ∈ t.link.notices)
            ∧ ∃ (m v x : Nat) (T : Int),
              t.gauge.filtered = some m ∧ t.gauge.vol = some v ∧ t.gauge.v15 = some x
              ∧ t.gauge.usedTemp = (T, s.scan.tankTemp.state)
              ∧ t.gauge.offered = x ∧ t.gauge.status = .good ∧ t.gauge.basis = x
              ∧ t.gauge.basisGood = true ∧ t.gauge.metered = 0
              ∧ t.fuel.value = x ∧ t.fuel.status = .good ∧ s.fuelActed t x
              ∧ m ∈ t.gauge.window ∧ 3 ≤ (t.gauge.window.filter (fun y => decide (y ≤ m))).length
              ∧ 3 ≤ (t.gauge.window.filter (fun y => decide (m ≤ y))).length
              ∧ tableGives s.sett.working.table m v ∧ degreesOf s.gauge.heldTemp T
              ∧ compensatedTo s.sett.working.coeff v T x))

/-- The table load: TABLE_BEGIN as Table 6-7, TABLE_ROWS as Table 6-8 and TABLE_END as Table 6-9 answer
it, and the inactivity timer's end of it, at any remaining time (R116 to R119; log entry 5). A replaced table
gives V from the filtered depth that stands and V15 from it, with the temperature held (R106, R110, R111,
R118). -/
def Obligations.TableLoadFollowsItsTables : Prop :=
  ∀ s : State,
    (s.takes → ∀ n lo hi : Byte, (s.link.slot = none ∨ ∃ k, s.link.slot = some (.tableLoad, k)) →
      (s.inputs.key ≠ some true → exec (.tableBegin [n, lo, hi]) s =
        .next (s.replied (plainReply 0x0E .refused .keyRequired [])))
      ∧ (s.inputs.key = some true → (n.toNat < 2 ∨ 40 < n.toNat) →
        exec (.tableBegin [n, lo, hi]) s =
          .next (s.replied (plainReply 0x0E .refused .badValue [])))
      ∧ (s.inputs.key = some true → 2 ≤ n.toNat → n.toNat ≤ 40 →
        ∀ load : TableLoad, load = ⟨n.toNat, lo.toNat + 256 * hi.toNat, List.replicate 40 none,
          some 60000⟩ →
        (s.link.slot = none → exec (.tableBegin [n, lo, hi]) s = .next (State.replied
          { s with
            gauge := { s.gauge with load := some load }
            link := { s.link with
              serial := (s.link.serial + 1) % 65536
              slot := some (.tableLoad, (s.link.serial + 1) % 65536) } }
          (plainReply 0x0E .taken .none (byte16 ((s.link.serial + 1) % 65536)))))
        ∧ (s.link.slot ≠ none → exec (.tableBegin [n, lo, hi]) s = .next (State.replied
          { s with gauge := { s.gauge with load := some load } } (plainReply 0x0E .ok .none [])))))
    ∧ (s.takes → ∀ (first : Byte) (ps : List Point),
      (∀ p ∈ ps, p.depth < 65536 ∧ p.volume < 65536) → ps.length ≤ 29 →
      ∀ bytes, bytes = first :: ps.flatMap (fun p => byte16 p.depth ++ byte16 p.volume) →
      ((∀ k, s.link.slot ≠ some (.tableLoad, k)) →
        exec (.tableRows bytes) s = .next (s.replied (plainReply 0x0F .refused .notNow [])))
      ∧ ∀ (k : Nat) (l : TableLoad), s.link.slot = some (.tableLoad, k) → s.gauge.load = some l →
        ((ps = [] ∨ 20 < ps.length ∨ l.expected < first.toNat + ps.length
            ∨ ∃ p ∈ ps, 4000 < p.depth) →
          exec (.tableRows bytes) s = .next (s.replied (plainReply 0x0F .refused .badValue [])))
        ∧ (ps ≠ [] → ps.length ≤ 20 → first.toNat + ps.length ≤ l.expected →
          l.expected ≤ l.slots.length → (∀ p ∈ ps, p.depth ≤ 4000) →
          exec (.tableRows bytes) s = .next (State.replied
            { s with gauge := { s.gauge with load := some { l with
              timer := some 60000
              slots := l.slots.take first.toNat ++ ps.map some
                ++ l.slots.drop (first.toNat + ps.length) } } }
            (plainReply 0x0F .ok .none [BitVec.ofNat 8
              ((l.slots.take first.toNat ++ ps.map some
                ++ l.slots.drop (first.toNat + ps.length)).filter Option.isSome).length]))))
    ∧ (s.takes → (∀ k, s.link.slot ≠ some (.tableLoad, k)) →
      exec (.tableEnd []) s = .next (s.replied (plainReply 0x10 .refused .notNow [])))
    ∧ (∀ (k : Nat) (l : TableLoad), s.link.slot = some (.tableLoad, k) → s.gauge.load = some l →
      (s.takes → l.expected ≤ l.slots.length → ∃ t, exec (.tableEnd []) s = .next t
        ∧ s.answered t (plainReply 0x10 .ok .none []) ∧ t.gauge.load = none
        ∧ t.gauge.window = s.gauge.window ∧ t.gauge.fault = s.gauge.fault
        ∧ (none ∈ l.slots.take l.expected →
          t.taskEnded .tableLoad k .rejected .missing ∧ t.sett = s.sett ∧ t.fuel = s.fuel)
        ∧ (∀ ps : List Point, l.slots.take l.expected = ps.map some →
          (¬ ps.Pairwise (fun p q => p.depth < q.depth ∧ p.volume ≤ q.volume) →
            t.taskEnded .tableLoad k .rejected .order ∧ t.sett = s.sett ∧ t.fuel = s.fuel)
          ∧ (ps.Pairwise (fun p q => p.depth < q.depth ∧ p.volume ≤ q.volume) →
            ((ps.map fun p => p.depth + p.volume).sum % 65536 ≠ l.check →
              t.taskEnded .tableLoad k .rejected .check ∧ t.sett = s.sett ∧ t.fuel = s.fuel)
            ∧ ((ps.map fun p => p.depth + p.volume).sum % 65536 = l.check →
              t.taskEnded .tableLoad k .done .none
              ∧ t.sett = { s.sett with
                working := { s.sett.working with table := ps }, changed := true }
              ∧ (s.gauge.filtered = none → t.gauge.vol = none ∧ t.gauge.v15 = none
                ∧ t.fuel.awaiting = .table ∧ t.gauge.basis = s.gauge.basis)
              ∧ (∀ d, s.gauge.filtered = some d → ∃ (v x : Nat) (T : Int),
                t.gauge.vol = some v ∧ t.gauge.v15 = some x
                ∧ t.gauge.usedTemp = (T, s.scan.tankTemp.state)
                ∧ tableGives ps d v ∧ degreesOf s.gauge.heldTemp T
                ∧ compensatedTo s.sett.working.coeff v T x
                ∧ t.gauge.offered = x ∧ t.gauge.status = .good ∧ t.gauge.basis = x
                ∧ t.gauge.basisGood = true ∧ t.gauge.metered = 0
                ∧ t.fuel.value = x ∧ t.fuel.status = .good ∧ t.fuel.reference = x
                ∧ t.fuel.meter = 0 ∧ t.fuel.awaiting = .none ∧ t.fuel.settling = none)))))
      ∧ (s.running = true → ∃ t, exec .inactivityTimerExpiry s = .next t
        ∧ s.changesOnly [.gauge, .link] t ∧ t.gauge = { s.gauge with load := none }
        ∧ t.taskEnded .tableLoad k .timedOut .inactive))

/-! ## The fuel account (Chapter 7) -/

/-- PERIOD_END: deferred while settling, gauged with its D, its records and its new reference, else
ungauged; SETTLING_TIMEOUT finishes settling with the previous value; CLEAR_LEAK clears the flag (R126 to
R130). -/
def Obligations.FuelAccountIsKept : Prop :=
  ∀ s : State, s.running = true → s.store.ready →
    (s.fuel.periodTimer = 0 → s.fuel.deferred = false →
      (s.fuel.settling ≠ none →
        exec .periodEnd s = .next { s with fuel := { s.fuel with deferred := true } })
      ∧ (s.fuel.settling = none → (s.fuel.ungauged = true ∨ s.fuel.awaiting ≠ .none
          ∨ s.fuel.refGood = false ∨ s.fuel.status ≠ .good) →
        exec .periodEnd s = .next { s with fuel := { s.fuel with
          lastD := none, periodTimer := 60 * s.sett.working.period, ungauged := s.gauge.fault } })
      ∧ (s.fuel.settling = none → s.fuel.ungauged = false → s.fuel.awaiting = .none →
        s.fuel.refGood = true → s.fuel.status = .good →
        ∃ t, exec .periodEnd s = .next t ∧ s.changesOnly [.fuel, .store, .link] t
          ∧ ∀ d : Int, d = ((s.fuel.reference : Int) - s.fuel.value) * 100 - s.fuel.meter →
            t.fuel.lastD = some d ∧ t.fuel.reference = s.fuel.value
            ∧ t.fuel.refStamp = s.store.runMinute ∧ t.fuel.refGood = true ∧ t.fuel.meter = 0
            ∧ t.fuel.remainder = s.fuel.remainder ∧ t.fuel.value = s.fuel.value
            ∧ t.fuel.periodTimer = 60 * s.sett.working.period ∧ t.fuel.deferred = false
            ∧ t.fuel.ungauged = s.gauge.fault
            ∧ (s.sett.working.leak = 0 ∨ d ≤ 1000 * s.sett.working.leak ∨ s.fuel.leakCount = 0 →
              t.store = s.store.appending
                (.gauge s.fuel.value s.fuel.meter s.fuel.reference s.fuel.lifetime) none
              ∧ t.fuel.leakFlag = s.fuel.leakFlag ∧ t.link = s.link
              ∧ t.fuel.leakCount = (if s.sett.working.leak = 0 ∨ d ≤ 1000 * s.sett.working.leak
                then 0 else 1))
            ∧ (s.sett.working.leak ≠ 0 → 1000 * s.sett.working.leak < d → s.fuel.leakCount ≠ 0 →
              t.store.queue.map QueueEntry.payload = [.leak true d,
                .gauge s.fuel.value s.fuel.meter s.fuel.reference s.fuel.lifetime]
              ∧ t.fuel.leakFlag = true ∧ t.fuel.leakCount = 0 ∧ .leakSuspect ∈ t.link.notices)))
    ∧ (∀ x, s.fuel.settling = some x → 60 ≤ x.minutes →
      ∃ t, exec .settlingTimeout s = .next t ∧ s.changesOnly [.fuel, .store, .link, .posts] t
        ∧ t.fuel.settling = none ∧ t.fuel.deferred = false
        ∧ (s.fuel.deferred = true → t.fuel.periodTimer = 60 * s.sett.working.period
          ∧ t.fuel.lastD = none)
        ∧ (s.fuel.reference + 10 * s.sett.working.delivery ≤ x.previous →
          t.fuel.reference = x.previous ∧ t.fuel.refStamp = s.store.runMinute
          ∧ t.fuel.refGood = true ∧ t.fuel.meter = 0 ∧ t.fuel.leakCount = 0
          ∧ t.fuel.leakFlag = false ∧ (s.fuel.leakFlag = true → .leakSuspect ∈ t.link.notices)
          ∧ .delivery ∈ t.link.notices
          ∧ t.fuel.stage = (if 10 * s.sett.working.low ≤ x.previous then .normal
            else if 10 * s.sett.working.reserve ≤ x.previous then .low
            else if 10 * s.sett.working.dry ≤ x.previous then .reserve else .dry)
          ∧ t.store = s.store.appending (.delivery
            (x.previous - s.fuel.reference + s.fuel.meter / 100) s.fuel.reference x.previous) none)
        ∧ (x.previous < s.fuel.reference + 10 * s.sett.working.delivery →
          t.fuel.reference = s.fuel.reference ∧ t.fuel.meter = s.fuel.meter
          ∧ t.fuel.leakFlag = s.fuel.leakFlag ∧ t.fuel.leakCount = s.fuel.leakCount
          ∧ t.store = s.store ∧ t.link = s.link
          ∧ t.fuel.awaiting = (if s.fuel.awaiting = .none ∧ s.fuel.refGood = false then .start
            else s.fuel.awaiting)))
    ∧ (s.link.owed = none →
      (s.fuel.leakFlag = false →
        exec (.clearLeak []) s = .next (s.replied (plainReply 0x16 .refused .notNow [])))
      ∧ (s.fuel.leakFlag = true → ∃ t, exec (.clearLeak []) s = .next t
        ∧ s.changesOnly [.fuel, .store, .link] t
        ∧ s.answered t (plainReply 0x16 .ok .none [])
        ∧ t.fuel = { s.fuel with leakFlag := false, leakCount := 0 }
        ∧ .leakSuspect ∈ t.link.notices
        ∧ t.store = s.store.appending (.leak false 0) none))

/-- TREND_ENTRY, TREND_READ and NEXT: the ring of 48, its copies with their header, wrap and clamp, and the
follow index that goes with the ring (R134, R170, R171), each entry field by field as Table 10-6 lays it out.
A wrapping copy that starts at or beyond the ring's length reads from index 0, and the follow index after the
newest entry is as log entry 38 (DEDUCED) reads R171; what the header says of such a copy is the model's
choice (log entry 90). -/
def Obligations.TrendIsKeptAndRead : Prop :=
  ∀ s : State,
    (s.running = true → s.fuel.trendTimer = 0 →
      exec .trendEntry s = .next { s with
        fuel := { s.fuel with
          trend := (if 48 ≤ s.fuel.trend.length then s.fuel.trend.tail else s.fuel.trend)
            ++ [⟨s.store.runMinute, s.fuel.value, s.fuel.status, s.fuel.hourMeter,
              s.fuel.hourFiring⟩]
          hourMeter := 0, hourFiring := 0, trendTimer := 60 }
        link := { s.link with follow := if 48 ≤ s.fuel.trend.length
          then s.link.follow.map (fun f => { f with index := f.index - 1 }) else s.link.follow } })
    ∧ (s.takes → ∀ a n w f : Byte,
      ((47 < a.toNat ∨ n = 0 ∨ 48 < n.toNat ∨ 1 < w.toNat ∨ 1 < f.toNat) →
        exec (.trendRead [a, n, w, f]) s =
          .next (s.replied (plainReply 0x12 .refused .badValue [])))
      ∧ (a.toNat ≤ 47 → n ≠ 0 → n.toNat ≤ 48 → w.toNat ≤ 1 → f.toNat ≤ 1 →
        (s.link.buffer ≠ .empty → exec (.trendRead [a, n, w, f]) s =
          .next (s.replied (plainReply 0x12 .refused .bufferHeld [])))
        ∧ (s.link.buffer = .empty → exec (.trendRead [a, n, w, f]) s =
          .next (s.trendFilled 0x12 a.toNat n.toNat (w == 1) (f == 1)))))
    ∧ (s.takes → (s.link.follow = none →
        exec (.nextTrend []) s = .next (s.replied (plainReply 0x13 .refused .noFollow [])))
      ∧ ∀ x, s.link.follow = some x →
        (s.link.buffer ≠ .empty →
          exec (.nextTrend []) s = .next (s.replied (plainReply 0x13 .refused .bufferHeld [])))
        ∧ (s.link.buffer = .empty →
          exec (.nextTrend []) s = .next (s.trendFilled 0x13 x.index x.count x.wrap true)))

/-! ## The record store (Chapter 8) -/

/-- RUN_MINUTE: the counter and a SET clock advance, and every count of run minutes goes down with it; the
window list loses its old stamps, HELD is evaluated, with reason STORE retried, and the oldest owed record is
asked again (R26, R56, R83, R87, R91, R126, R137, R138; the one command and its order are log entries 6 and
32, the count going on at the counter's maximum log entry 75, owed records one at a time log entry 25, dark
waiting cleared at a reset log entry 56). STORE looks at rotation: none, deferred by its first cause (log
entry 72), or started with the tail's live records to carry (R144, R145; judged at the look log entry 65, two
copies log entry 77, set back log entry 49), and not before the scan's findings are handed over, when the run
minute only counts (R151, R154; DEDUCED, log entry 68). -/
def Obligations.RunMinuteMovesEveryCount : Prop :=
  ∀ s : State,
    (s.store.minutesSet = false ∨ s.phase = .unpowered → exec .runMinute s = .next s)
    ∧ (s.store.minutesSet = true → s.phase ≠ .unpowered → ∃ t, exec .runMinute s = .next t
      ∧ s.changesOnly [.out, .zone, .burn, .fuel, .store, .link, .sett, .posts] t
      ∧ t.store.runMinute = min (s.store.runMinute + 1) 4294967295 ∧ t.store.timebase = 0
      ∧ t.store.wallSet = s.store.wallSet
      ∧ t.store.wall = (if s.store.wallSet then min (s.store.wall + 1) 4294967294
        else s.store.wall)
      ∧ (s.running = true →
        (∀ ch : Fin 10, t.out.channels[ch] = { s.out.channels[ch] with
          override := s.out.channels[ch].override.map fun (v, m) => (v, m - 1) })
        ∧ (∀ z : Fin 6, t.zone.zones[z] = { s.zone.zones[z] with
          timer := match s.zone.zones[z].timer with
            | .retry n => .retry (n - 1) | .travel ms => .travel ms | .stopped => .stopped })
        ∧ t.fuel = { s.fuel with
          periodTimer := s.fuel.periodTimer - 1, trendTimer := s.fuel.trendTimer - 1
          settling := s.fuel.settling.map fun x => { x with minutes := min (x.minutes + 1) 60 } })
      ∧ (∀ (p : Payload) (more : List Payload) (v : Store), s.burnActive = true →
        s.burn.owed = p :: more → s.burn.owedAsked = false → s.store.ready → s.store.quiet →
        s.burn.state ≠ .held → v = { s.store with
          runMinute := t.store.runMinute, timebase := 0, wall := t.store.wall } →
        t.burn.owed = s.burn.owed ∧ t.burn.owedAsked = true ∧ t.burn.state = s.burn.state
        ∧ t.store = v.appending p (some .owed))
      ∧ (∀ v : Store, v = { s.store with
          runMinute := t.store.runMinute, timebase := 0, wall := t.store.wall } →
        (s.storeActive = true → (∃ p, s.store.array = .programming p) → s.store.numbered →
          v.rotatedByRule s.supply.hold t.store)
        ∧ (s.storeActive = false → s.burnActive = false → s.store.answers = [] →
          t = { s with store := v }))
      ∧ ∀ u : State, u = { s with
          store := { s.store with
            runMinute := t.store.runMinute, timebase := 0, wall := t.store.wall }
          burn := { s.burn with
            cooldown := s.burn.cooldown.map (· - 1), proofLimit := s.burn.proofLimit.map (· - 1)
            window := s.burn.window.dropWhile fun x => decide (1440 ≤ t.store.runMinute - x) } } →
        s.burnActive = true → s.recordsClear →
        (s.burn.state ≠ .held → t.burn = u.burn)
        ∧ (s.burn.state = .held → s.burn.heldReason ≠ .store →
          (s.sett.working.authority ≠ .openToAll → t.burn.state = .held
            ∧ t.burn.heldReason = .awaitOrder ∧ t.burn.window = u.burn.window)
          ∧ (s.sett.working.authority = .openToAll →
            s.sett.working.budget ≤ u.burn.window.length → t.burn.state = .held
            ∧ t.burn.heldReason = .budget ∧ t.burn.window = u.burn.window
            ∧ (s.burn.heldReason = .awaitOrder → .held ∈ t.link.notices))
          ∧ (s.sett.working.authority = .openToAll →
            u.burn.window.length < s.sett.working.budget → s.supply.hold = false →
            s.burn.lockoutOwed = false → s.store.quiet → u.resetBegun t .auto))
        ∧ (s.burn.state = .held → s.burn.heldReason = .store → s.store.quiet →
          (∀ l, s.burn.lockoutOwed = true → s.burn.lockoutAsked = false →
            s.burn.newest = some l → t.burn = { u.burn with lockoutAsked := true }
            ∧ t.store = u.store.appending (.lockout l.cause l.left l.stage l.wasPending)
              (some (.lockout s.burn.lockouts)))
          ∧ (s.burn.lockoutOwed = false →
            (s.sett.working.authority ≠ .openToAll → t.burn.state = .held
              ∧ t.burn.heldReason = .awaitOrder ∧ .held ∈ t.link.notices)
            ∧ (s.sett.working.authority = .openToAll →
              s.sett.working.budget ≤ u.burn.window.length → t.burn.state = .held
              ∧ t.burn.heldReason = .budget ∧ .held ∈ t.link.notices)
            ∧ (s.sett.working.authority = .openToAll →
              u.burn.window.length < s.sett.working.budget →
              (s.supply.hold = false → u.resetBegun t .auto)
              ∧ (s.supply.hold = true → t.burn = u.burn)))))

/-- SET_CLOCK sets the wall clock, all but the value that would read as UNSET; HISTORY_READ with nothing
before it in STORE ends at once, with its header and its records in the buffer: the good records of the VALID
sectors in order of their sequence numbers, each in the layout of Tables 8-2 and 8-3 (R138, R143, R144, R146,
R147; a result without records log entry 36). An erase in flight gives way to the reading and goes on. With a
program in flight the reading waits: its first record and its count are fixed (R146; nothing stored log entry
74), and at the program's completion it is served before the appends that wait, with the record just programmed;
it ends DONE, or REJECTED with BUFFER_HELD when the buffer has been filled in between (R143, R147). -/
def Obligations.ClockAndHistory : Prop :=
  (∀ (a b c d : Byte) (s : State), s.takes →
    ∀ q, q = a.toNat + 256 * b.toNat + 65536 * c.toNat + 16777216 * d.toNat →
    (∀ r : Record, ∃ check : Byte, r.bytes = r.report ++ [check]
      ∧ (r.bytes.map BitVec.toNat).sum % 256 = 0)
    ∧ (q = 4294967295 → exec (.setClock [a, b, c, d]) s =
      .next (s.replied (plainReply 0x07 .refused .badValue [])))
    ∧ (q ≠ 4294967295 → exec (.setClock [a, b, c, d]) s = .next (State.replied
      { s with store := { s.store with wall := q, wallSet := true } }
      (plainReply 0x07 .ok .none [])))
    ∧ (∀ n : Byte, s.link.slot = none → s.link.buffer = .empty →
      (n = 0 ∨ 16 < n.toNat → exec (.historyRead [a, b, c, d, n]) s =
        .next (s.replied (plainReply 0x11 .refused .badValue [])))
      ∧ (n ≠ 0 → n.toNat ≤ 16 → s.store.quiet ∨ s.store.erasesAlone →
        s.store.available.Pairwise (fun x y => x.seq < y.seq) →
        ∀ avail : List Record, avail.Pairwise (fun x y => x.seq < y.seq) →
        (∀ r, r ∈ avail ↔ s.store.found r) → ∀ rs : List Record,
          rs = (if q = 4294967295 then avail.drop (avail.length - min n.toNat 15)
            else (avail.filter fun r => decide (q ≤ r.seq)).take (min n.toNat 15)) →
        ∃ content : List Byte,
          exec (.historyRead [a, b, c, d, n]) s = .next (State.replied
            { s with link := { s.link with
              serial := (s.link.serial + 1) % 65536
              lastEnd := some ⟨.historyRead, (s.link.serial + 1) % 65536, .done, .none,
                content.length⟩
              notices := insertNotice .taskEnd s.link.notices
              buffer := .held, content := content, follow := none } }
            (plainReply 0x11 .taken .none (byte16 ((s.link.serial + 1) % 65536))))
          ∧ (rs = [] → content.take 6 = byte32 s.store.nextSeq ++ byte16 0 ∧ content.length = 8)
          ∧ (∀ r rest o older, rs = r :: rest → avail = o :: older →
            content = byte32 r.seq ++ byte16 rs.length ++ byte16 (r.seq - o.seq)
              ++ (rs.map Record.bytes).flatten))
      ∧ (n ≠ 0 → n.toNat ≤ 16 → (∃ p, s.store.array = .programming p) → s.store.answers = [] →
        s.store.available.Pairwise (fun x y => x.seq < y.seq) →
        ∀ avail : List Record, avail.Pairwise (fun x y => x.seq < y.seq) →
        (∀ r, r ∈ avail ↔ s.store.found r) → ∀ rs : List Record,
          rs = (if q = 4294967295 then avail.drop (avail.length - min n.toNat 15)
            else avail.filter fun r => decide (q ≤ r.seq)) →
        ∃ task : ReadTask,
          exec (.historyRead [a, b, c, d, n]) s = .next (State.replied
            { s with
              store := { s.store with reading := some task }
              link := { s.link with
                serial := (s.link.serial + 1) % 65536
                slot := some (.historyRead, (s.link.serial + 1) % 65536), follow := none } }
            (plainReply 0x11 .taken .none (byte16 ((s.link.serial + 1) % 65536))))
          ∧ (∀ r rest, rs = r :: rest → task = ⟨r.seq, min n.toNat 15⟩)
          ∧ (rs = [] → task = ⟨s.store.nextSeq, if q = 4294967295 then min n.toNat 15 else 0⟩))))
  ∧ ∀ (good : Bool) (r : Record) (h : Fin 4) (e : QueueEntry) (more : List QueueEntry)
        (task : ReadTask) (serial : Nat) (v : Store) (s : State), s.storeActive = true →
      s.store.array = .programming (.append r none) → s.store.head = some h →
      s.store.queue = e :: more → e.tag = none → ({ s.store with reading := none } : Store).alone →
      s.store.reading = some task → s.store.keep = .none → s.store.sectors[h].slots.length < 55 →
      s.link.slot = some (.historyRead, serial) →
      v = { s.store with
        nextSeq := s.store.nextSeq + 1, queue := more, array := .free, reading := none
        sectors := s.store.sectors.set h { s.store.sectors[h] with
          slots := s.store.sectors[h].slots ++ [if good then .good r else .bad] } } →
      v.available.Pairwise (fun x y => x.seq < y.seq) →
      ∀ avail : List Record, avail.Pairwise (fun x y => x.seq < y.seq) →
      (∀ x, x ∈ avail ↔ v.found x) →
      ∀ rs, rs = (avail.filter fun x => decide (task.first ≤ x.seq)).take task.count →
      ∃ (content : List Byte) (t : State), exec (.programCompletion good) s = .next t
        ∧ s.changesOnly [.store, .link] t
        ∧ t.store = (match more with
          | [] => v
          | e2 :: _ => { v with array := .programming (.append (v.recordOf e2.payload) none) })
        ∧ (s.link.buffer = .held → t.link = { s.link with
          slot := none, lastEnd := some ⟨.historyRead, serial, .rejected, .bufferHeld, 0⟩
          notices := insertNotice .taskEnd s.link.notices })
        ∧ (s.link.buffer = .empty → t.link = { s.link with
          slot := none
          lastEnd := some ⟨.historyRead, serial, .done, .none, content.length⟩
          notices := insertNotice .taskEnd s.link.notices, buffer := .held, content := content })
        ∧ (rs = [] → content.take 6 = byte32 v.nextSeq ++ byte16 0 ∧ content.length = 8)
        ∧ (∀ x rest o older, rs = x :: rest → avail = o :: older →
          content = byte32 x.seq ++ byte16 rs.length ++ byte16 (x.seq - o.seq)
            ++ (rs.map Record.bytes).flatten)

/-- Every step keeps every sector within its 64 slots (R139). A record asked of STORE, by CLEAR_LEAK and by the
ACK: it joins the append queue as Table 8-5 says while a program runs, is placed by R142's four cases with a
free array, waits for the erase of the next sector, and an erase gives way to it (R141 to R143; the dropped
flag at the count's maximum log entry 64). PROGRAM_COMPLETION of an append: the slot takes its place whether it
reads back or not (log entry 11), the next sequence moves on, the entry leaves the queue and the next one's
program begins (R140, R142). Its appender is told: a stored LOCKOUT record, an older lockout's apart (log entry
48), sends LOCKED to COOLDOWN, to the latch or to the wait for mains, or with dark waiting and the lamp still
dark is followed by an external reset (R94), and a stored RESET record begins the pulse (R83, R85, R88, R95;
dark waiting cleared when the reset began, log entry 56); a stored owed record is followed by the next one
(R91; asked one at a time, each at the answer to the last, DEDUCED, log entry 25); a stored ACK record ends the
latch (R96). -/
def Obligations.AppendCompletesAndAnswers : Prop :=
  State.reset.store.fits
  ∧ (∀ s t : State, s.storeWaits → s.store.fits → step s = .next t → t.store.fits)
  ∧ (∀ (s : State) (p : Payload), s.takes → s.store.fits → s.fuel.leakFlag = true → p = .leak false 0 →
    (∀ (u : Store) (refused : Bool), (s.store.busy ∧ s.store.joinedByTable p none u refused)
        ∨ (s.store.resting ∧ s.store.placedByRule p none u refused) →
      ∃ t, exec (.clearLeak []) s = .next t ∧ t.store = u)
    ∧ (∀ (h : Fin 4) (n : Nat), s.store.head = some h → s.store.rotation = .erasing →
      s.store.array = .erasing (.sector (h + 1)) n → s.store.sectors[h + 1].mark = .retiring →
      s.store.queue = [] → s.store.answers = [] → s.store.reading = none → s.store.carryWork = [] →
      s.store.setBack = none →
      (64 ≤ s.store.sectors[h].slots.length → ∃ t, exec (.clearLeak []) s = .next t
        ∧ t.store = { s.store with queue := [⟨p, none⟩] })
      ∧ (s.store.sectors[h].slots.length < 64 → ∃ t, exec (.clearLeak []) s = .next t
        ∧ t.store = { s.store.appending p none with
          suspended := some (.sector (h + 1), n) })))
  ∧ (∀ (s : State) (n : Nat) (r : LatchReason) (u : Store) (refused : Bool),
    s.burnActive = true → s.store.fits → s.svc.press = .timing → s.svc.holdTimer = some n →
    s.inputs.key = some true → s.burn.state = .latched → s.burn.latchReason = some r →
    s.burn.ackAwaited = false → s.burn.owed = [] → s.burn.asks = [] →
    (s.store.busy ∧ s.store.joinedByTable (.ack r) (some .ack) u refused)
      ∨ (s.store.resting ∧ s.store.placedByRule (.ack r) (some .ack) u refused) →
    ∃ t, exec .holdTimerExpiry s = .next t ∧ t.store = u ∧ t.burn.ackAwaited = !refused)
  ∧ ∀ (good : Bool) (r : Record) (opens : Option (Fin 4)) (h : Fin 4) (e : QueueEntry)
      (rest : List QueueEntry) (s : State),
    s.storeActive = true → s.store.array = .programming (.append r opens) →
    s.store.head = some h → s.store.queue = e :: rest → s.store.alone → s.store.keep = .none →
    (opens = none → s.store.sectors[h].slots.length < 55) →
    ∀ (slot : Slot) (w : State), slot = (if good then .good r else .bad) →
      w = { s with store := { s.store with
        nextSeq := s.store.nextSeq + 1, queue := rest, array := .free
        head := (match opens with | none => some h | some i => some i)
        sectors := (match opens with
          | none => s.store.sectors.set h
            { s.store.sectors[h] with slots := s.store.sectors[h].slots ++ [slot] }
          | some i => s.store.sectors.set i
            { mark := .valid s.store.nextSeq, slots := [slot] }) } } →
      (e.tag = none → rest = [] → exec (.programCompletion good) s = .next w)
      ∧ (∀ e2 more, e.tag = none → rest = e2 :: more → exec (.programCompletion good) s =
        .next { w with store := { w.store with
          array := .programming (.append (w.store.recordOf e2.payload) none) } })
      ∧ (∀ n, e.tag = some (.lockout n) → n ≠ s.burn.lockouts → rest = [] →
        exec (.programCompletion good) s = .next w)
      ∧ (∀ p more, e.tag = some .owed → rest = [] → s.burn.owed = p :: more → s.burn.asks = [] →
        (more = [] → exec (.programCompletion good) s = .next { w with
          burn := { s.burn with owed := [], owedAsked := false } })
        ∧ (∀ p2 m2, more = p2 :: m2 → exec (.programCompletion good) s = .next { w with
          burn := { s.burn with owed := more, owedAsked := true }
          store := w.store.appending p2 (some .owed) }))
      ∧ (e.tag = some (.lockout s.burn.lockouts) → rest = [] → s.burnActive = true →
        s.burn.state = .locked → s.burn.owed = [] → s.burn.asks = [] →
        ∃ t, exec (.programCompletion good) s = .next t
          ∧ s.changesOnly [.burn, .store, .link, .posts] t
          ∧ t.burn.answer = .stored ∧ t.burn.lockoutOwed = false
          ∧ (∀ l, s.burn.newest = some l →
            (∀ why, (l.cause = .starvation ∧ why = .starvation)
                ∨ (l.cause ≠ .starvation ∧ l.wasPending = true ∧ s.burn.relock = 2
                  ∧ why = .relock) →
              t.burn.state = .latched ∧ t.burn.latchReason = some why
              ∧ t.burn.attendedOwed = false ∧ .latch ∈ t.link.notices
              ∧ t.burn.pressWaiting = false ∧ t.burn.darkWaiting = false
              ∧ t.store = w.store.appending (.latch why s.burn.relock) (some .closing))
            ∧ (l.cause ≠ .starvation → (l.wasPending = false ∨ s.burn.relock ≠ 2) →
              (s.supply.hold = true → t.store = w.store ∧ t.burn.state = .locked
                ∧ t.burn.lockStep = .awaitMains ∧ t.burn.pressWaiting = false
                ∧ t.burn.darkWaiting = false)
              ∧ (s.supply.hold = false → s.burn.pressWaiting = false →
                s.burn.darkWaiting = false ∨ s.inputs.lockout = some true →
                t.store = w.store ∧ t.burn.state = .cooldown
                ∧ t.burn.cooldown = some s.sett.working.cooldown)
              ∧ (s.supply.hold = false → s.burn.pressWaiting = true →
                s.burn.darkWaiting = false ∨ s.inputs.lockout = some true →
                w.resetBegun t .localPress)
              ∧ (s.supply.hold = false → s.burn.darkWaiting = true →
                s.inputs.lockout ≠ some true → s.atRest t ∧ t.burn.cooldown = none
                ∧ t.burn.pressWaiting = false ∧ t.burn.darkWaiting = false
                ∧ t.burn.attendedOwed = false ∧ t.burn.proofPending = true
                ∧ t.burn.pendingOrigin = some .external
                ∧ (s.burn.task ≠ none → t.burn.proofLimit = some 60)
                ∧ t.store = w.store.appending
                  (.reset .external true s.burn.window.length) (some .closing)))))
      ∧ (∀ o att n, e = ⟨.reset o att n, some .reset⟩ → rest = [] → s.burnActive = true →
        s.burn.state = .resetting → s.burn.resetPhase = .recording → s.burn.abandonWait = none →
        ∃ t, exec (.programCompletion good) s = .next t ∧ s.changesOnly [.burn, .store, .posts] t
          ∧ t.store = w.store
          ∧ t.burn.window = s.burn.window ++ (if o = .auto ∨ o = .host then [r.stamp] else [])
          ∧ (s.burn.task ≠ none → t.burn.proofLimit = some 60)
          ∧ (s.inputs.lockout = some true → t.burn.state = .resetting
            ∧ t.burn.resetPhase = .pulse ∧ t.burn.pulseTimer = some 1000
            ∧ t.posts.demand[1] = s.posts.demand[1] ++ [true])
          ∧ (s.inputs.lockout ≠ some true → s.atRest t ∧ t.burn.proofPending = true
            ∧ t.burn.pendingOrigin = some s.burn.resetOrigin
            ∧ t.posts.demand[1] = s.posts.demand[1]))
      ∧ (∀ why, e = ⟨.ack why, some .ack⟩ → rest = [] → s.burnActive = true →
        s.burn.state = .latched → s.supply.hold = false → s.inputs.lockout = some true →
        ∃ t, exec (.programCompletion good) s = .next t ∧ s.changesOnly [.burn, .store, .link] t
          ∧ t.store = w.store ∧ t.burn.state = .cooldown ∧ t.burn.attendedOwed = true
          ∧ t.burn.cooldown = some s.sett.working.cooldown ∧ t.burn.relock = 0
          ∧ t.burn.latchReason = none ∧ t.burn.ackAwaited = false ∧ .latch ∈ t.link.notices)

/-- KEEP: taken with its serial, its erase starting at once outside the hold with a free array and waiting
otherwise (R143, R148). A rotation's copies are programmed into the head's free slots, those that find none
wait in the carry list, and with the last of them the erase is due, to start outside the hold (R144, R145; set
back in it, log entry 49; copies of any class, log entry 66, a bad one not carried again, log entry 73).
ERASE_COMPLETION: a sector of the start-up scan, the next one's erase then starting with its mark left as it is
(DESIGN CHOICE, log entry 76), or of a rotation is ERASED again; with the head full the first carried copy
opens it, or without copies the oldest append does (R140, R142, R145, R150); the settings sector erased, KEEP
takes its image, and its 64 blocks are programmed one by one until it ends DONE or VERIFY_FAIL (R148, R175). -/
def Obligations.ErasesAndKeepRunTheirCourse : Prop :=
  (∀ s : State, s.takes → s.link.slot = none → s.store.alone → s.store.keep = .none →
    ∀ k b, k = (s.link.serial + 1) % 65536 →
      b = { s with link := { s.link with serial := k, slot := some (.keep, k) } } →
    ((s.supply.hold = true ∧ s.store.queue = [] ∧ s.store.array = .free)
        ∨ (∃ p, s.store.array = .programming p) →
      exec (.keep []) s = .next (State.replied
        { b with store := { s.store with keep := .waiting, eraseDue := [.settings] } }
        (plainReply 0x05 .taken .none (byte16 k))))
    ∧ (s.supply.hold = false → s.store.queue = [] → s.store.array = .free →
      exec (.keep []) s = .next (State.replied
        { b with
          store := { s.store with
            keep := .erasing, array := .erasing .settings 300, settings := .invalid }
          sett := { s.sett with imageState := none } }
        (plainReply 0x05 .taken .none (byte16 k)))))
  ∧ (∀ (i : Fin 4) (n : Nat) (s : State),
    (∀ rest, s.phase = .scanning → s.store.reErase = i :: rest →
      ∃ t, exec .eraseCompletion s = .next t ∧ s.changesOnly [.store] t
        ∧ t.store.sectors = s.store.sectors.set i ⟨.erased, []⟩
        ∧ t.store.reErased = s.store.reErased + 1 ∧ t.store.reErase = rest
        ∧ (∀ j more, rest = j :: more → t.store.array = .erasing (.sector j) 300)
        ∧ (rest = [] → t.store.array = .free
          ∧ (∀ h, t.store.head = some h → ∃ n, t.store.sectors[h].mark = .valid n
            ∧ t.store.nextSeq = n + t.store.sectors[h].slots.length
            ∧ ∀ (j : Fin 4) (m : Nat), t.store.sectors[j].mark = .valid m → m ≤ n)
          ∧ (t.store.head = none → t.store.nextSeq = 0
            ∧ ∀ (j : Fin 4) (m : Nat), t.store.sectors[j].mark ≠ .valid m)))
    ∧ (s.storeActive = true → s.store.array = .erasing (.sector i) n →
      s.store.answers = [] → s.store.reading = none → s.store.carryWork = [] →
      s.store.suspended = none → s.store.eraseDue = [] → s.store.keep = .none →
      ∀ w : Store, w = { s.store with
        sectors := s.store.sectors.set i ⟨.erased, []⟩, rotation := .none, setBack := none } →
      (s.store.carryList = [] → s.store.queue = [] →
        exec .eraseCompletion s = .next { s with store := { w with array := .free } })
      ∧ (∀ h e rest, s.store.carryList = [] → s.store.queue = e :: rest → s.store.head = some h →
        h + 1 = i → s.store.sectors[h].slots.length = 64 →
        exec .eraseCompletion s = .next { s with store := { w with
          array := .programming (.append (s.store.recordOf e.payload) (some i)) } })
      ∧ (∀ r more h, s.store.carryList = r :: more → s.store.head = some h → h + 1 = i →
        s.store.sectors[h].slots.length = 64 →
        exec .eraseCompletion s = .next { s with store := { w with
          carryWork := r :: more, carryList := []
          array := .programming (.carry
            { r with seq := s.store.nextSeq, orig := some (r.orig.getD r.seq) }
            (some i)) } })))
  ∧ (∀ (good : Bool) (c r : Record) (more : List Record) (s : State) (slot : Slot),
    s.storeActive = true → s.store.carryWork = r :: more → s.store.queue = [] →
    s.store.answers = [] → s.store.reading = none → s.store.suspended = none →
    s.store.eraseDue = [] → s.store.keep = .none → slot = (if good then .good c else .bad) →
    (∀ i : Fin 4, s.store.array = .programming (.carry c (some i)) → s.store.rotation = .none →
      ∀ w : Store, w = { s.store with
        nextSeq := s.store.nextSeq + 1, head := some i, carryWork := more
        sectors := s.store.sectors.set i ⟨.valid s.store.nextSeq, [slot]⟩ } →
      (more = [] → exec (.programCompletion good) s =
        .next { s with store := { w with array := .free } })
      ∧ (∀ r2 m2, more = r2 :: m2 → exec (.programCompletion good) s =
        .next { s with store := { w with array := .programming (.carry
          { r2 with seq := w.nextSeq, orig := some (r2.orig.getD r2.seq) } none) } }))
    ∧ (∀ h i : Fin 4, i = h + 1 → s.store.array = .programming (.carry c none) →
      s.store.rotation = .carrying →
      s.store.head = some h → s.store.sectors[i].mark ≠ .erased → s.store.carryList = [] →
      ∀ w : Store, w = { s.store with
        nextSeq := s.store.nextSeq + 1
        sectors := s.store.sectors.set h
          { s.store.sectors[h] with slots := s.store.sectors[h].slots ++ [slot] } } →
      (∀ r2 m2, more = r2 :: m2 → s.store.sectors[h].slots.length < 63 →
        ∃ t, exec (.programCompletion good) s = .next t ∧ t.store = { w with
          carryWork := more, setBack := if s.supply.hold then some .byHold else none
          array := .programming (.carry
            { r2 with seq := w.nextSeq, orig := some (r2.orig.getD r2.seq) } none) })
      ∧ (more = [] ∨ s.store.sectors[h].slots.length = 63 →
        (s.supply.hold = true → exec (.programCompletion good) s = .next { s with store := { w with
          array := .free, carryWork := [], carryList := more, rotation := .eraseDue
          eraseDue := [.sector i], setBack := some .byHold } })
        ∧ (s.supply.hold = false → exec (.programCompletion good) s =
          .next { s with store := { w with
            array := .erasing (.sector i) 300, carryWork := [], carryList := more
            rotation := .erasing, setBack := none
            sectors := w.sectors.set i
              { w.sectors[i] with mark := .retiring } } }))))
  ∧ (∀ (n : Nat) (s : State), s.storeActive = true → s.store.alone → s.store.queue = [] →
    (s.store.array = .erasing .settings n → exec .eraseCompletion s = .next { s with
        store := { s.store with
          keep := .programming s.sett.working 0 true, array := .programming (.keepBlock 0) }
        sett := { s.sett with changed := false } })
    ∧ (∀ (image : Settings) (ok good : Bool) (serial : Nat),
      s.store.array = .programming (.keepBlock n) → s.store.keep = .programming image n ok →
      s.store.rotationNeeded = false →
      (n < 63 → exec (.programCompletion good) s = .next { s with store := { s.store with
        keep := .programming image (n + 1) (ok && good)
        array := .programming (.keepBlock (n + 1)) } })
      ∧ (n = 63 → s.link.slot = some (.keep, serial) → s.store.place = .inHead →
        ∃ t, exec (.programCompletion good) s = .next t
          ∧ s.changesOnly [.store, .sett, .link] t
          ∧ (ok = true → good = true → t.taskEnded .keep serial .done .none
            ∧ t.sett = { s.sett with imageState := some (checkWordOf image), defaulted := false }
            ∧ (s.sett.defaulted = true → .settings ∈ t.link.notices)
            ∧ t.store = Store.appending
              { s.store with array := .free, keep := .none, settings := .image image }
              (.settingsKept (checkWordOf image)) none)
          ∧ (ok = false ∨ good = false → t.taskEnded .keep serial .rejected .verifyFail
            ∧ t.sett = { s.sett with changed := true }
            ∧ t.store = { s.store with array := .free, keep := .none }))))

/-! ## The mains (Chapter 9) -/

/-- MAINS_OK_FALL begins SUPPLY_HOLD in whichever order its tellings reach BURN (log entry 10), or stops a
running return timer: OUT drives nothing, every zone is IDLE, and BURN rests INHIBITED, LOCKED, HELD or LATCHED
with its task aborted (R36, R61, R80, R100, R121, R156); before BURN has derived its state the telling waits
for it (R154; log entry 83). A COOLDOWN keeps its LOCKOUT answer, one that is none too (the model's choice, log
entry 70). A due pass not yet taken is dropped (log entry 40, DEDUCED). MAINS_OK_RISE in the hold loads the
return timer (R157). -/
def Obligations.MainsFallsAndRises : Prop :=
  ∀ s : State, s.supplyActive = true →
    (∀ order, s.inputs.mainsOk = some true →
      (s.supply.hold = true → exec (.mainsOkFall order) s = .next { s with
        inputs := { s.inputs with mainsOk := some false }
        supply := { s.supply with returnTimer := none } })
      ∧ (s.supply.hold = false → s.store.answers = [] →
        ∃ t, exec (.mainsOkFall order) s = .next t
        ∧ s.changesOnly [.inputs, .out, .loop, .zone, .burn, .gauge, .fuel, .store, .supply, .link,
            .sett, .posts] t
        ∧ t.inputs = { s.inputs with
          mainsOk := some false
          held := if s.burnActive then s.inputs.held else s.inputs.held ++ [.hold true] }
        ∧ t.supply = { s.supply with
          hold := true, holdStart := s.store.runMinute, returnTimer := none }
        ∧ .mains ∈ t.link.notices
        ∧ (∀ ch : Fin 10, t.out.channels[ch].effective = false ∧ t.out.channels[ch].low = 0
          ∧ t.out.channels[ch].high = 0 ∧ t.out.channels[ch].offs = 0
          ∧ t.out.channels[ch].demand = s.out.channels[ch].demand
          ∧ t.out.channels[ch].override = s.out.channels[ch].override
          ∧ t.out.channels[ch].load = s.out.channels[ch].load)
        ∧ t.out.mode = s.out.mode ∧ t.out.cause = s.out.cause
        ∧ (∀ z : Fin 6, t.zone.zones[z] = { s.zone.zones[z] with
          state := .idle, timer := .stopped })
        ∧ t.plantFormed ∧ t.zone.heatRequest = false
        ∧ t.gauge.due = none ∧ t.gauge.window = s.gauge.window
        ∧ t.gauge.filtered = s.gauge.filtered ∧ t.gauge.fault = s.gauge.fault
        ∧ (s.burnActive = true →
          t.burn.inhibit.supply = true ∧ t.burn.ignitionTimer = none ∧ t.burn.stopTimer = none
          ∧ t.burn.overrun = false ∧ t.burn.accRunning = false ∧ t.burn.accMs < 1000
          ∧ t.burn.task = none
          ∧ (∀ k serial, s.burn.task ≠ none → s.link.slot = some (k, serial) →
            (s.burn.state = .resetting → s.recordsClear) → t.taskEnded k serial .aborted .supply)
          ∧ (s.burn.state.normal = true → t.burn.state = .inhibited)
          ∧ (s.burn.state = .locked → t.burn.state = .locked
            ∧ t.burn.lockStep = s.burn.lockStep)
          ∧ (s.burn.state = .held → t.burn.state = .held)
          ∧ (s.burn.state = .latched → t.burn.state = .latched)
          ∧ (s.burn.state = .cooldown → t.burn.state = .locked
            ∧ t.burn.lockStep = .awaitMains ∧ t.burn.cooldown = none
            ∧ t.burn.answer = s.burn.answer)
          ∧ (s.burn.state = .resetting → t.burn.state = .locked
            ∧ t.burn.lockStep = .awaitMains ∧ t.burn.pulseTimer = none
            ∧ t.burn.checkTimer = none ∧ t.burn.relock = s.burn.relock
            ∧ t.burn.window = s.burn.window
            ∧ (s.burn.resetPhase ≠ .recording → s.recordsClear → t.store = s.store.appending
              (.outcome .abandoned s.burn.relock (some s.burn.resetOrigin)) (some .closing))
            ∧ (s.burn.resetPhase = .recording → s.burn.lockoutOwed = false →
              s.burn.asks = [] → t.burn.abandonWait = some s.burn.resetOrigin)))))
    ∧ (s.inputs.mainsOk = some false → exec .mainsOkRise s = .next { s with
      inputs := { s.inputs with mainsOk := some true }
      supply := if s.supply.hold then { s.supply with returnTimer := some 30000 } else s.supply })

/-- RETURN_TIMER_EXPIRY ends SUPPLY_HOLD: the MAINS notice and record with its minutes, the channels
resolved with two scans passed over, the zones that call opening, GAUGE's counts from 0, the accumulator by
the valve's level, and BURN by its lamp: HELD is evaluated with a lit one and takes a dark one as an external
reset (R36, R61, R77, R80, R94, R101, R121, R157); before BURN has derived its state the telling waits for it
(R154; log entry 83). The timer acts at any remaining time (log entry 5). -/
def Obligations.SupplyHoldEnds : Prop :=
  ∀ (n : Nat) (s : State), s.supplyActive = true → s.supply.hold = true →
    s.supply.returnTimer = some n → s.store.ready →
    ∃ t, exec .returnTimerExpiry s = .next t
      ∧ s.changesOnly [.inputs, .out, .zone, .burn, .gauge, .store, .supply, .link, .sett, .posts] t
      ∧ t.inputs = { s.inputs with
        held := if s.burnActive then s.inputs.held else s.inputs.held ++ [.hold false] }
      ∧ ∀ m, m = s.store.runMinute - s.supply.holdStart →
        t.supply = { s.supply with hold := false, returnTimer := none, lastDuration := some m }
        ∧ .mains ∈ t.link.notices
        ∧ t.store.array = .programming (.append (s.store.recordOf (.mains m)) none)
        ∧ (∃ more, t.store.queue = ⟨.mains m, none⟩ :: more)
        ∧ (∀ ch : Fin 10, t.out.channels[ch].settle = 2
          ∧ t.out.channels[ch].effective = t.tableEffective ch
          ∧ t.out.channels[ch].demand = s.out.channels[ch].demand
          ∧ t.out.channels[ch].load = s.out.channels[ch].load)
        ∧ (∀ z : Fin 6, ((s.zone.zones[z].call = false ∨ s.zone.zones[z].state ≠ .idle) →
            t.zone.zones[z] = s.zone.zones[z])
          ∧ (s.zone.zones[z].call = true → s.zone.zones[z].state = .idle →
            s.inputs.ends[z] ≠ some true → t.zone.zones[z] = { s.zone.zones[z] with
              state := .opening, timer := .travel (1000 * s.sett.working.zones[z].travel) })
          ∧ (s.zone.zones[z].call = true → s.zone.zones[z].state = .idle →
            s.inputs.ends[z] = some true → t.zone.zones[z] = { s.zone.zones[z] with
              state := .opened, timer := .stopped }))
        ∧ t.plantFormed
        ∧ t.gauge = { s.gauge with counter := 0, faulty := 0 }
        ∧ (s.burnActive = true → t.burn.inhibit.supply = false
          ∧ (t.burn.accRunning = true ↔ s.inputs.valve = some true)
          ∧ (s.burn.state = .latched → t.burn.state = .latched)
          ∧ (s.burn.state = .locked → s.burn.lockStep = .awaitRecord →
            t.burn.state = .locked ∧ t.burn.lockStep = .awaitRecord)
          ∧ (s.burn.state = .locked → s.burn.lockStep = .awaitMains →
            (s.inputs.lockout = some true →
              (s.burn.answer = .stored → t.burn.state = .cooldown
                ∧ t.burn.cooldown = some s.sett.working.cooldown)
              ∧ (s.burn.answer = .refused → t.burn.state = .held ∧ t.burn.heldReason = .store
                ∧ t.burn.lockoutOwed = true ∧ .held ∈ t.link.notices)
              ∧ (s.burn.answer = .none → t.burn.state = .locked
                ∧ t.burn.lockStep = .awaitRecord))
            ∧ (s.inputs.lockout ≠ some true → s.atRest t
              ∧ t.burn.proofPending = s.burn.proofPending ∧ t.burn.relock = s.burn.relock))
          ∧ (s.burn.state = .held → s.burn.owed = [] → s.burn.asks = [] →
            s.burn.lockoutOwed = false →
            (s.inputs.lockout = some true →
              (s.sett.working.authority ≠ .openToAll → t.burn.state = .held
                ∧ t.burn.heldReason = .awaitOrder)
              ∧ (s.sett.working.authority = .openToAll →
                s.sett.working.budget ≤ s.burn.window.length → t.burn.state = .held
                ∧ t.burn.heldReason = .budget)
              ∧ (s.sett.working.authority = .openToAll →
                s.burn.window.length < s.sett.working.budget → t.burn.state = .resetting
                ∧ t.burn.resetOrigin = .auto ∧ t.burn.resetPhase = .recording
                ∧ t.store.queue = [⟨.mains m, none⟩,
                  ⟨.reset .auto false (s.burn.window.length + 1), some .reset⟩]))
            ∧ (s.inputs.lockout ≠ some true → s.atRest t ∧ t.burn.proofPending = true
              ∧ t.burn.pendingOrigin = some .external
              ∧ t.store.queue = [⟨.mains m, none⟩,
                ⟨.reset .external true s.burn.window.length, some .closing⟩]))
          ∧ (∀ l, s.burn.state = .held → s.burn.heldReason = .store → s.burn.lockoutOwed = true →
            s.burn.lockoutAsked = false → s.burn.newest = some l → s.inputs.lockout = some true →
            s.burn.owed = [] → s.burn.asks = [] → t.burn.state = .held
            ∧ t.store.queue = [⟨.mains m, none⟩,
              ⟨.lockout l.cause l.left l.stage l.wasPending,
                some (.lockout s.burn.lockouts)⟩])
          ∧ (s.burn.state = .inhibited → s.inputs.lockout ≠ some true → s.atRest t
            ∧ (s.inputs.valve = some true → t.burn.state = .inhibited → t.burn.runaway = true))
          ∧ (s.burn.state.normal = true → s.inputs.lockout = some true →
            t.burn.state = .locked ∧ .lockout ∈ t.link.notices
            ∧ t.burn.newest = some
              ⟨if s.burn.stage = .reserve ∨ s.burn.stage = .dry then .starvation else .unknown,
                some s.burn.state, s.burn.stage, s.burn.proofPending⟩))

/-! ## Parameters (Chapter 11) -/

/-- GET: a reading group reports its contents, by the layouts of R162 (log entries 21, 22, 58, 67; a zone
without a node log entry 79; the burner group's owed records log entry 59, the place of its window minutes log
entry 88; the store group's rotation log entry 49, its minutes left as the model forms them under a guard
deferral), and clears the fresh marks of what it reports; a parameter and a point of the tank table report
their value in the width of its range, RESTART reads 0; a triple that does not exist, item 0 of a parameter
group, and a point at or beyond the point count, its item 3 included (log entry 31, DEDUCED), are refused (R6,
R176; addresses of Tables 11-1 and 11-2). -/
def Obligations.GetReportsWhatItNames : Prop :=
  ∀ (g i t : Byte) (s : State), s.takes →
    (∀ (c : Scan) (bs : List Byte),
      (g = 0x10 ∧ i = 0 ∧ t = 0 ∧ bs = layout s.measurementReport ∧ c = { s.scan with
          probe := { s.scan.probe with fresh := false }
          tankTemp := { s.scan.tankTemp with fresh := false }
          flowTemp := { s.scan.flowTemp with fresh := false }
          cs := s.scan.cs.map fun r => { r with fresh := false } })
      ∨ (∃ ch : Fin 10, g = 0x11 ∧ i.toNat = ch.val ∧ t = 0 ∧ bs = layout (s.channelReport ch)
        ∧ c = { s.scan with cs := s.scan.cs.set ch { s.scan.cs[ch] with fresh := false } })
      ∨ (∃ z : Fin 6, g = 0x12 ∧ i.toNat = z.val + 1 ∧ t = 0 ∧ bs = layout (s.zoneReport z)
        ∧ c = s.scan)
      ∨ (g = 0x13 ∧ i = 0 ∧ t = 0 ∧ bs = layout s.loopReport ∧ c = s.scan)
      ∨ (g = 0x14 ∧ i = 0 ∧ t = 0 ∧ bs = layout s.burnerReport ∧ c = { s.scan with
          flowTemp := { s.scan.flowTemp with fresh := false } })
      ∨ (g = 0x15 ∧ i = 0 ∧ t = 0 ∧ bs = layout s.fuelReport ∧ c = { s.scan with
          probe := { s.scan.probe with fresh := false }
          tankTemp := { s.scan.tankTemp with fresh := false } })
      ∨ (g = 0x16 ∧ i = 0 ∧ t = 0 ∧ c = s.scan ∧ bs = storeBytes s)
      ∨ (g = 0x17 ∧ i = 0 ∧ t = 0 ∧ bs = s.settingsReport ∧ c = s.scan) →
      exec (.getParam [g, i, t]) s = .next (State.replied { s with scan := c }
        (plainReply 0x03 .ok .none ([g, i, t] ++ bs))))
    ∧ (s.store.rotation ≠ .byGuard → storeBytes s = layout s.storeReport)
    ∧ (writable g.toNat i.toNat t.toNat → exec (.getParam [g, i, t]) s = .next (s.replied
      (plainReply 0x03 .ok .none ([g, i, t] ++ itemCoded s.sett.working g.toNat i.toNat t.toNat))))
    ∧ (∀ (p : Point) (bs : List Byte), g = 7 → s.sett.working.table[i.toNat]? = some p →
      (t = 1 ∧ bs = [BitVec.ofNat 8 p.depth, BitVec.ofNat 8 (p.depth / 256)])
        ∨ (t = 2 ∧ bs = [BitVec.ofNat 8 p.volume, BitVec.ofNat 8 (p.volume / 256)])
        ∨ (t = 3 ∧ bs = [BitVec.ofNat 8 s.sett.working.table.length]) →
      exec (.getParam [g, i, t]) s = .next (s.replied
        (plainReply 0x03 .ok .none ([g, i, t] ++ bs))))
    ∧ (g.toNat < 7 ∧ ¬ writable g.toNat i.toNat t.toNat
        ∨ (g = 7 ∧ (s.sett.working.table.length ≤ i.toNat ∨ t = 0 ∨ 3 < t.toNat))
        ∨ (8 ≤ g.toNat ∧ g.toNat < 16) ∨ 23 < g.toNat ∨ (16 ≤ g.toNat ∧ t ≠ 0)
        ∨ ((g = 0x10 ∨ (19 ≤ g.toNat ∧ g.toNat ≤ 23)) ∧ i ≠ 0)
        ∨ (g = 0x11 ∧ 9 < i.toNat) ∨ (g = 0x12 ∧ (i = 0 ∨ 6 < i.toNat)) →
      exec (.getParam [g, i, t]) s = .next (s.replied
        (plainReply 0x03 .refused .badValue [])))

/-- SET takes its checks in turn: the address, the length, the key, the enumeration, the range, the order;
then the value becomes the working value, one equal to the one held changing nothing, and the change acts
on its owning block (R163, R177, R178; a reset begun from HELD clears dark waiting, DESIGN CHOICE, log entry
56). The catalogue is Table 11-1's: its triples, key, ranges, codes, widths
and order checks, and each item is a place of its own in the working set. -/
def Obligations.SetFollowsItsSteps : Prop :=
  (∀ g i t : Nat, ((paramOf g i t).isSome = true ↔ writable g i t)
    ∧ ∀ p, paramOf g i t = some p →
      (p.keyed = true ↔ keyProtected g i t)
      ∧ (∀ w, (p.orderOk w = true ↔ orderKept w g i t) ∧ p.value w = itemOfSet w g i t)
      ∧ (∀ q w v, q ≠ p → q.value (p.store w v) = q.value w ∧ (p.store w v).table = w.table)
      ∧ (∀ lo hi, rangeOf g i t = some (lo, hi) →
        p.width = (if lo < 0 ∨ 255 < hi then 2 else 1)
        ∧ (∀ v, p.codeOk v = true ∧ p.encode v = valueCoded lo hi v)
        ∧ (∀ v, ¬ (g = 6 ∧ t = 3 ∧ v = 0) → p.clamp v = max lo (min v hi))
        ∧ (g = 6 → t = 3 → p.clamp 0 = 0)
        ∧ (∀ w v, lo ≤ v → v ≤ hi → p.value (p.store w v) = v)
        ∧ (∀ a : Byte, p.width = 1 → p.decode [a] = some (a.toNat : Int))
        ∧ (∀ a b : Byte, p.width = 2 → p.decode [a, b] =
          some (a.toNat + 256 * b.toNat - if lo < 0 ∧ 128 ≤ b.toNat then 65536 else 0 : Int)))
      ∧ (∀ n, codesOf g i t = some n → p.width = 1
        ∧ (∀ v, p.clamp v = v ∧ p.encode v = [BitVec.ofInt 8 v])
        ∧ (∀ a : Byte, p.decode [a] = some (a.toNat : Int)
          ∧ (p.codeOk a.toNat = true ↔ a.toNat < n ∧ ¬ (g = 3 ∧ i = 0 ∧ a = 1)
            ∧ ¬ (g = 3 ∧ i = 1 ∧ a ≠ 0)))
        ∧ ∀ w v, 0 ≤ v → v < n → p.value (p.store w v) = v))
  ∧ ∀ (g i t : Byte) (bytes : List Byte) (s : State), s.takes →
    bytes.length ≤ 117 →
    (paramOf g.toNat i.toNat t.toNat = none → exec (.setParam (g :: i :: t :: bytes)) s =
      .next (s.replied (plainReply 0x04 .refused .badValue [])))
    ∧ ∀ p, paramOf g.toNat i.toNat t.toNat = some p →
      (bytes.length ≠ p.width → exec (.setParam (g :: i :: t :: bytes)) s =
        .next (s.replied (plainReply 0x04 .refused .badLength [])))
      ∧ ∀ v, p.decode bytes = some v →
        (p.keyed = true → s.inputs.key ≠ some true →
          exec (.setParam (g :: i :: t :: bytes)) s =
            .next (s.replied (plainReply 0x04 .refused .keyRequired [])))
        ∧ (p.keyed = false ∨ s.inputs.key = some true →
          (p.codeOk v = false → exec (.setParam (g :: i :: t :: bytes)) s =
            .next (s.replied (plainReply 0x04 .refused .badValue [])))
          ∧ (p.codeOk v = true → p ≠ .restart → ∀ (c : Int) (w : Settings) (rep : Reply),
            c = p.clamp v → w = p.store s.sett.working c →
            rep = plainReply 0x04 (if c = v then .ok else .clamped) .none (p.encode c) →
            (p.orderOk w = false → exec (.setParam (g :: i :: t :: bytes)) s =
              .next (s.replied (plainReply 0x04 .refused .order [])))
            ∧ (p.orderOk w = true → p.value s.sett.working = c →
              exec (.setParam (g :: i :: t :: bytes)) s = .next (s.replied rep))
            ∧ (p.orderOk w = true → p.value s.sett.working ≠ c → ∀ b : State,
              b = { s with sett := { s.sett with working := w, changed := true } } →
              ((p = .silence ∨ (∃ z, p = .zone z .travel)
                  ∨ (∃ x, p = .burner x ∧ x ≠ .authority ∧ x ≠ .budget) ∨ p = .tank .coeff
                  ∨ p = .fuel .leak ∨ p = .fuel .delivery ∨ p = .fuel .wax
                  ∨ ((p = .burner .authority ∨ p = .burner .budget) ∧ s.burn.state ≠ .held
                    ∧ s.store.answers = [])
                  ∨ (p = .sink ∧ s.zone.boilerFrost = false)
                  ∨ (∃ z, p = .zone z .failSafe ∧ s.out.mode ≠ .failsafe) →
                exec (.setParam (g :: i :: t :: bytes)) s = .next (b.replied rep))
              ∧ (∀ ch : Fin 10, p = .channel ch .minMA ∨ p = .channel ch .maxMA →
                exec (.setParam (g :: i :: t :: bytes)) s = .next (State.replied
                  { b with out := { s.out with
                    channels := s.out.channels.set ch s.out.channels[ch].recounted } } rep))
              ∧ (p = .tank .zero ∨ p = .tank .full ∨ p = .tank .depth →
                exec (.setParam (g :: i :: t :: bytes)) s = .next (State.replied
                  { b with gauge := { s.gauge with
                    faulty := 0, window := [], filtered := none, vol := none, v15 := none } } rep))
              ∧ (p = .fuel .period → exec (.setParam (g :: i :: t :: bytes)) s =
                .next (State.replied
                  { b with fuel := { s.fuel with
                    periodTimer := 60 * c.toNat, deferred := false
                    ungauged := s.gauge.fault } } rep))
              ∧ ∃ u, exec (.setParam (g :: i :: t :: bytes)) s = .next u
                ∧ (p ≠ .silence → s.answered u rep)
                ∧ ((p ≠ .burner .authority ∧ p ≠ .burner .budget) ∨ s.recordsClear →
                  u.sett = b.sett)
                ∧ (∀ ch : Fin 10, p = .channel ch .failSafe ∨ p = .channel ch .standby →
                  s.changesOnly [.out, .sett, .link, .posts] u ∧ u.out.channels =
                    s.out.channels.set ch (s.out.channels[ch].entered (b.tableEffective ch)))
                ∧ (p = .fuel .nozzle → s.changesOnly [.burn, .gauge, .fuel, .sett, .link] u
                  ∧ u.burn.accMs = s.burn.accMs % 1000
                  ∧ u.fuel = (if s.burn.accMs < 1000 then s.fuel
                    else s.fuel.posted s.sett.working.nozzle (s.burn.accMs / 1000)))
                ∧ (p = .fuel .low ∨ p = .fuel .reserve ∨ p = .fuel .dry →
                  s.changesOnly [.fuel, .sett, .link, .posts] u
                  ∧ u.fuel = { s.fuel with stage := stageByRule w s.fuel.stage s.fuel.value }
                  ∧ (u.fuel.stage ≠ s.fuel.stage → .fuelStage ∈ u.link.notices
                    ∧ u.posts.stageBurn = s.posts.stageBurn ++ [u.fuel.stage]))
                ∧ (p = .burner .authority ∨ p = .burner .budget → s.burn.state = .held →
                  s.burn.heldReason ≠ .store → s.recordsClear → s.burn.lockoutOwed = false →
                  (w.authority ≠ .openToAll →
                    u.burn = { s.burn with heldReason := .awaitOrder })
                  ∧ (w.authority = .openToAll → w.budget ≤ s.burn.window.length →
                    u.burn = { s.burn with heldReason := .budget })
                  ∧ (w.authority = .openToAll → s.burn.window.length < w.budget →
                    s.supply.hold = false → b.resetBegun u .auto))
                ∧ (∀ (z : Fin 6) (x : ZoneItem), p = .zone z x →
                  s.changesOnly [.loop, .zone, .sett, .link, .posts] u
                  ∧ (x ≠ .travel → x ≠ .failSafe → u.zone.zones[z].target = u.targetByRule z
                    ∧ u.plantFormed
                    ∧ u.zone.zones[z].call = (w.zones[z].enabled
                      && (u.zone.zones[z].modeCall || u.zone.zones[z].frostCall
                        || u.zone.zones[z].sinkDrive)))
                  ∧ (x = .failSafe → s.out.mode = .failsafe →
                    u.zone.zones[z].target = u.targetByRule z ∧ u.plantFormed)
                  ∧ (x = .enabled ∨ x = .node ∨ x = .kind →
                    u.zone.zones[z].temp = none ∧ u.zone.zones[z].dial = none
                    ∧ u.zone.zones[z].contact = none ∧ u.zone.zones[z].statLost = false
                    ∧ u.zone.zones[z].sighted =
                      (if w.zones[z].enabled = true ∧ w.zones[z].node = 0 then .blind
                        else .awaiting))
                  ∧ (x = .enabled ∨ x = .node → ∀ (n : Fin 15) (y : Fin 6),
                    u.loop.nodes[n].zone = some y ↔
                      w.zones[y].enabled = true ∧ w.zones[y].node = n.val + 1))
                ∧ (p = .sink → s.zone.boilerFrost = true → ∀ y : Fin 6, c = y.val + 1 →
                  s.changesOnly [.loop, .zone, .sett, .link, .posts] u ∧ u.plantFormed
                  ∧ u.zone.zones[y].sinkDrive = true
                  ∧ u.zone.zones[s.sett.working.sink].sinkDrive = false)))))

/-! ## The host link (Chapter 10) -/

/-- FETCH as Table 10-5a answers it, the releasing one, any non-zero release flag (log entry 39, DEDUCED),
marked so (R169); ABORT ends the task in the slot with its owner's work dropped, but a KEEP past WAITING
(R15, R99, R119, R147, R149, R167). -/
def Obligations.FetchAndAbort : Prop :=
  ∀ s : State, s.takes →
    (∀ a b n r : Byte, ∀ offset, offset = a.toNat + 256 * b.toNat →
      (511 < offset ∨ n = 0 ∨ 96 < n.toNat → exec (.fetch [a, b, n, r]) s =
        .next (s.replied (plainReply 0x14 .refused .badValue [])))
      ∧ (offset ≤ 511 → n ≠ 0 → n.toNat ≤ 96 →
        (s.link.buffer = .empty → exec (.fetch [a, b, n, r]) s =
          .next (s.replied (plainReply 0x14 .refused .nothingHeld [])))
        ∧ (s.link.buffer = .filled → exec (.fetch [a, b, n, r]) s =
          .next (s.replied (plainReply 0x14 .refused .notNow [])))
        ∧ (s.link.buffer = .held → exec (.fetch [a, b, n, r]) s = .next (s.replied
          { kind := 0x14, reason := .none, restarts := false, releases := r != 0
            result := if offset + n.toNat ≤ s.link.content.length then .ok else .clamped
            data := byte16 offset
              ++ byte8 ((s.link.content.drop offset).take n.toNat).length
              ++ (s.link.content.drop offset).take n.toNat }))))
    ∧ (s.link.slot = none → exec (.abort []) s =
      .next (s.replied (plainReply 0x15 .refused .noTask [])))
    ∧ ∀ k serial, s.link.slot = some (k, serial) →
      (k = .keep → s.store.keep ≠ .waiting → exec (.abort []) s =
        .next (s.replied (plainReply 0x15 .refused .notAbortable [])))
      ∧ ∀ (b : State) (rep : Reply), rep = plainReply 0x15 .ok .none [] →
        b = { s with link := { s.link with
          slot := none, lastEnd := some ⟨k, serial, .aborted, .abort, 0⟩
          notices := insertNotice .taskEnd s.link.notices } } →
        (k = .keep → s.store.keep = .waiting → exec (.abort []) s = .next (State.replied
          { b with store := { s.store with
            keep := .none, eraseDue := s.store.eraseDue.filter (· ≠ .settings) } } rep))
        ∧ (k = .selftest → exec (.abort []) s = .next (State.replied
          { b with scan := { s.scan with taskWait := .none } } rep))
        ∧ (k = .burnerReset → exec (.abort []) s = .next (State.replied
          { b with burn := { s.burn with task := none, proofLimit := none } } rep))
        ∧ (k = .tableLoad → exec (.abort []) s = .next (State.replied
          { b with gauge := { s.gauge with load := none } } rep))
        ∧ (k = .historyRead → s.store.rotationNeeded = false → s.store.rotation.started = false →
          (∃ p, s.store.array = .programming p) → exec (.abort []) s = .next (State.replied
            { b with store := { s.store with reading := none, rotation := .none } } rep))

/-- The lines of the link. The receiver takes a start byte while HUNTING; a start byte in a frame's place of
the length, a gap, a bad length and a failing checksum abandon the frame silently (R159; log entry 35). IDENT
and STATUS report, and a notice's snapshot holds what its rule lists (R162; log entries 21, 91), and forming STATUS
clears LINK_OVERRUN and the dropped flag (R141, R160, R164). At TRANSMIT_COMPLETE the reply that left is no
longer owed, a releasing FETCH's buffer is EMPTY, and what comes next begins at once: an owed reply before any
notice, and of the notices, which every step keeps in ascending order and each once, the lowest with its
snapshot taken now; after the reply to a restart order the RESTART begins (R152, R165, R168, R169, R172). With
the service key RESTART_ORDER, SET of 1 to the restart item, changes nothing but the owed reply (R152, R176,
R177; log entry 14, its data byte log entry 86). -/
def Obligations.LinkLinesGoOn : Prop :=
  State.reset.noticesOnce ∧ (∀ s t : State, s.noticesOnce → step s = .next t → t.noticesOnce)
  ∧ ∀ s : State, s.running = true → s.noticesOnce →
    exec .startByte s = .next { s with link := { s.link with
      receiver := match s.link.receiver with
        | .hunting => .inFrame | .inFrame => .hunting | .complete => .complete } }
    ∧ exec .interByteGap s = .next { s with link := { s.link with
      receiver := if s.link.receiver = .inFrame then .hunting else s.link.receiver } }
    ∧ (∀ (l : Byte) (rest : List Byte),
      (((l = 0 ∨ 121 < l.toNat) ∧ rest = []) ∨ (l ≠ 0 ∧ l.toNat ≤ 121
          ∧ rest.length = l.toNat + 1 ∧ (l.toNat + (rest.map BitVec.toNat).sum) % 256 ≠ 0) →
        exec (.abandonedFrame (l :: rest)) s = .next { s with link := { s.link with
          receiver := if s.link.receiver = .inFrame then .hunting else s.link.receiver } })
      ∧ (l ≠ 0 → l.toNat ≤ 121 → (l.toNat + (rest.map BitVec.toNat).sum) % 256 = 0 →
        exec (.abandonedFrame (l :: rest)) s = .next s))
    ∧ codesByList
    ∧ (∀ n l, s.snapshotReport n = some l → snapshot n s = layout l)
    ∧ (s.link.owed = none →
      exec (.ident []) s = .next (s.replied (plainReply 0x01 .ok .none
        [0x57, 0x42, 0x36, 1, 6, 10, 15, 0, 2, 96]))
      ∧ exec (.status []) s = .next (State.replied
        { s with
          link := { s.link with overrun := false }
          store := { s.store with droppedFlag := false } }
        (plainReply 0x02 .ok .none (layout (State.statusReport s.heard)))))
    ∧ (∀ r, s.link.tx = .reply → s.link.owed = some r →
      (r.restarts = true → ∃ t, exec .transmitComplete s = .next t ∧ t.phase = .scanning
        ∧ t.link = Link.first ∧ t.out = Out.first ∧ t.burn = Burn.first
        ∧ t.store.runMinute = s.store.runMinute ∧ t.store.settings = s.store.settings)
      ∧ (r.restarts = false → ∃ tx left, s.sendsNext tx left
        ∧ exec .transmitComplete s = .next { s with link := { s.link with
          owed := none
          buffer := if r.releases then .empty else s.link.buffer
          content := if r.releases then [] else s.link.content
          tx := tx, notices := left } }))
    ∧ (∀ n x, s.link.tx = .notice n x →
      (∀ r, s.link.owed = some r → exec .transmitComplete s =
        .next { s with link := { s.link with tx := .reply } })
      ∧ (s.link.owed = none → ∃ tx left, s.sendsNext tx left
        ∧ exec .transmitComplete s = .next { s with link := { s.link with
          tx := tx, notices := left } }))
    ∧ exec .restartOrder s = exec (.setParam [1, 0, 2, 1]) s
    ∧ (s.link.owed = none →
      (s.inputs.key ≠ some true → exec .restartOrder s =
        .next (s.replied (plainReply 0x04 .refused .keyRequired [])))
      ∧ (s.inputs.key = some true → exec .restartOrder s = .next (s.replied
        { kind := 0x04, result := .ok, reason := .none, data := [1], releases := false
          restarts := true })))
end

