-- ==== Sys2Proof/Laws/State.lean ====
section
/-! SUPPORT. What each named update of the state leaves in each field: true by rfl. -/

namespace Sys2Proof.Machine

section OnInputs
variable (s : State) (f : Inputs → Inputs)

@[simp] theorem onInputs_phase : (s.onInputs f).phase = s.phase := rfl
@[simp] theorem onInputs_inputs : (s.onInputs f).inputs = f s.inputs := rfl
@[simp] theorem onInputs_scan : (s.onInputs f).scan = s.scan := rfl
@[simp] theorem onInputs_out : (s.onInputs f).out = s.out := rfl
@[simp] theorem onInputs_loop : (s.onInputs f).loop = s.loop := rfl
@[simp] theorem onInputs_zone : (s.onInputs f).zone = s.zone := rfl
@[simp] theorem onInputs_burn : (s.onInputs f).burn = s.burn := rfl
@[simp] theorem onInputs_gauge : (s.onInputs f).gauge = s.gauge := rfl
@[simp] theorem onInputs_fuel : (s.onInputs f).fuel = s.fuel := rfl
@[simp] theorem onInputs_store : (s.onInputs f).store = s.store := rfl
@[simp] theorem onInputs_supply : (s.onInputs f).supply = s.supply := rfl
@[simp] theorem onInputs_link : (s.onInputs f).link = s.link := rfl
@[simp] theorem onInputs_sett : (s.onInputs f).sett = s.sett := rfl
@[simp] theorem onInputs_svc : (s.onInputs f).svc = s.svc := rfl
@[simp] theorem onInputs_posts : (s.onInputs f).posts = s.posts := rfl
@[simp] theorem onInputs_free : (s.onInputs f).free = s.free := rfl
@[simp] theorem onInputs_pending : (s.onInputs f).pending = s.pending := rfl

end OnInputs

section OnScan
variable (s : State) (f : Scan → Scan)

@[simp] theorem onScan_phase : (s.onScan f).phase = s.phase := rfl
@[simp] theorem onScan_inputs : (s.onScan f).inputs = s.inputs := rfl
@[simp] theorem onScan_scan : (s.onScan f).scan = f s.scan := rfl
@[simp] theorem onScan_out : (s.onScan f).out = s.out := rfl
@[simp] theorem onScan_loop : (s.onScan f).loop = s.loop := rfl
@[simp] theorem onScan_zone : (s.onScan f).zone = s.zone := rfl
@[simp] theorem onScan_burn : (s.onScan f).burn = s.burn := rfl
@[simp] theorem onScan_gauge : (s.onScan f).gauge = s.gauge := rfl
@[simp] theorem onScan_fuel : (s.onScan f).fuel = s.fuel := rfl
@[simp] theorem onScan_store : (s.onScan f).store = s.store := rfl
@[simp] theorem onScan_supply : (s.onScan f).supply = s.supply := rfl
@[simp] theorem onScan_link : (s.onScan f).link = s.link := rfl
@[simp] theorem onScan_sett : (s.onScan f).sett = s.sett := rfl
@[simp] theorem onScan_svc : (s.onScan f).svc = s.svc := rfl
@[simp] theorem onScan_posts : (s.onScan f).posts = s.posts := rfl
@[simp] theorem onScan_free : (s.onScan f).free = s.free := rfl
@[simp] theorem onScan_pending : (s.onScan f).pending = s.pending := rfl

end OnScan

section OnOut
variable (s : State) (f : Out → Out)

@[simp] theorem onOut_phase : (s.onOut f).phase = s.phase := rfl
@[simp] theorem onOut_inputs : (s.onOut f).inputs = s.inputs := rfl
@[simp] theorem onOut_scan : (s.onOut f).scan = s.scan := rfl
@[simp] theorem onOut_out : (s.onOut f).out = f s.out := rfl
@[simp] theorem onOut_loop : (s.onOut f).loop = s.loop := rfl
@[simp] theorem onOut_zone : (s.onOut f).zone = s.zone := rfl
@[simp] theorem onOut_burn : (s.onOut f).burn = s.burn := rfl
@[simp] theorem onOut_gauge : (s.onOut f).gauge = s.gauge := rfl
@[simp] theorem onOut_fuel : (s.onOut f).fuel = s.fuel := rfl
@[simp] theorem onOut_store : (s.onOut f).store = s.store := rfl
@[simp] theorem onOut_supply : (s.onOut f).supply = s.supply := rfl
@[simp] theorem onOut_link : (s.onOut f).link = s.link := rfl
@[simp] theorem onOut_sett : (s.onOut f).sett = s.sett := rfl
@[simp] theorem onOut_svc : (s.onOut f).svc = s.svc := rfl
@[simp] theorem onOut_posts : (s.onOut f).posts = s.posts := rfl
@[simp] theorem onOut_free : (s.onOut f).free = s.free := rfl
@[simp] theorem onOut_pending : (s.onOut f).pending = s.pending := rfl

end OnOut

section OnLoop
variable (s : State) (f : StatLoop → StatLoop)

@[simp] theorem onLoop_phase : (s.onLoop f).phase = s.phase := rfl
@[simp] theorem onLoop_inputs : (s.onLoop f).inputs = s.inputs := rfl
@[simp] theorem onLoop_scan : (s.onLoop f).scan = s.scan := rfl
@[simp] theorem onLoop_out : (s.onLoop f).out = s.out := rfl
@[simp] theorem onLoop_loop : (s.onLoop f).loop = f s.loop := rfl
@[simp] theorem onLoop_zone : (s.onLoop f).zone = s.zone := rfl
@[simp] theorem onLoop_burn : (s.onLoop f).burn = s.burn := rfl
@[simp] theorem onLoop_gauge : (s.onLoop f).gauge = s.gauge := rfl
@[simp] theorem onLoop_fuel : (s.onLoop f).fuel = s.fuel := rfl
@[simp] theorem onLoop_store : (s.onLoop f).store = s.store := rfl
@[simp] theorem onLoop_supply : (s.onLoop f).supply = s.supply := rfl
@[simp] theorem onLoop_link : (s.onLoop f).link = s.link := rfl
@[simp] theorem onLoop_sett : (s.onLoop f).sett = s.sett := rfl
@[simp] theorem onLoop_svc : (s.onLoop f).svc = s.svc := rfl
@[simp] theorem onLoop_posts : (s.onLoop f).posts = s.posts := rfl
@[simp] theorem onLoop_free : (s.onLoop f).free = s.free := rfl
@[simp] theorem onLoop_pending : (s.onLoop f).pending = s.pending := rfl

end OnLoop

section OnZoneBlock
variable (s : State) (f : ZoneBlock → ZoneBlock)

@[simp] theorem onZoneBlock_phase : (s.onZoneBlock f).phase = s.phase := rfl
@[simp] theorem onZoneBlock_inputs : (s.onZoneBlock f).inputs = s.inputs := rfl
@[simp] theorem onZoneBlock_scan : (s.onZoneBlock f).scan = s.scan := rfl
@[simp] theorem onZoneBlock_out : (s.onZoneBlock f).out = s.out := rfl
@[simp] theorem onZoneBlock_loop : (s.onZoneBlock f).loop = s.loop := rfl
@[simp] theorem onZoneBlock_zone : (s.onZoneBlock f).zone = f s.zone := rfl
@[simp] theorem onZoneBlock_burn : (s.onZoneBlock f).burn = s.burn := rfl
@[simp] theorem onZoneBlock_gauge : (s.onZoneBlock f).gauge = s.gauge := rfl
@[simp] theorem onZoneBlock_fuel : (s.onZoneBlock f).fuel = s.fuel := rfl
@[simp] theorem onZoneBlock_store : (s.onZoneBlock f).store = s.store := rfl
@[simp] theorem onZoneBlock_supply : (s.onZoneBlock f).supply = s.supply := rfl
@[simp] theorem onZoneBlock_link : (s.onZoneBlock f).link = s.link := rfl
@[simp] theorem onZoneBlock_sett : (s.onZoneBlock f).sett = s.sett := rfl
@[simp] theorem onZoneBlock_svc : (s.onZoneBlock f).svc = s.svc := rfl
@[simp] theorem onZoneBlock_posts : (s.onZoneBlock f).posts = s.posts := rfl
@[simp] theorem onZoneBlock_free : (s.onZoneBlock f).free = s.free := rfl
@[simp] theorem onZoneBlock_pending : (s.onZoneBlock f).pending = s.pending := rfl

end OnZoneBlock

section OnBurn
variable (s : State) (f : Burn → Burn)

@[simp] theorem onBurn_phase : (s.onBurn f).phase = s.phase := rfl
@[simp] theorem onBurn_inputs : (s.onBurn f).inputs = s.inputs := rfl
@[simp] theorem onBurn_scan : (s.onBurn f).scan = s.scan := rfl
@[simp] theorem onBurn_out : (s.onBurn f).out = s.out := rfl
@[simp] theorem onBurn_loop : (s.onBurn f).loop = s.loop := rfl
@[simp] theorem onBurn_zone : (s.onBurn f).zone = s.zone := rfl
@[simp] theorem onBurn_burn : (s.onBurn f).burn = f s.burn := rfl
@[simp] theorem onBurn_gauge : (s.onBurn f).gauge = s.gauge := rfl
@[simp] theorem onBurn_fuel : (s.onBurn f).fuel = s.fuel := rfl
@[simp] theorem onBurn_store : (s.onBurn f).store = s.store := rfl
@[simp] theorem onBurn_supply : (s.onBurn f).supply = s.supply := rfl
@[simp] theorem onBurn_link : (s.onBurn f).link = s.link := rfl
@[simp] theorem onBurn_sett : (s.onBurn f).sett = s.sett := rfl
@[simp] theorem onBurn_svc : (s.onBurn f).svc = s.svc := rfl
@[simp] theorem onBurn_posts : (s.onBurn f).posts = s.posts := rfl
@[simp] theorem onBurn_free : (s.onBurn f).free = s.free := rfl
@[simp] theorem onBurn_pending : (s.onBurn f).pending = s.pending := rfl

end OnBurn

section OnGauge
variable (s : State) (f : Gauge → Gauge)

@[simp] theorem onGauge_phase : (s.onGauge f).phase = s.phase := rfl
@[simp] theorem onGauge_inputs : (s.onGauge f).inputs = s.inputs := rfl
@[simp] theorem onGauge_scan : (s.onGauge f).scan = s.scan := rfl
@[simp] theorem onGauge_out : (s.onGauge f).out = s.out := rfl
@[simp] theorem onGauge_loop : (s.onGauge f).loop = s.loop := rfl
@[simp] theorem onGauge_zone : (s.onGauge f).zone = s.zone := rfl
@[simp] theorem onGauge_burn : (s.onGauge f).burn = s.burn := rfl
@[simp] theorem onGauge_gauge : (s.onGauge f).gauge = f s.gauge := rfl
@[simp] theorem onGauge_fuel : (s.onGauge f).fuel = s.fuel := rfl
@[simp] theorem onGauge_store : (s.onGauge f).store = s.store := rfl
@[simp] theorem onGauge_supply : (s.onGauge f).supply = s.supply := rfl
@[simp] theorem onGauge_link : (s.onGauge f).link = s.link := rfl
@[simp] theorem onGauge_sett : (s.onGauge f).sett = s.sett := rfl
@[simp] theorem onGauge_svc : (s.onGauge f).svc = s.svc := rfl
@[simp] theorem onGauge_posts : (s.onGauge f).posts = s.posts := rfl
@[simp] theorem onGauge_free : (s.onGauge f).free = s.free := rfl
@[simp] theorem onGauge_pending : (s.onGauge f).pending = s.pending := rfl

end OnGauge

section OnFuel
variable (s : State) (f : Fuel → Fuel)

@[simp] theorem onFuel_phase : (s.onFuel f).phase = s.phase := rfl
@[simp] theorem onFuel_inputs : (s.onFuel f).inputs = s.inputs := rfl
@[simp] theorem onFuel_scan : (s.onFuel f).scan = s.scan := rfl
@[simp] theorem onFuel_out : (s.onFuel f).out = s.out := rfl
@[simp] theorem onFuel_loop : (s.onFuel f).loop = s.loop := rfl
@[simp] theorem onFuel_zone : (s.onFuel f).zone = s.zone := rfl
@[simp] theorem onFuel_burn : (s.onFuel f).burn = s.burn := rfl
@[simp] theorem onFuel_gauge : (s.onFuel f).gauge = s.gauge := rfl
@[simp] theorem onFuel_fuel : (s.onFuel f).fuel = f s.fuel := rfl
@[simp] theorem onFuel_store : (s.onFuel f).store = s.store := rfl
@[simp] theorem onFuel_supply : (s.onFuel f).supply = s.supply := rfl
@[simp] theorem onFuel_link : (s.onFuel f).link = s.link := rfl
@[simp] theorem onFuel_sett : (s.onFuel f).sett = s.sett := rfl
@[simp] theorem onFuel_svc : (s.onFuel f).svc = s.svc := rfl
@[simp] theorem onFuel_posts : (s.onFuel f).posts = s.posts := rfl
@[simp] theorem onFuel_free : (s.onFuel f).free = s.free := rfl
@[simp] theorem onFuel_pending : (s.onFuel f).pending = s.pending := rfl

end OnFuel

section OnStore
variable (s : State) (f : Store → Store)

@[simp] theorem onStore_phase : (s.onStore f).phase = s.phase := rfl
@[simp] theorem onStore_inputs : (s.onStore f).inputs = s.inputs := rfl
@[simp] theorem onStore_scan : (s.onStore f).scan = s.scan := rfl
@[simp] theorem onStore_out : (s.onStore f).out = s.out := rfl
@[simp] theorem onStore_loop : (s.onStore f).loop = s.loop := rfl
@[simp] theorem onStore_zone : (s.onStore f).zone = s.zone := rfl
@[simp] theorem onStore_burn : (s.onStore f).burn = s.burn := rfl
@[simp] theorem onStore_gauge : (s.onStore f).gauge = s.gauge := rfl
@[simp] theorem onStore_fuel : (s.onStore f).fuel = s.fuel := rfl
@[simp] theorem onStore_store : (s.onStore f).store = f s.store := rfl
@[simp] theorem onStore_supply : (s.onStore f).supply = s.supply := rfl
@[simp] theorem onStore_link : (s.onStore f).link = s.link := rfl
@[simp] theorem onStore_sett : (s.onStore f).sett = s.sett := rfl
@[simp] theorem onStore_svc : (s.onStore f).svc = s.svc := rfl
@[simp] theorem onStore_posts : (s.onStore f).posts = s.posts := rfl
@[simp] theorem onStore_free : (s.onStore f).free = s.free := rfl
@[simp] theorem onStore_pending : (s.onStore f).pending = s.pending := rfl

end OnStore

section OnSupply
variable (s : State) (f : Supply → Supply)

@[simp] theorem onSupply_phase : (s.onSupply f).phase = s.phase := rfl
@[simp] theorem onSupply_inputs : (s.onSupply f).inputs = s.inputs := rfl
@[simp] theorem onSupply_scan : (s.onSupply f).scan = s.scan := rfl
@[simp] theorem onSupply_out : (s.onSupply f).out = s.out := rfl
@[simp] theorem onSupply_loop : (s.onSupply f).loop = s.loop := rfl
@[simp] theorem onSupply_zone : (s.onSupply f).zone = s.zone := rfl
@[simp] theorem onSupply_burn : (s.onSupply f).burn = s.burn := rfl
@[simp] theorem onSupply_gauge : (s.onSupply f).gauge = s.gauge := rfl
@[simp] theorem onSupply_fuel : (s.onSupply f).fuel = s.fuel := rfl
@[simp] theorem onSupply_store : (s.onSupply f).store = s.store := rfl
@[simp] theorem onSupply_supply : (s.onSupply f).supply = f s.supply := rfl
@[simp] theorem onSupply_link : (s.onSupply f).link = s.link := rfl
@[simp] theorem onSupply_sett : (s.onSupply f).sett = s.sett := rfl
@[simp] theorem onSupply_svc : (s.onSupply f).svc = s.svc := rfl
@[simp] theorem onSupply_posts : (s.onSupply f).posts = s.posts := rfl
@[simp] theorem onSupply_free : (s.onSupply f).free = s.free := rfl
@[simp] theorem onSupply_pending : (s.onSupply f).pending = s.pending := rfl

end OnSupply

section OnLink
variable (s : State) (f : Link → Link)

@[simp] theorem onLink_phase : (s.onLink f).phase = s.phase := rfl
@[simp] theorem onLink_inputs : (s.onLink f).inputs = s.inputs := rfl
@[simp] theorem onLink_scan : (s.onLink f).scan = s.scan := rfl
@[simp] theorem onLink_out : (s.onLink f).out = s.out := rfl
@[simp] theorem onLink_loop : (s.onLink f).loop = s.loop := rfl
@[simp] theorem onLink_zone : (s.onLink f).zone = s.zone := rfl
@[simp] theorem onLink_burn : (s.onLink f).burn = s.burn := rfl
@[simp] theorem onLink_gauge : (s.onLink f).gauge = s.gauge := rfl
@[simp] theorem onLink_fuel : (s.onLink f).fuel = s.fuel := rfl
@[simp] theorem onLink_store : (s.onLink f).store = s.store := rfl
@[simp] theorem onLink_supply : (s.onLink f).supply = s.supply := rfl
@[simp] theorem onLink_link : (s.onLink f).link = f s.link := rfl
@[simp] theorem onLink_sett : (s.onLink f).sett = s.sett := rfl
@[simp] theorem onLink_svc : (s.onLink f).svc = s.svc := rfl
@[simp] theorem onLink_posts : (s.onLink f).posts = s.posts := rfl
@[simp] theorem onLink_free : (s.onLink f).free = s.free := rfl
@[simp] theorem onLink_pending : (s.onLink f).pending = s.pending := rfl

end OnLink

section OnSett
variable (s : State) (f : SetBlock → SetBlock)

@[simp] theorem onSett_phase : (s.onSett f).phase = s.phase := rfl
@[simp] theorem onSett_inputs : (s.onSett f).inputs = s.inputs := rfl
@[simp] theorem onSett_scan : (s.onSett f).scan = s.scan := rfl
@[simp] theorem onSett_out : (s.onSett f).out = s.out := rfl
@[simp] theorem onSett_loop : (s.onSett f).loop = s.loop := rfl
@[simp] theorem onSett_zone : (s.onSett f).zone = s.zone := rfl
@[simp] theorem onSett_burn : (s.onSett f).burn = s.burn := rfl
@[simp] theorem onSett_gauge : (s.onSett f).gauge = s.gauge := rfl
@[simp] theorem onSett_fuel : (s.onSett f).fuel = s.fuel := rfl
@[simp] theorem onSett_store : (s.onSett f).store = s.store := rfl
@[simp] theorem onSett_supply : (s.onSett f).supply = s.supply := rfl
@[simp] theorem onSett_link : (s.onSett f).link = s.link := rfl
@[simp] theorem onSett_sett : (s.onSett f).sett = f s.sett := rfl
@[simp] theorem onSett_svc : (s.onSett f).svc = s.svc := rfl
@[simp] theorem onSett_posts : (s.onSett f).posts = s.posts := rfl
@[simp] theorem onSett_free : (s.onSett f).free = s.free := rfl
@[simp] theorem onSett_pending : (s.onSett f).pending = s.pending := rfl

end OnSett

section OnSvc
variable (s : State) (f : Svc → Svc)

@[simp] theorem onSvc_phase : (s.onSvc f).phase = s.phase := rfl
@[simp] theorem onSvc_inputs : (s.onSvc f).inputs = s.inputs := rfl
@[simp] theorem onSvc_scan : (s.onSvc f).scan = s.scan := rfl
@[simp] theorem onSvc_out : (s.onSvc f).out = s.out := rfl
@[simp] theorem onSvc_loop : (s.onSvc f).loop = s.loop := rfl
@[simp] theorem onSvc_zone : (s.onSvc f).zone = s.zone := rfl
@[simp] theorem onSvc_burn : (s.onSvc f).burn = s.burn := rfl
@[simp] theorem onSvc_gauge : (s.onSvc f).gauge = s.gauge := rfl
@[simp] theorem onSvc_fuel : (s.onSvc f).fuel = s.fuel := rfl
@[simp] theorem onSvc_store : (s.onSvc f).store = s.store := rfl
@[simp] theorem onSvc_supply : (s.onSvc f).supply = s.supply := rfl
@[simp] theorem onSvc_link : (s.onSvc f).link = s.link := rfl
@[simp] theorem onSvc_sett : (s.onSvc f).sett = s.sett := rfl
@[simp] theorem onSvc_svc : (s.onSvc f).svc = f s.svc := rfl
@[simp] theorem onSvc_posts : (s.onSvc f).posts = s.posts := rfl
@[simp] theorem onSvc_free : (s.onSvc f).free = s.free := rfl
@[simp] theorem onSvc_pending : (s.onSvc f).pending = s.pending := rfl

end OnSvc

section OnPosts
variable (s : State) (f : Posts → Posts)

@[simp] theorem onPosts_phase : (s.onPosts f).phase = s.phase := rfl
@[simp] theorem onPosts_inputs : (s.onPosts f).inputs = s.inputs := rfl
@[simp] theorem onPosts_scan : (s.onPosts f).scan = s.scan := rfl
@[simp] theorem onPosts_out : (s.onPosts f).out = s.out := rfl
@[simp] theorem onPosts_loop : (s.onPosts f).loop = s.loop := rfl
@[simp] theorem onPosts_zone : (s.onPosts f).zone = s.zone := rfl
@[simp] theorem onPosts_burn : (s.onPosts f).burn = s.burn := rfl
@[simp] theorem onPosts_gauge : (s.onPosts f).gauge = s.gauge := rfl
@[simp] theorem onPosts_fuel : (s.onPosts f).fuel = s.fuel := rfl
@[simp] theorem onPosts_store : (s.onPosts f).store = s.store := rfl
@[simp] theorem onPosts_supply : (s.onPosts f).supply = s.supply := rfl
@[simp] theorem onPosts_link : (s.onPosts f).link = s.link := rfl
@[simp] theorem onPosts_sett : (s.onPosts f).sett = s.sett := rfl
@[simp] theorem onPosts_svc : (s.onPosts f).svc = s.svc := rfl
@[simp] theorem onPosts_posts : (s.onPosts f).posts = f s.posts := rfl
@[simp] theorem onPosts_free : (s.onPosts f).free = s.free := rfl
@[simp] theorem onPosts_pending : (s.onPosts f).pending = s.pending := rfl

end OnPosts

section OnPhase
variable (s : State) (p : Phase)

@[simp] theorem withPhase_phase : (s.withPhase p).phase = p := rfl
@[simp] theorem withPhase_inputs : (s.withPhase p).inputs = s.inputs := rfl
@[simp] theorem withPhase_scan : (s.withPhase p).scan = s.scan := rfl
@[simp] theorem withPhase_out : (s.withPhase p).out = s.out := rfl
@[simp] theorem withPhase_loop : (s.withPhase p).loop = s.loop := rfl
@[simp] theorem withPhase_zone : (s.withPhase p).zone = s.zone := rfl
@[simp] theorem withPhase_burn : (s.withPhase p).burn = s.burn := rfl
@[simp] theorem withPhase_gauge : (s.withPhase p).gauge = s.gauge := rfl
@[simp] theorem withPhase_fuel : (s.withPhase p).fuel = s.fuel := rfl
@[simp] theorem withPhase_store : (s.withPhase p).store = s.store := rfl
@[simp] theorem withPhase_supply : (s.withPhase p).supply = s.supply := rfl
@[simp] theorem withPhase_link : (s.withPhase p).link = s.link := rfl
@[simp] theorem withPhase_sett : (s.withPhase p).sett = s.sett := rfl
@[simp] theorem withPhase_svc : (s.withPhase p).svc = s.svc := rfl
@[simp] theorem withPhase_posts : (s.withPhase p).posts = s.posts := rfl
@[simp] theorem withPhase_free : (s.withPhase p).free = s.free := rfl
@[simp] theorem withPhase_pending : (s.withPhase p).pending = s.pending := rfl

end OnPhase

section OnPending
variable (s : State) (q : List Instr)

@[simp] theorem withPending_phase : (s.withPending q).phase = s.phase := rfl
@[simp] theorem withPending_inputs : (s.withPending q).inputs = s.inputs := rfl
@[simp] theorem withPending_scan : (s.withPending q).scan = s.scan := rfl
@[simp] theorem withPending_out : (s.withPending q).out = s.out := rfl
@[simp] theorem withPending_loop : (s.withPending q).loop = s.loop := rfl
@[simp] theorem withPending_zone : (s.withPending q).zone = s.zone := rfl
@[simp] theorem withPending_burn : (s.withPending q).burn = s.burn := rfl
@[simp] theorem withPending_gauge : (s.withPending q).gauge = s.gauge := rfl
@[simp] theorem withPending_fuel : (s.withPending q).fuel = s.fuel := rfl
@[simp] theorem withPending_store : (s.withPending q).store = s.store := rfl
@[simp] theorem withPending_supply : (s.withPending q).supply = s.supply := rfl
@[simp] theorem withPending_link : (s.withPending q).link = s.link := rfl
@[simp] theorem withPending_sett : (s.withPending q).sett = s.sett := rfl
@[simp] theorem withPending_svc : (s.withPending q).svc = s.svc := rfl
@[simp] theorem withPending_posts : (s.withPending q).posts = s.posts := rfl
@[simp] theorem withPending_free : (s.withPending q).free = s.free := rfl
@[simp] theorem withPending_pending : (s.withPending q).pending = q := rfl

end OnPending

section OnFree
variable (s : State)

@[simp] theorem drawFree_phase : s.drawFree.phase = s.phase := rfl
@[simp] theorem drawFree_inputs : s.drawFree.inputs = s.inputs := rfl
@[simp] theorem drawFree_scan : s.drawFree.scan = s.scan := rfl
@[simp] theorem drawFree_out : s.drawFree.out = s.out := rfl
@[simp] theorem drawFree_loop : s.drawFree.loop = s.loop := rfl
@[simp] theorem drawFree_zone : s.drawFree.zone = s.zone := rfl
@[simp] theorem drawFree_burn : s.drawFree.burn = s.burn := rfl
@[simp] theorem drawFree_gauge : s.drawFree.gauge = s.gauge := rfl
@[simp] theorem drawFree_fuel : s.drawFree.fuel = s.fuel := rfl
@[simp] theorem drawFree_store : s.drawFree.store = s.store := rfl
@[simp] theorem drawFree_supply : s.drawFree.supply = s.supply := rfl
@[simp] theorem drawFree_link : s.drawFree.link = s.link := rfl
@[simp] theorem drawFree_sett : s.drawFree.sett = s.sett := rfl
@[simp] theorem drawFree_svc : s.drawFree.svc = s.svc := rfl
@[simp] theorem drawFree_posts : s.drawFree.posts = s.posts := rfl
@[simp] theorem drawFree_free : s.drawFree.free = s.free + 1 := rfl
@[simp] theorem drawFree_pending : s.drawFree.pending = s.pending := rfl

end OnFree

end Sys2Proof.Machine
end

