-- ==== Sys2Proof/Laws/Footprints.lean ====
section
/-! SUPPORT. The footprint of every shared operation: which parts of the state it can change. A
    state
with some parts hidden is equal before and after an operation that changes hidden parts alone, so
    that
these lemmas compose by rewriting. -/

namespace Sys2Proof.Machine

/-- The state with the parts of `F` put at their reset values. -/
def State.hide (F : List Block) (s : State) : State :=
  { phase := if Block.phase ∈ F then State.reset.phase else s.phase,
    inputs := if Block.inputs ∈ F then State.reset.inputs else s.inputs,
    scan := if Block.scan ∈ F then State.reset.scan else s.scan,
    out := if Block.out ∈ F then State.reset.out else s.out,
    loop := if Block.loop ∈ F then State.reset.loop else s.loop,
    zone := if Block.zone ∈ F then State.reset.zone else s.zone,
    burn := if Block.burn ∈ F then State.reset.burn else s.burn,
    gauge := if Block.gauge ∈ F then State.reset.gauge else s.gauge,
    fuel := if Block.fuel ∈ F then State.reset.fuel else s.fuel,
    store := if Block.store ∈ F then State.reset.store else s.store,
    supply := if Block.supply ∈ F then State.reset.supply else s.supply,
    link := if Block.link ∈ F then State.reset.link else s.link,
    sett := if Block.sett ∈ F then State.reset.sett else s.sett,
    svc := if Block.svc ∈ F then State.reset.svc else s.svc,
    posts := if Block.posts ∈ F then State.reset.posts else s.posts,
    free := if Block.free ∈ F then State.reset.free else s.free,
    pending := if Block.pending ∈ F then State.reset.pending else s.pending }

variable {F : List Block}

/-- Hidden states agree exactly when everything outside the hidden parts does. -/
theorem hide_eq_iff {s t : State} : t.hide F = s.hide F ↔ State.changesOnly F s t := by
  constructor
  · intro h b hb
    have key := fun {α : Type} (p : State → α) => congrArg p h
    cases b <;> simp only [State.sameAt]
    · simpa [State.hide, hb] using key State.phase
    · simpa [State.hide, hb] using key State.inputs
    · simpa [State.hide, hb] using key State.scan
    · simpa [State.hide, hb] using key State.out
    · simpa [State.hide, hb] using key State.loop
    · simpa [State.hide, hb] using key State.zone
    · simpa [State.hide, hb] using key State.burn
    · simpa [State.hide, hb] using key State.gauge
    · simpa [State.hide, hb] using key State.fuel
    · simpa [State.hide, hb] using key State.store
    · simpa [State.hide, hb] using key State.supply
    · simpa [State.hide, hb] using key State.link
    · simpa [State.hide, hb] using key State.sett
    · simpa [State.hide, hb] using key State.svc
    · simpa [State.hide, hb] using key State.posts
    · simpa [State.hide, hb] using key State.free
    · simpa [State.hide, hb] using key State.pending
  · intro h
    simp only [State.hide, State.mk.injEq]
    refine ⟨?_, ?_, ?_, ?_, ?_, ?_, ?_, ?_, ?_, ?_, ?_, ?_, ?_, ?_, ?_, ?_,
        ?_⟩ <;> split <;> rename_i hb <;> first | rfl | exact h _ hb

@[simp] theorem hide_onInputs (s : State) (f : Inputs → Inputs) (h : Block.inputs ∈ F) :
    (s.onInputs f).hide F = s.hide F := by simp [State.hide, State.onInputs, h]
@[simp] theorem hide_onScan (s : State) (f : Scan → Scan) (h : Block.scan ∈ F) :
    (s.onScan f).hide F = s.hide F := by simp [State.hide, State.onScan, h]
@[simp] theorem hide_onOut (s : State) (f : Out → Out) (h : Block.out ∈ F) :
    (s.onOut f).hide F = s.hide F := by simp [State.hide, State.onOut, h]
@[simp] theorem hide_onLoop (s : State) (f : StatLoop → StatLoop) (h : Block.loop ∈ F) :
    (s.onLoop f).hide F = s.hide F := by simp [State.hide, State.onLoop, h]
@[simp] theorem hide_onZoneBlock (s : State) (f : ZoneBlock → ZoneBlock) (h : Block.zone ∈ F) :
    (s.onZoneBlock f).hide F = s.hide F := by simp [State.hide, State.onZoneBlock, h]
@[simp] theorem hide_onBurn (s : State) (f : Burn → Burn) (h : Block.burn ∈ F) :
    (s.onBurn f).hide F = s.hide F := by simp [State.hide, State.onBurn, h]
@[simp] theorem hide_onGauge (s : State) (f : Gauge → Gauge) (h : Block.gauge ∈ F) :
    (s.onGauge f).hide F = s.hide F := by simp [State.hide, State.onGauge, h]
@[simp] theorem hide_onFuel (s : State) (f : Fuel → Fuel) (h : Block.fuel ∈ F) :
    (s.onFuel f).hide F = s.hide F := by simp [State.hide, State.onFuel, h]
@[simp] theorem hide_onStore (s : State) (f : Store → Store) (h : Block.store ∈ F) :
    (s.onStore f).hide F = s.hide F := by simp [State.hide, State.onStore, h]
@[simp] theorem hide_onSupply (s : State) (f : Supply → Supply) (h : Block.supply ∈ F) :
    (s.onSupply f).hide F = s.hide F := by simp [State.hide, State.onSupply, h]
@[simp] theorem hide_onLink (s : State) (f : Link → Link) (h : Block.link ∈ F) :
    (s.onLink f).hide F = s.hide F := by simp [State.hide, State.onLink, h]
@[simp] theorem hide_onSett (s : State) (f : SetBlock → SetBlock) (h : Block.sett ∈ F) :
    (s.onSett f).hide F = s.hide F := by simp [State.hide, State.onSett, h]
@[simp] theorem hide_onSvc (s : State) (f : Svc → Svc) (h : Block.svc ∈ F) :
    (s.onSvc f).hide F = s.hide F := by simp [State.hide, State.onSvc, h]
@[simp] theorem hide_onPosts (s : State) (f : Posts → Posts) (h : Block.posts ∈ F) :
    (s.onPosts f).hide F = s.hide F := by simp [State.hide, State.onPosts, h]
@[simp] theorem hide_withPhase (s : State) (p : Phase) (h : Block.phase ∈ F) :
    (s.withPhase p).hide F = s.hide F := by simp [State.hide, State.withPhase, h]
@[simp] theorem hide_withPending (s : State) (q : List Instr) (h : Block.pending ∈ F) :
    (s.withPending q).hide F = s.hide F := by simp [State.hide, State.withPending, h]
@[simp] theorem hide_drawFree (s : State)
    (h : Block.free ∈ F) : s.drawFree.hide F = s.hide F := by
  simp [State.hide, State.drawFree, h]

/-- A fold of steps that each keep what is shown keeps it. -/
theorem hide_foldl {α : Type} (f : State → α → State) (h : ∀ t a, (f t a).hide F = t.hide F)
    (l : List α) (s : State) : (l.foldl f s).hide F = s.hide F := by
  induction l generalizing s with
  | nil => rfl
  | cons a rest ih => rw [List.foldl_cons, ih, h]

@[simp] theorem hide_ite (c : Prop) [Decidable c] (s t : State) :
    (if c then s else t).hide F = if c then s.hide F else t.hide F := by split <;> rfl

@[simp] theorem hide_ite_fst (c : Prop) [Decidable c] (s t : State × Reply) :
    (if c then s else t).1.hide F = if c then s.1.hide F else t.1.hide F := by split <;> rfl


@[simp] theorem hide_onNode (s : State) (n : Fin 15) (f : Node → Node) (loop : Block.loop ∈ F) :
    (State.onNode s n f).hide F = s.hide F := by
  unfold State.onNode
  simp [loop]

@[simp] theorem hide_postPump (v : Bool) (s : State) (posts : Block.posts ∈ F) :
    (postPump v s).hide F = s.hide F := by
  unfold postPump
  simp [posts]

@[simp] theorem hide_postStage (g : FuelStage) (s : State) (posts : Block.posts ∈ F) :
    (postStage g s).hide F = s.hide F := by
  unfold postStage
  simp [posts]

@[simp] theorem hide_fillBuffer (content : List Byte) (s : State) (link : Block.link ∈ F) :
    (fillBuffer content s).hide F = s.hide F := by
  unfold fillBuffer
  simp [link]

@[simp] theorem hide_startTask (k : TaskKind) (s : State) (link : Block.link ∈ F) :
    (startTask k s).hide F = s.hide F := by
  unfold startTask
  simp [link]

@[simp] theorem hide_postHeat (v : Bool) (s : State) (posts : Block.posts ∈ F) :
    (postHeat v s).hide F = s.hide F := by
  unfold postHeat
  simp [posts]

@[simp] theorem hide_postNotice (n : Notice) (s : State) (link : Block.link ∈ F) :
    (postNotice n s).hide F = s.hide F := by
  unfold postNotice
  simp [link]

@[simp] theorem hide_endTask (o : TaskOutcome) (r : ReasonCode) (size : Nat) (s : State)
    (link : Block.link ∈ F) :
    (endTask o r size s).hide F = s.hide F := by
  unfold endTask
  (repeat' split) <;> simp [link]

@[simp] theorem hide_onZone (s : State) (z : Fin 6) (f : Zone → Zone) (zone : Block.zone ∈ F) :
    (State.onZone s z f).hide F = s.hide F := by
  unfold State.onZone
  simp [zone]

@[simp] theorem hide_postDemand (ch : Fin 10) (v : Bool) (s : State) (posts : Block.posts ∈ F) :
    (postDemand ch v s).hide F = s.hide F := by
  unfold postDemand
  simp [posts]

@[simp] theorem hide_onChan (s : State) (ch : Fin 10) (f : Channel → Channel)
    (out : Block.out ∈ F) :
    (State.onChan s ch f).hide F = s.hide F := by
  unfold State.onChan
  simp [out]

@[simp] theorem hide_postOverrun (v : Bool) (s : State) (posts : Block.posts ∈ F) :
    (postOverrun v s).hide F = s.hide F := by
  unfold postOverrun
  simp [posts]

@[simp] theorem hide_endReading (t : ReadTask) (s : State) (store : Block.store ∈ F)
    (link : Block.link ∈ F) :
    (endReading t s).hide F = s.hide F := by
  unfold endReading
  (repeat' split) <;> simp [store, link]

theorem hide_serveOnce {s t : State} (h : serveOnce s = some t) (store : Block.store ∈ F)
    (link : Block.link ∈ F) (sett : Block.sett ∈ F) : t.hide F = s.hide F := by
  unfold serveOnce startErase at h
  repeat' split at h
  all_goals cases h
  all_goals simp [store, link, sett]

@[simp] theorem hide_serve (n : Nat) (s : State) (store : Block.store ∈ F) (link : Block.link ∈ F)
    (sett : Block.sett ∈ F) : (serve n s).hide F = s.hide F := by
  induction n generalizing s with
  | zero => rfl
  | succ n ih =>
    unfold serve
    repeat' split
    · rename_i h; rw [ih, hide_serveOnce h store link sett]
    · rfl
    · rfl

@[simp] theorem hide_kick (s : State) (store : Block.store ∈ F) (link : Block.link ∈ F)
    (sett : Block.sett ∈ F) :
    (kick s).hide F = s.hide F := by
  unfold kick
  (repeat' split) <;> simp [store, link, sett]

@[simp] theorem hide_lookAtRotation (s : State) (store : Block.store ∈ F) (link : Block.link ∈ F)
    (sett : Block.sett ∈ F) :
    (lookAtRotation s).hide F = s.hide F := by
  unfold lookAtRotation
  simp [store, link, sett]

@[simp] theorem hide_cutArray (s : State) (store : Block.store ∈ F) (free : Block.free ∈ F) :
    (cutArray s).hide F = s.hide F := by
  unfold cutArray
  (repeat' split) <;> simp [store, free]

@[simp] theorem hide_appendRecord (p : Payload) (tag : Option Tag) (s : State)
    (store : Block.store ∈ F) (link : Block.link ∈ F) (sett : Block.sett ∈ F) :
    (appendRecord p tag s).hide F = s.hide F := by
  unfold appendRecord
  simp [store, link, sett]

@[simp] theorem hide_keepVerified (image : Settings) (good : Bool) (s : State)
    (store : Block.store ∈ F) (link : Block.link ∈ F) (sett : Block.sett ∈ F) :
    (keepVerified image good s).hide F = s.hide F := by
  unfold keepVerified
  (repeat' split) <;> simp [store, link, sett]

@[simp] theorem hide_keepBlockDone (good : Bool) (s : State) (store : Block.store ∈ F)
    (link : Block.link ∈ F) (sett : Block.sett ∈ F) :
    (keepBlockDone good s).hide F = s.hide F := by
  unfold keepBlockDone
  (repeat' split) <;> simp [store, link, sett]

@[simp] theorem hide_settingsErased (s : State) (store : Block.store ∈ F)
    (sett : Block.sett ∈ F) :
    (settingsErased s).hide F = s.hide F := by
  unfold settingsErased
  simp [store, sett]

@[simp] theorem hide_eraseDone (s : State) (store : Block.store ∈ F) (link : Block.link ∈ F)
    (sett : Block.sett ∈ F) :
    (eraseDone s).hide F = s.hide F := by
  unfold eraseDone
  (repeat' split) <;> simp [store, link, sett]

@[simp] theorem hide_programDone (good : Bool) (s : State) (store : Block.store ∈ F)
    (link : Block.link ∈ F) (sett : Block.sett ∈ F) :
    (programDone good s).hide F = s.hide F := by
  unfold programDone
  (repeat' split) <;> simp [store, link, sett]

@[simp] theorem hide_internalWrite (n : Fin 15) (i : Item) (v : Nat) (s : State)
    (loop : Block.loop ∈ F) :
    (internalWrite n i v s).hide F = s.hide F := by
  unfold internalWrite
  (repeat' split) <;> simp [loop]

@[simp] theorem hide_loopTakesStage (g : FuelStage) (s : State) (loop : Block.loop ∈ F) :
    (loopTakesStage g s).hide F = s.hide F := by
  unfold loopTakesStage
  simp [loop, hide_foldl]

@[simp] theorem hide_markWriteFailed (n : Fin 15) (v : Bool) (s : State) (zone : Block.zone ∈ F) :
    (markWriteFailed n v s).hide F = s.hide F := by
  unfold markWriteFailed
  (repeat' split) <;> simp [zone]

@[simp] theorem hide_writeToZoneNode (z : Fin 6) (i : Item) (v : Nat) (s : State)
    (loop : Block.loop ∈ F) :
    (writeToZoneNode z i v s).hide F = s.hide F := by
  unfold writeToZoneNode
  (repeat' split) <;> simp [loop]

@[simp] theorem hide_queueStale (n : Fin 15) (z : Fin 6) (i : Item) (s : State)
    (loop : Block.loop ∈ F) :
    (queueStale n z i s).hide F = s.hide F := by
  unfold queueStale
  (repeat' split) <;> simp [loop]

@[simp] theorem hide_writeOutcome (acknowledged : Bool) (s : State) (loop : Block.loop ∈ F)
    (zone : Block.zone ∈ F) :
    (writeOutcome acknowledged s).hide F = s.hide F := by
  unfold writeOutcome
  (repeat' split) <;> simp [loop, zone]

@[simp] theorem hide_unbindNode (n : Fin 15) (s : State) (loop : Block.loop ∈ F)
    (link : Block.link ∈ F) :
    (unbindNode n s).hide F = s.hide F := by
  unfold unbindNode
  simp [loop, link]

@[simp] theorem hide_bindNode (n : Fin 15) (z : Fin 6) (s : State) (loop : Block.loop ∈ F) :
    (bindNode n z s).hide F = s.hide F := by
  unfold bindNode
  simp [loop]

@[simp] theorem hide_rebindNode (n : Fin 15) (s : State) (loop : Block.loop ∈ F)
    (link : Block.link ∈ F) :
    (rebindNode n s).hide F = s.hide F := by
  unfold rebindNode
  dsimp only
  (repeat' split) <;> simp [loop, link]

@[simp] theorem hide_openPollSlot (s : State) (loop : Block.loop ∈ F) :
    (openPollSlot s).hide F = s.hide F := by
  unfold openPollSlot
  (repeat' split) <;> simp [loop]

@[simp] theorem hide_slotAfterPoll (s : State) (loop : Block.loop ∈ F) :
    (slotAfterPoll s).hide F = s.hide F := by
  unfold slotAfterPoll
  (repeat' split) <;> simp [loop]

@[simp] theorem hide_queueStaleItems (n : Fin 15) (z : Fin 6) (s : State)
    (loop : Block.loop ∈ F) :
    (queueStaleItems n z s).hide F = s.hide F := by
  unfold queueStaleItems
  simp [loop]

@[simp] theorem hide_rebindNodes (s : State) (loop : Block.loop ∈ F) (link : Block.link ∈ F) :
    (rebindNodes s).hide F = s.hide F := by
  unfold rebindNodes
  simp [loop, link, hide_foldl]

@[simp] theorem hide_beginReply (s : State) (link : Block.link ∈ F) :
    (beginReply s).hide F = s.hide F := by
  unfold beginReply
  (repeat' split) <;> simp [link]

theorem hide_takeFrame (body : State → State × Reply) (s : State) (link : Block.link ∈ F)
    (h : ∀ t, (body t).1.hide F = t.hide F) : (takeFrame body s).hide F = s.hide F := by
  unfold takeFrame
  dsimp only
  repeat' split
  all_goals simp [link, h]

@[simp] theorem hide_hunt (s : State) (link : Block.link ∈ F) : (hunt s).hide F = s.hide F := by
  unfold hunt
  simp [link]

theorem hide_request (payload : List Byte) (body : List Byte → State → State × Reply) (s : State)
    (link : Block.link ∈ F) (h : ∀ t, (body payload t).1.hide F = t.hide F) :
    (request payload body s).hide F = s.hide F := by
  unfold request
  split
  · split
    · exact hide_takeFrame _ _ link h
    · exact hide_hunt _ link
  · rfl

@[simp] theorem hide_answer (r : Reply) (s : State)  :
    (answer r s).1.hide F = s.hide F := by
  rfl

@[simp] theorem hide_unlessBusy (kind : Byte) (body : State → State × Reply) (s : State)
    (h : (body s).1.hide F = s.hide F) : (unlessBusy kind body s).1.hide F = s.hide F := by
  unfold unlessBusy
  split
  · simp
  · exact h

@[simp] theorem hide_unlessHeld (kind : Byte) (body : State → State × Reply) (s : State)
    (h : (body s).1.hide F = s.hide F) : (unlessHeld kind body s).1.hide F = s.hide F := by
  unfold unlessHeld
  split
  · exact h
  · simp

@[simp] theorem hide_zoneTo (z : Fin 6) (st : ZoneState) (timer : ZoneTimer) (s : State)
    (zone : Block.zone ∈ F) (posts : Block.posts ∈ F) :
    (zoneTo z st timer s).hide F = s.hide F := by
  unfold zoneTo
  (repeat' split) <;> simp [zone, posts]

@[simp] theorem hide_formPump (s : State) (zone : Block.zone ∈ F) (posts : Block.posts ∈ F) :
    (formPump s).hide F = s.hide F := by
  unfold formPump
  (repeat' split) <;> simp [zone, posts]

@[simp] theorem hide_formHeat (s : State) (zone : Block.zone ∈ F) (posts : Block.posts ∈ F) :
    (formHeat s).hide F = s.hide F := by
  unfold formHeat
  (repeat' split) <;> simp [zone, posts]

@[simp] theorem hide_formOutputs (s : State) (zone : Block.zone ∈ F) (posts : Block.posts ∈ F) :
    (formOutputs s).hide F = s.hide F := by
  unfold formOutputs
  simp [zone, posts]

@[simp] theorem hide_enterOpening (z : Fin 6) (s : State) (zone : Block.zone ∈ F)
    (posts : Block.posts ∈ F) :
    (enterOpening z s).hide F = s.hide F := by
  unfold enterOpening
  simp [zone, posts]

@[simp] theorem hide_enterIdle (z : Fin 6) (s : State) (zone : Block.zone ∈ F)
    (posts : Block.posts ∈ F) :
    (enterIdle z s).hide F = s.hide F := by
  unfold enterIdle
  simp [zone, posts]

@[simp] theorem hide_enterClosing (z : Fin 6) (s : State) (zone : Block.zone ∈ F)
    (posts : Block.posts ∈ F) :
    (enterClosing z s).hide F = s.hide F := by
  unfold enterClosing
  simp [zone, posts]

@[simp] theorem hide_closeHolds (s : State) (zone : Block.zone ∈ F) (posts : Block.posts ∈ F) :
    (closeHolds s).hide F = s.hide F := by
  unfold closeHolds
  simp [zone, posts, hide_foldl]

@[simp] theorem hide_zonesTakeOverrun (v : Bool) (s : State) (zone : Block.zone ∈ F)
    (posts : Block.posts ∈ F) :
    (zonesTakeOverrun v s).hide F = s.hide F := by
  unfold zonesTakeOverrun
  (repeat' split) <;> simp [zone, posts]

@[simp] theorem hide_zoneHoldBegins (z : Fin 6) (s : State) (loop : Block.loop ∈ F)
    (zone : Block.zone ∈ F) (posts : Block.posts ∈ F) :
    (zoneHoldBegins z s).hide F = s.hide F := by
  unfold zoneHoldBegins
  (repeat' split) <;> simp [loop, zone, posts]

@[simp] theorem hide_enterFault (z : Fin 6) (cause : ZoneFault) (s : State)
    (loop : Block.loop ∈ F) (zone : Block.zone ∈ F) (link : Block.link ∈ F)
    (posts : Block.posts ∈ F) :
    (enterFault z cause s).hide F = s.hide F := by
  unfold enterFault
  simp [loop, zone, link, posts]

@[simp] theorem hide_callRises (z : Fin 6) (s : State) (zone : Block.zone ∈ F)
    (posts : Block.posts ∈ F) :
    (callRises z s).hide F = s.hide F := by
  unfold callRises
  (repeat' split) <;> simp [zone, posts]

@[simp] theorem hide_closeOtherHolds (z : Fin 6) (s : State) (zone : Block.zone ∈ F)
    (posts : Block.posts ∈ F) :
    (closeOtherHolds z s).hide F = s.hide F := by
  unfold closeOtherHolds
  simp [zone, posts, hide_foldl]

@[simp] theorem hide_callFalls (z : Fin 6) (s : State) (zone : Block.zone ∈ F)
    (posts : Block.posts ∈ F) :
    (callFalls z s).hide F = s.hide F := by
  unfold callFalls
  (repeat' split) <;> simp [zone, posts]

@[simp] theorem hide_formCall (z : Fin 6) (s : State) (zone : Block.zone ∈ F)
    (posts : Block.posts ∈ F) :
    (formCall z s).hide F = s.hide F := by
  unfold formCall
  simp [zone, posts]

@[simp] theorem hide_evaluateCall (z : Fin 6) (s : State) (zone : Block.zone ∈ F)
    (posts : Block.posts ∈ F) :
    (evaluateCall z s).hide F = s.hide F := by
  unfold evaluateCall
  simp [zone, posts]

@[simp] theorem hide_deriveTarget (z : Fin 6) (s : State) (loop : Block.loop ∈ F)
    (zone : Block.zone ∈ F) (posts : Block.posts ∈ F) :
    (deriveTarget z s).hide F = s.hide F := by
  unfold deriveTarget
  (repeat' split) <;> simp [loop, zone, posts]

theorem hide_eachZone (f : Fin 6 → State → State) (s : State)
    (h : ∀ z t, (f z t).hide F = t.hide F) : (eachZone f s).hide F = s.hide F :=
  hide_foldl _ (fun t z => h z t) _ _

@[simp] theorem hide_zoneHoldEnds (z : Fin 6) (s : State) (zone : Block.zone ∈ F)
    (posts : Block.posts ∈ F) :
    (zoneHoldEnds z s).hide F = s.hide F := by
  unfold zoneHoldEnds
  (repeat' split) <;> simp [zone, posts]

@[simp] theorem hide_zonesHoldEnds (s : State) (zone : Block.zone ∈ F) (posts : Block.posts ∈ F) :
    (zonesHoldEnds s).hide F = s.hide F := by
  unfold zonesHoldEnds
  simp [zone, posts, hide_eachZone]

@[simp] theorem hide_resetView (z : Fin 6) (s : State) (zone : Block.zone ∈ F) :
    (resetView z s).hide F = s.hide F := by
  unfold resetView
  (repeat' split) <;> simp [zone]

@[simp] theorem hide_driveSink (z : Fin 6) (v : Bool) (s : State) (zone : Block.zone ∈ F)
    (posts : Block.posts ∈ F) :
    (driveSink z v s).hide F = s.hide F := by
  unfold driveSink
  simp [zone, posts]

@[simp] theorem hide_evaluateBoilerFrost (s : State) (zone : Block.zone ∈ F)
    (posts : Block.posts ∈ F) :
    (evaluateBoilerFrost s).hide F = s.hide F := by
  unfold evaluateBoilerFrost
  simp [zone, posts]

@[simp] theorem hide_modeChanged (z : Fin 6) (s : State) (loop : Block.loop ∈ F)
    (zone : Block.zone ∈ F) (posts : Block.posts ∈ F) :
    (modeChanged z s).hide F = s.hide F := by
  unfold modeChanged
  simp [loop, zone, posts]

@[simp] theorem hide_zonesTakeMode (s : State) (loop : Block.loop ∈ F) (zone : Block.zone ∈ F)
    (posts : Block.posts ∈ F) :
    (zonesTakeMode s).hide F = s.hide F := by
  unfold zonesTakeMode
  simp [loop, zone, posts, hide_eachZone]

@[simp] theorem hide_zoneLosesNode (z : Fin 6) (s : State) (loop : Block.loop ∈ F)
    (zone : Block.zone ∈ F) (posts : Block.posts ∈ F) :
    (zoneLosesNode z s).hide F = s.hide F := by
  unfold zoneLosesNode
  simp [loop, zone, posts]

@[simp] theorem hide_zoneHasNoReport (z : Fin 6) (s : State) (zone : Block.zone ∈ F)
    (posts : Block.posts ∈ F) :
    (zoneHasNoReport z s).hide F = s.hide F := by
  unfold zoneHasNoReport
  (repeat' split) <;> simp [zone, posts]

@[simp] theorem hide_zonesHoldBegins (s : State) (loop : Block.loop ∈ F) (zone : Block.zone ∈ F)
    (posts : Block.posts ∈ F) :
    (zonesHoldBegins s).hide F = s.hide F := by
  unfold zonesHoldBegins
  simp [loop, zone, posts, hide_eachZone]

@[simp] theorem hide_zonesTakeStage (g : FuelStage) (s : State) (loop : Block.loop ∈ F)
    (zone : Block.zone ∈ F) (posts : Block.posts ∈ F) :
    (zonesTakeStage g s).hide F = s.hide F := by
  unfold zonesTakeStage
  simp [loop, zone, posts, hide_eachZone]

@[simp] theorem hide_zoneTakesReport (z : Fin 6) (r : Report) (s : State) (loop : Block.loop ∈ F)
    (zone : Block.zone ∈ F) (posts : Block.posts ∈ F) :
    (zoneTakesReport z r s).hide F = s.hide F := by
  unfold zoneTakesReport
  simp [loop, zone, posts]

@[simp] theorem hide_zoneChannelFault (z : Fin 6) (s : State) (loop : Block.loop ∈ F)
    (zone : Block.zone ∈ F) (link : Block.link ∈ F) (posts : Block.posts ∈ F) :
    (zoneChannelFault z s).hide F = s.hide F := by
  unfold zoneChannelFault
  (repeat' split) <;> simp [loop, zone, link, posts]

@[simp] theorem hide_clearLeakFlag (s : State) (fuel : Block.fuel ∈ F) (link : Block.link ∈ F) :
    (clearLeakFlag s).hide F = s.hide F := by
  unfold clearLeakFlag
  (repeat' split) <;> simp [fuel, link]

@[simp] theorem hide_evaluateLineHeat (s : State) (fuel : Block.fuel ∈ F)
    (posts : Block.posts ∈ F) :
    (evaluateLineHeat s).hide F = s.hide F := by
  unfold evaluateLineHeat
  simp [fuel, posts]

@[simp] theorem hide_restartPeriod (s : State) (fuel : Block.fuel ∈ F) :
    (restartPeriod s).hide F = s.hide F := by
  unfold restartPeriod
  simp [fuel]

@[simp] theorem hide_ungaugedEnd (s : State) (fuel : Block.fuel ∈ F) :
    (ungaugedEnd s).hide F = s.hide F := by
  unfold ungaugedEnd
  simp [fuel]

@[simp] theorem hide_takeDeferred (s : State) (fuel : Block.fuel ∈ F) :
    (takeDeferred s).hide F = s.hide F := by
  unfold takeDeferred
  (repeat' split) <;> simp [fuel]

@[simp] theorem hide_dropSettling (s : State) (fuel : Block.fuel ∈ F) :
    (dropSettling s).hide F = s.hide F := by
  unfold dropSettling
  simp [fuel]

@[simp] theorem hide_raiseLeak (d : Int) (s : State) (fuel : Block.fuel ∈ F)
    (store : Block.store ∈ F) (link : Block.link ∈ F) (sett : Block.sett ∈ F) :
    (raiseLeak d s).hide F = s.hide F := by
  unfold raiseLeak
  simp [fuel, store, link, sett]

@[simp] theorem hide_judgeLoss (s : State) (fuel : Block.fuel ∈ F) (store : Block.store ∈ F)
    (link : Block.link ∈ F) (sett : Block.sett ∈ F) :
    (judgeLoss s).hide F = s.hide F := by
  unfold judgeLoss
  (repeat' split) <;> simp [fuel, store, link, sett]

@[simp] theorem hide_setReference (v : Nat) (s : State) (fuel : Block.fuel ∈ F) :
    (setReference v s).hide F = s.hide F := by
  unfold setReference
  simp [fuel]

@[simp] theorem hide_reconcile (s : State) (fuel : Block.fuel ∈ F) (store : Block.store ∈ F)
    (link : Block.link ∈ F) (sett : Block.sett ∈ F) :
    (reconcile s).hide F = s.hide F := by
  unfold reconcile
  simp [fuel, store, link, sett]

@[simp] theorem hide_setStage (g : FuelStage) (s : State) (fuel : Block.fuel ∈ F)
    (link : Block.link ∈ F) (posts : Block.posts ∈ F) :
    (setStage g s).hide F = s.hide F := by
  unfold setStage
  (repeat' split) <;> simp [fuel, link, posts]

@[simp] theorem hide_fuelFaultEntered (s : State) (fuel : Block.fuel ∈ F) :
    (fuelFaultEntered s).hide F = s.hide F := by
  unfold fuelFaultEntered
  dsimp only
  (repeat' split) <;> simp [fuel]

@[simp] theorem hide_fuelTableReplaced (s : State) (fuel : Block.fuel ∈ F) :
    (fuelTableReplaced s).hide F = s.hide F := by
  unfold fuelTableReplaced
  dsimp only
  (repeat' split) <;> simp [fuel]

@[simp] theorem hide_rebase (v : Nat) (s : State) (fuel : Block.fuel ∈ F) :
    (rebase v s).hide F = s.hide F := by
  unfold rebase
  simp [fuel]

@[simp] theorem hide_startSettling (v : Nat) (s : State) (fuel : Block.fuel ∈ F) :
    (startSettling v s).hide F = s.hide F := by
  unfold startSettling
  simp [fuel]

@[simp] theorem hide_confirmDelivery (final : Nat) (s : State) (fuel : Block.fuel ∈ F)
    (store : Block.store ∈ F) (link : Block.link ∈ F) (sett : Block.sett ∈ F)
    (posts : Block.posts ∈ F) :
    (confirmDelivery final s).hide F = s.hide F := by
  unfold confirmDelivery
  simp [fuel, store, link, sett, posts]

@[simp] theorem hide_finishSettling (final : Nat) (s : State) (fuel : Block.fuel ∈ F)
    (store : Block.store ∈ F) (link : Block.link ∈ F) (sett : Block.sett ∈ F)
    (posts : Block.posts ∈ F) :
    (finishSettling final s).hide F = s.hide F := by
  unfold finishSettling
  (repeat' split) <;> simp [fuel, store, link, sett, posts]

@[simp] theorem hide_settleValue (v : Nat) (x : Settling) (s : State) (fuel : Block.fuel ∈ F)
    (store : Block.store ∈ F) (link : Block.link ∈ F) (sett : Block.sett ∈ F)
    (posts : Block.posts ∈ F) :
    (settleValue v x s).hide F = s.hide F := by
  unfold settleValue
  (repeat' split) <;> simp [fuel, store, link, sett, posts]

@[simp] theorem hide_actOnGood (v : Nat) (s : State) (fuel : Block.fuel ∈ F)
    (store : Block.store ∈ F) (link : Block.link ∈ F) (sett : Block.sett ∈ F)
    (posts : Block.posts ∈ F) :
    (actOnGood v s).hide F = s.hide F := by
  unfold actOnGood
  (repeat' split) <;> simp [fuel, store, link, sett, posts]

@[simp] theorem hide_restoreFuel (s : State) (fuel : Block.fuel ∈ F) (posts : Block.posts ∈ F) :
    (restoreFuel s).hide F = s.hide F := by
  unfold restoreFuel
  simp [fuel, posts]

@[simp] theorem hide_fuelMeters (sec : Nat) (s : State) (gauge : Block.gauge ∈ F)
    (fuel : Block.fuel ∈ F) :
    (fuelMeters sec s).hide F = s.hide F := by
  unfold fuelMeters
  simp [gauge, fuel]

@[simp] theorem hide_computeStage (v : Nat) (s : State) (fuel : Block.fuel ∈ F)
    (link : Block.link ∈ F) (posts : Block.posts ∈ F) :
    (computeStage v s).hide F = s.hide F := by
  unfold computeStage
  simp [fuel, link, posts]

@[simp] theorem hide_fuelTakesValue (v : Nat) (st : ValueStatus) (s : State)
    (fuel : Block.fuel ∈ F) (store : Block.store ∈ F) (link : Block.link ∈ F)
    (sett : Block.sett ∈ F) (posts : Block.posts ∈ F) :
    (fuelTakesValue v st s).hide F = s.hide F := by
  unfold fuelTakesValue
  (repeat' split) <;> simp [fuel, store, link, sett, posts]

@[simp] theorem hide_addTrendEntry (s : State) (fuel : Block.fuel ∈ F) :
    (addTrendEntry s).hide F = s.hide F := by
  unfold addTrendEntry
  simp [fuel]

@[simp] theorem hide_periodEnds (s : State) (fuel : Block.fuel ∈ F) (store : Block.store ∈ F)
    (link : Block.link ∈ F) (sett : Block.sett ∈ F) :
    (periodEnds s).hide F = s.hide F := by
  unfold periodEnds
  (repeat' split) <;> simp [fuel, store, link, sett]

@[simp] theorem hide_computeVolumes (depth : Nat) (s : State) (gauge : Block.gauge ∈ F) :
    (computeVolumes depth s).hide F = s.hide F := by
  unfold computeVolumes
  simp [gauge]

@[simp] theorem hide_handValue (v : Nat) (st : ValueStatus) (s : State) (gauge : Block.gauge ∈ F)
    (fuel : Block.fuel ∈ F) (store : Block.store ∈ F) (link : Block.link ∈ F)
    (sett : Block.sett ∈ F) (posts : Block.posts ∈ F) :
    (handValue v st s).hide F = s.hide F := by
  unfold handValue
  (repeat' split) <;> simp [gauge, fuel, store, link, sett, posts]

@[simp] theorem hide_replaceTable (ps : List Point) (s : State) (gauge : Block.gauge ∈ F)
    (fuel : Block.fuel ∈ F) (store : Block.store ∈ F) (link : Block.link ∈ F)
    (sett : Block.sett ∈ F) (posts : Block.posts ∈ F) :
    (replaceTable ps s).hide F = s.hide F := by
  unfold replaceTable
  dsimp only
  (repeat' split) <;> simp [gauge, fuel, store, link, sett, posts]

@[simp] theorem hide_handEstimate (s : State) (gauge : Block.gauge ∈ F) (fuel : Block.fuel ∈ F)
    (store : Block.store ∈ F) (link : Block.link ∈ F) (sett : Block.sett ∈ F)
    (posts : Block.posts ∈ F) :
    (handEstimate s).hide F = s.hide F := by
  unfold handEstimate
  simp [gauge, fuel, store, link, sett, posts]

@[simp] theorem hide_beginLoad (n : Nat) (check : Nat) (s : State) (gauge : Block.gauge ∈ F) :
    (beginLoad n check s).hide F = s.hide F := by
  unfold beginLoad
  simp [gauge]

@[simp] theorem hide_handFiltered (s : State) (gauge : Block.gauge ∈ F) (fuel : Block.fuel ∈ F)
    (store : Block.store ∈ F) (link : Block.link ∈ F) (sett : Block.sett ∈ F)
    (posts : Block.posts ∈ F) :
    (handFiltered s).hide F = s.hide F := by
  unfold handFiltered
  simp [gauge, fuel, store, link, sett, posts]

@[simp] theorem hide_leaveGaugeFault (s : State) (gauge : Block.gauge ∈ F) (fuel : Block.fuel ∈ F)
    (store : Block.store ∈ F) (link : Block.link ∈ F) (sett : Block.sett ∈ F)
    (posts : Block.posts ∈ F) :
    (leaveGaugeFault s).hide F = s.hide F := by
  unfold leaveGaugeFault
  simp [gauge, fuel, store, link, sett, posts]

@[simp] theorem hide_takeGood (c : Nat) (d : Nat) (s : State) (gauge : Block.gauge ∈ F)
    (fuel : Block.fuel ∈ F) (store : Block.store ∈ F) (link : Block.link ∈ F)
    (sett : Block.sett ∈ F) (posts : Block.posts ∈ F) :
    (takeGood c d s).hide F = s.hide F := by
  unfold takeGood
  dsimp only
  (repeat' split) <;> simp [gauge, fuel, store, link, sett, posts]

@[simp] theorem hide_enterGaugeFault (cause : GaugeCause) (s : State) (gauge : Block.gauge ∈ F)
    (fuel : Block.fuel ∈ F) (store : Block.store ∈ F) (link : Block.link ∈ F)
    (sett : Block.sett ∈ F) (posts : Block.posts ∈ F) :
    (enterGaugeFault cause s).hide F = s.hide F := by
  unfold enterGaugeFault
  simp [gauge, fuel, store, link, sett, posts]

@[simp] theorem hide_takeFaulty (c : Nat) (s : State) (gauge : Block.gauge ∈ F)
    (fuel : Block.fuel ∈ F) (store : Block.store ∈ F) (link : Block.link ∈ F)
    (sett : Block.sett ∈ F) (posts : Block.posts ∈ F) :
    (takeFaulty c s).hide F = s.hide F := by
  unfold takeFaulty
  (repeat' split) <;> simp [gauge, fuel, store, link, sett, posts]

@[simp] theorem hide_takeSample (c : Nat) (s : State) (gauge : Block.gauge ∈ F)
    (fuel : Block.fuel ∈ F) (store : Block.store ∈ F) (link : Block.link ∈ F)
    (sett : Block.sett ∈ F) (posts : Block.posts ∈ F) :
    (takeSample c s).hide F = s.hide F := by
  unfold takeSample
  (repeat' split) <;> simp [gauge, fuel, store, link, sett, posts]

@[simp] theorem hide_takeDue (c : Nat) (measureFault : Bool) (s : State) (gauge : Block.gauge ∈ F)
    (fuel : Block.fuel ∈ F) (store : Block.store ∈ F) (link : Block.link ∈ F)
    (sett : Block.sett ∈ F) (posts : Block.posts ∈ F) :
    (takeDue c measureFault s).hide F = s.hide F := by
  unfold takeDue
  (repeat' split) <;> simp [gauge, fuel, store, link, sett, posts]

@[simp] theorem hide_gaugeTakesMeasureFault (s : State) (gauge : Block.gauge ∈ F)
    (fuel : Block.fuel ∈ F) (store : Block.store ∈ F) (link : Block.link ∈ F)
    (sett : Block.sett ∈ F) (posts : Block.posts ∈ F) :
    (gaugeTakesMeasureFault s).hide F = s.hide F := by
  unfold gaugeTakesMeasureFault
  (repeat' split) <;> simp [gauge, fuel, store, link, sett, posts]

@[simp] theorem hide_endLoad (o : TaskOutcome) (r : ReasonCode) (s : State)
    (gauge : Block.gauge ∈ F) (link : Block.link ∈ F) :
    (endLoad o r s).hide F = s.hide F := by
  unfold endLoad
  simp [gauge, link]

@[simp] theorem hide_gaugeTakesPass (s : State) (gauge : Block.gauge ∈ F) :
    (gaugeTakesPass s).hide F = s.hide F := by
  unfold gaugeTakesPass
  (repeat' split) <;> simp [gauge]

@[simp] theorem hide_restoreGauge (s : State) (gauge : Block.gauge ∈ F) :
    (restoreGauge s).hide F = s.hide F := by
  unfold restoreGauge
  simp [gauge]

@[simp] theorem hide_runOverrun (s : State) (burn : Block.burn ∈ F) (posts : Block.posts ∈ F) :
    (runOverrun s).hide F = s.hide F := by
  unfold runOverrun
  (repeat' split) <;> simp [burn, posts]

@[simp] theorem hide_burnTo (st : BurnState) (s : State) (burn : Block.burn ∈ F)
    (posts : Block.posts ∈ F) :
    (burnTo st s).hide F = s.hide F := by
  unfold burnTo
  (repeat' split) <;> simp [burn, posts]

@[simp] theorem hide_stopOverrun (s : State) (burn : Block.burn ∈ F) (posts : Block.posts ∈ F) :
    (stopOverrun s).hide F = s.hide F := by
  unfold stopOverrun
  (repeat' split) <;> simp [burn, posts]

@[simp] theorem hide_askOverrun (s : State) (burn : Block.burn ∈ F) (posts : Block.posts ∈ F) :
    (askOverrun s).hide F = s.hide F := by
  unfold askOverrun
  (repeat' split) <;> simp [burn, posts]

@[simp] theorem hide_addAntiCycle (s : State) (burn : Block.burn ∈ F) :
    (addAntiCycle s).hide F = s.hide F := by
  unfold addAntiCycle
  (repeat' split) <;> simp [burn]

@[simp] theorem hide_afterFiring (s : State) (burn : Block.burn ∈ F) (posts : Block.posts ∈ F) :
    (afterFiring s).hide F = s.hide F := by
  unfold afterFiring
  simp [burn, posts]

@[simp] theorem hide_enterFiring (s : State) (burn : Block.burn ∈ F) (posts : Block.posts ∈ F) :
    (enterFiring s).hide F = s.hide F := by
  unfold enterFiring
  simp [burn, posts]

@[simp] theorem hide_enterCalled (s : State) (burn : Block.burn ∈ F) (posts : Block.posts ∈ F) :
    (enterCalled s).hide F = s.hide F := by
  unfold enterCalled
  simp [burn, posts]

@[simp] theorem hide_lookCall (s : State) (burn : Block.burn ∈ F) (posts : Block.posts ∈ F) :
    (lookCall s).hide F = s.hide F := by
  unfold lookCall
  (repeat' split) <;> simp [burn, posts]

@[simp] theorem hide_goIdle (s : State) (burn : Block.burn ∈ F) (posts : Block.posts ∈ F) :
    (goIdle s).hide F = s.hide F := by
  unfold goIdle
  (repeat' split) <;> simp [burn, posts]

@[simp] theorem hide_withdraw (s : State) (burn : Block.burn ∈ F) (posts : Block.posts ∈ F) :
    (withdraw s).hide F = s.hide F := by
  unfold withdraw
  (repeat' split) <;> simp [burn, posts]

@[simp] theorem hide_findStopping (s : State) (burn : Block.burn ∈ F) (posts : Block.posts ∈ F) :
    (findStopping s).hide F = s.hide F := by
  unfold findStopping
  (repeat' split) <;> simp [burn, posts]

@[simp] theorem hide_addReason (r : Reason) (s : State) (burn : Block.burn ∈ F)
    (posts : Block.posts ∈ F) :
    (addReason r s).hide F = s.hide F := by
  unfold addReason
  (repeat' split) <;> simp [burn, posts]

@[simp] theorem hide_removeReason (r : Reason) (s : State) (burn : Block.burn ∈ F)
    (posts : Block.posts ∈ F) :
    (removeReason r s).hide F = s.hide F := by
  unfold removeReason
  dsimp only
  (repeat' split) <;> simp [burn, posts]

@[simp] theorem hide_setReason (r : Reason) (v : Bool) (s : State) (burn : Block.burn ∈ F)
    (posts : Block.posts ∈ F) :
    (setReason r v s).hide F = s.hide F := by
  unfold setReason
  (repeat' split) <;> simp [burn, posts]

@[simp] theorem hide_runAccumulator (v : Bool) (s : State) (burn : Block.burn ∈ F) :
    (runAccumulator v s).hide F = s.hide F := by
  unfold runAccumulator
  simp [burn]

@[simp] theorem hide_endNoStart (s : State) (burn : Block.burn ∈ F) (store : Block.store ∈ F)
    (link : Block.link ∈ F) (sett : Block.sett ∈ F) (posts : Block.posts ∈ F) :
    (endNoStart s).hide F = s.hide F := by
  unfold endNoStart
  simp [burn, store, link, sett, posts]

@[simp] theorem hide_windowExpires (s : State) (burn : Block.burn ∈ F) (store : Block.store ∈ F)
    (link : Block.link ∈ F) (sett : Block.sett ∈ F) (posts : Block.posts ∈ F) :
    (windowExpires s).hide F = s.hide F := by
  unfold windowExpires
  (repeat' split) <;> simp [burn, store, link, sett, posts]

@[simp] theorem hide_setRunaway (v : Bool) (s : State) (burn : Block.burn ∈ F)
    (link : Block.link ∈ F) :
    (setRunaway v s).hide F = s.hide F := by
  unfold setRunaway
  (repeat' split) <;> simp [burn, link]

@[simp] theorem hide_runawayIfIdle (s : State) (burn : Block.burn ∈ F) (link : Block.link ∈ F) :
    (runawayIfIdle s).hide F = s.hide F := by
  unfold runawayIfIdle
  (repeat' split) <;> simp [burn, link]

@[simp] theorem hide_burnTakesPump (v : Bool) (s : State) (burn : Block.burn ∈ F)
    (posts : Block.posts ∈ F) :
    (burnTakesPump v s).hide F = s.hide F := by
  unfold burnTakesPump
  dsimp only
  (repeat' split) <;> simp [burn, posts]

@[simp] theorem hide_countStart (s : State) (burn : Block.burn ∈ F) :
    (countStart s).hide F = s.hide F := by
  unfold countStart
  simp [burn]

@[simp] theorem hide_evaluateOverheat (s : State) (burn : Block.burn ∈ F)
    (posts : Block.posts ∈ F) :
    (evaluateOverheat s).hide F = s.hide F := by
  unfold evaluateOverheat
  (repeat' split) <;> simp [burn, posts]

@[simp] theorem hide_burnTakesFlow (s : State) (burn : Block.burn ∈ F) (posts : Block.posts ∈ F) :
    (burnTakesFlow s).hide F = s.hide F := by
  unfold burnTakesFlow
  simp [burn, posts]

@[simp] theorem hide_burnTakesHeat (v : Bool) (s : State) (burn : Block.burn ∈ F)
    (posts : Block.posts ∈ F) :
    (burnTakesHeat v s).hide F = s.hide F := by
  unfold burnTakesHeat
  dsimp only
  (repeat' split) <;> simp [burn, posts]

@[simp] theorem hide_burnValveFall (s : State) (burn : Block.burn ∈ F) (posts : Block.posts ∈ F) :
    (burnValveFall s).hide F = s.hide F := by
  unfold burnValveFall
  (repeat' split) <;> simp [burn, posts]

@[simp] theorem hide_postFiring (s : State) (burn : Block.burn ∈ F) (gauge : Block.gauge ∈ F)
    (fuel : Block.fuel ∈ F) :
    (postFiring s).hide F = s.hide F := by
  unfold postFiring
  simp [burn, gauge, fuel]

@[simp] theorem hide_valveRiseIn (s : State) (burn : Block.burn ∈ F) (link : Block.link ∈ F)
    (posts : Block.posts ∈ F) :
    (valveRiseIn s).hide F = s.hide F := by
  unfold valveRiseIn
  (repeat' split) <;> simp [burn, link, posts]

@[simp] theorem hide_burnValveRise (s : State) (burn : Block.burn ∈ F) (link : Block.link ∈ F)
    (posts : Block.posts ∈ F) :
    (burnValveRise s).hide F = s.hide F := by
  unfold burnValveRise
  simp [burn, link, posts]

theorem hide_outsideHold (f : State → State) (s : State) (h : ∀ t, (f t).hide F = t.hide F) :
    (outsideHold f s).hide F = s.hide F := by
  unfold outsideHold
  split <;> simp [h]

@[simp] theorem hide_valveRises (s : State) (burn : Block.burn ∈ F) (link : Block.link ∈ F)
    (posts : Block.posts ∈ F) :
    (valveRises s).hide F = s.hide F := by
  unfold valveRises
  simp [burn, link, posts]

@[simp] theorem hide_valveFalls (s : State) (burn : Block.burn ∈ F) (gauge : Block.gauge ∈ F)
    (fuel : Block.fuel ∈ F) (link : Block.link ∈ F) (posts : Block.posts ∈ F) :
    (valveFalls s).hide F = s.hide F := by
  unfold valveFalls
  simp [burn, gauge, fuel, link, posts]

@[simp] theorem hide_burnTakesStage (g : FuelStage) (s : State) (burn : Block.burn ∈ F)
    (posts : Block.posts ∈ F) :
    (burnTakesStage g s).hide F = s.hide F := by
  unfold burnTakesStage
  simp [burn, posts]

@[simp] theorem hide_askStore (tag : Tag) (p : Payload) (s : State) (burn : Block.burn ∈ F)
    (store : Block.store ∈ F) (link : Block.link ∈ F) (sett : Block.sett ∈ F) :
    (askStore tag p s).hide F = s.hide F := by
  unfold askStore
  (repeat' split) <;> simp [burn, store, link, sett]

@[simp] theorem hide_enterHeld (r : HeldReason) (s : State) (burn : Block.burn ∈ F)
    (link : Block.link ∈ F) (posts : Block.posts ∈ F) :
    (enterHeld r s).hide F = s.hide F := by
  unfold enterHeld
  simp [burn, link, posts]

@[simp] theorem hide_endResetTask (o : TaskOutcome) (r : ReasonCode) (s : State)
    (burn : Block.burn ∈ F) (link : Block.link ∈ F) :
    (endResetTask o r s).hide F = s.hide F := by
  unfold endResetTask
  (repeat' split) <;> simp [burn, link]

@[simp] theorem hide_askResetRecord (s : State) (burn : Block.burn ∈ F) (store : Block.store ∈ F)
    (link : Block.link ∈ F) (sett : Block.sett ∈ F) (posts : Block.posts ∈ F) :
    (askResetRecord s).hide F = s.hide F := by
  unfold askResetRecord
  (repeat' split) <;> simp [burn, store, link, sett, posts]

@[simp] theorem hide_askNow (s : State) (x1 : Ask) (burn : Block.burn ∈ F)
    (store : Block.store ∈ F) (link : Block.link ∈ F) (sett : Block.sett ∈ F)
    (posts : Block.posts ∈ F) :
    (askNow s x1).hide F = s.hide F := by
  unfold askNow
  (repeat' split) <;> simp [burn, store, link, sett, posts]

@[simp] theorem hide_askOwed (s : State) (burn : Block.burn ∈ F) (store : Block.store ∈ F)
    (link : Block.link ∈ F) (sett : Block.sett ∈ F) :
    (askOwed s).hide F = s.hide F := by
  unfold askOwed
  (repeat' split) <;> simp [burn, store, link, sett]

@[simp] theorem hide_askAll (l : List Ask) (s : State) (burn : Block.burn ∈ F)
    (store : Block.store ∈ F) (link : Block.link ∈ F) (sett : Block.sett ∈ F)
    (posts : Block.posts ∈ F) :
    (askAll l s).hide F = s.hide F := by
  unfold askAll
  (repeat' split) <;> simp [burn, store, link, sett, posts, hide_foldl]

@[simp] theorem hide_askLockout (s : State) (burn : Block.burn ∈ F) (store : Block.store ∈ F)
    (link : Block.link ∈ F) (sett : Block.sett ∈ F) (posts : Block.posts ∈ F) :
    (askLockout s).hide F = s.hide F := by
  unfold askLockout
  (repeat' split) <;> simp [burn, store, link, sett, posts]

@[simp] theorem hide_beginReset (o : Origin) (s : State) (burn : Block.burn ∈ F)
    (store : Block.store ∈ F) (link : Block.link ∈ F) (sett : Block.sett ∈ F)
    (posts : Block.posts ∈ F) :
    (beginReset o s).hide F = s.hide F := by
  unfold beginReset
  dsimp only
  (repeat' split) <;> simp [burn, store, link, sett, posts]

@[simp] theorem hide_evaluateUntasked (s : State) (burn : Block.burn ∈ F)
    (store : Block.store ∈ F) (link : Block.link ∈ F) (sett : Block.sett ∈ F)
    (posts : Block.posts ∈ F) :
    (evaluateUntasked s).hide F = s.hide F := by
  unfold evaluateUntasked
  (repeat' split) <;> simp [burn, store, link, sett, posts]

@[simp] theorem hide_owedStored (s : State) (burn : Block.burn ∈ F) (store : Block.store ∈ F)
    (link : Block.link ∈ F) (sett : Block.sett ∈ F) (posts : Block.posts ∈ F) :
    (owedStored s).hide F = s.hide F := by
  unfold owedStored
  simp [burn, store, link, sett, posts, hide_foldl]

@[simp] theorem hide_endPulse (s : State) (burn : Block.burn ∈ F) (posts : Block.posts ∈ F) :
    (endPulse s).hide F = s.hide F := by
  unfold endPulse
  (repeat' split) <;> simp [burn, posts]

@[simp] theorem hide_enterLatched (r : LatchReason) (s : State) (burn : Block.burn ∈ F)
    (store : Block.store ∈ F) (link : Block.link ∈ F) (sett : Block.sett ∈ F)
    (posts : Block.posts ∈ F) :
    (enterLatched r s).hide F = s.hide F := by
  unfold enterLatched
  simp [burn, store, link, sett, posts]

@[simp] theorem hide_startProofLimit (s : State) (burn : Block.burn ∈ F) :
    (startProofLimit s).hide F = s.hide F := by
  unfold startProofLimit
  (repeat' split) <;> simp [burn]

@[simp] theorem hide_takeDark (s : State) (burn : Block.burn ∈ F) (store : Block.store ∈ F)
    (link : Block.link ∈ F) (sett : Block.sett ∈ F) (posts : Block.posts ∈ F) :
    (takeDark s).hide F = s.hide F := by
  unfold takeDark
  dsimp only
  (repeat' split) <;> simp [burn, store, link, sett, posts]

@[simp] theorem hide_takePress (s : State) (burn : Block.burn ∈ F) (store : Block.store ∈ F)
    (link : Block.link ∈ F) (sett : Block.sett ∈ F) (posts : Block.posts ∈ F) :
    (takePress s).hide F = s.hide F := by
  unfold takePress
  (repeat' split) <;> simp [burn, store, link, sett, posts]

@[simp] theorem hide_takeWaiting (s : State) (burn : Block.burn ∈ F) (store : Block.store ∈ F)
    (link : Block.link ∈ F) (sett : Block.sett ∈ F) (posts : Block.posts ∈ F) :
    (takeWaiting s).hide F = s.hide F := by
  unfold takeWaiting
  (repeat' split) <;> simp [burn, store, link, sett, posts]

@[simp] theorem hide_awaitMains (s : State) (burn : Block.burn ∈ F) (posts : Block.posts ∈ F) :
    (awaitMains s).hide F = s.hide F := by
  unfold awaitMains
  simp [burn, posts]

@[simp] theorem hide_resetRefused (s : State) (burn : Block.burn ∈ F) (store : Block.store ∈ F)
    (link : Block.link ∈ F) (sett : Block.sett ∈ F) (posts : Block.posts ∈ F) :
    (resetRefused s).hide F = s.hide F := by
  unfold resetRefused
  simp [burn, store, link, sett, posts]

@[simp] theorem hide_lockoutRefused (s : State) (burn : Block.burn ∈ F) (store : Block.store ∈ F)
    (link : Block.link ∈ F) (sett : Block.sett ∈ F) (posts : Block.posts ∈ F) :
    (lockoutRefused s).hide F = s.hide F := by
  unfold lockoutRefused
  dsimp only
  (repeat' split) <;> simp [burn, store, link, sett, posts]

theorem hide_ofNewest (n : Nat) (f : State → State) (s : State)
    (h : ∀ t, (f t).hide F = t.hide F) : (ofNewest n f s).hide F = s.hide F := by
  unfold ofNewest
  split <;> simp [h]

@[simp] theorem hide_enterCooldown (s : State) (burn : Block.burn ∈ F) (posts : Block.posts ∈ F) :
    (enterCooldown s).hide F = s.hide F := by
  unfold enterCooldown
  simp [burn, posts]

@[simp] theorem hide_lockedHoldEnds (s : State) (burn : Block.burn ∈ F) (link : Block.link ∈ F)
    (posts : Block.posts ∈ F) :
    (lockedHoldEnds s).hide F = s.hide F := by
  unfold lockedHoldEnds
  (repeat' split) <;> simp [burn, link, posts]

@[simp] theorem hide_retryHeld (s : State) (burn : Block.burn ∈ F) (store : Block.store ∈ F)
    (link : Block.link ∈ F) (sett : Block.sett ∈ F) (posts : Block.posts ∈ F) :
    (retryHeld s).hide F = s.hide F := by
  unfold retryHeld
  (repeat' split) <;> simp [burn, store, link, sett, posts]

@[simp] theorem hide_setHeldReason (r : HeldReason) (s : State) (burn : Block.burn ∈ F)
    (link : Block.link ∈ F) :
    (setHeldReason r s).hide F = s.hide F := by
  unfold setHeldReason
  (repeat' split) <;> simp [burn, link]

@[simp] theorem hide_evaluateHeld (s : State) (burn : Block.burn ∈ F) (store : Block.store ∈ F)
    (link : Block.link ∈ F) (sett : Block.sett ∈ F) (posts : Block.posts ∈ F) :
    (evaluateHeld s).hide F = s.hide F := by
  unfold evaluateHeld
  (repeat' split) <;> simp [burn, store, link, sett, posts]

@[simp] theorem hide_heldMinute (s : State) (burn : Block.burn ∈ F) (store : Block.store ∈ F)
    (link : Block.link ∈ F) (sett : Block.sett ∈ F) (posts : Block.posts ∈ F) :
    (heldMinute s).hide F = s.hide F := by
  unfold heldMinute
  (repeat' split) <;> simp [burn, store, link, sett, posts]

@[simp] theorem hide_raiseRelock (s : State) (burn : Block.burn ∈ F) :
    (raiseRelock s).hide F = s.hide F := by
  unfold raiseRelock
  simp [burn]

@[simp] theorem hide_enterLocked (cause : LockCause) (left : Option BurnState) (s : State)
    (burn : Block.burn ∈ F) (store : Block.store ∈ F) (link : Block.link ∈ F)
    (sett : Block.sett ∈ F) (posts : Block.posts ∈ F) :
    (enterLocked cause left s).hide F = s.hide F := by
  unfold enterLocked
  (repeat' split) <;> simp [burn, store, link, sett, posts]

@[simp] theorem hide_burnStateHoldEnds (s : State) (burn : Block.burn ∈ F)
    (store : Block.store ∈ F) (link : Block.link ∈ F) (sett : Block.sett ∈ F)
    (posts : Block.posts ∈ F) :
    (burnStateHoldEnds s).hide F = s.hide F := by
  unfold burnStateHoldEnds
  (repeat' split) <;> simp [burn, store, link, sett, posts]

@[simp] theorem hide_resetSucceeds (s : State) (burn : Block.burn ∈ F) (posts : Block.posts ∈ F) :
    (resetSucceeds s).hide F = s.hide F := by
  unfold resetSucceeds
  simp [burn, posts]

@[simp] theorem hide_burnLampFall (s : State) (burn : Block.burn ∈ F) (store : Block.store ∈ F)
    (link : Block.link ∈ F) (sett : Block.sett ∈ F) (posts : Block.posts ∈ F) :
    (burnLampFall s).hide F = s.hide F := by
  unfold burnLampFall
  (repeat' split) <;> simp [burn, store, link, sett, posts]

@[simp] theorem hide_abandonReset (s : State) (burn : Block.burn ∈ F) (store : Block.store ∈ F)
    (link : Block.link ∈ F) (sett : Block.sett ∈ F) (posts : Block.posts ∈ F) :
    (abandonReset s).hide F = s.hide F := by
  unfold abandonReset
  simp [burn, store, link, sett, posts]

@[simp] theorem hide_askMissingLatch (s : State) (burn : Block.burn ∈ F) (store : Block.store ∈ F)
    (link : Block.link ∈ F) (sett : Block.sett ∈ F) (posts : Block.posts ∈ F) :
    (askMissingLatch s).hide F = s.hide F := by
  unfold askMissingLatch
  (repeat' split) <;> simp [burn, store, link, sett, posts]

@[simp] theorem hide_lockoutStoredDecides (s : State) (burn : Block.burn ∈ F)
    (store : Block.store ∈ F) (link : Block.link ∈ F) (sett : Block.sett ∈ F)
    (posts : Block.posts ∈ F) :
    (lockoutStoredDecides s).hide F = s.hide F := by
  unfold lockoutStoredDecides
  (repeat' split) <;> simp [burn, store, link, sett, posts]

@[simp] theorem hide_lockoutStored (s : State) (burn : Block.burn ∈ F) (store : Block.store ∈ F)
    (link : Block.link ∈ F) (sett : Block.sett ∈ F) (posts : Block.posts ∈ F) :
    (lockoutStored s).hide F = s.hide F := by
  unfold lockoutStored
  dsimp only
  (repeat' split) <;> simp [burn, store, link, sett, posts]

@[simp] theorem hide_resetStoredActs (s : State) (burn : Block.burn ∈ F)
    (posts : Block.posts ∈ F) :
    (resetStoredActs s).hide F = s.hide F := by
  unfold resetStoredActs
  simp [burn, posts]

@[simp] theorem hide_resetStored (o : Origin) (stamp : Nat) (s : State) (burn : Block.burn ∈ F)
    (store : Block.store ∈ F) (link : Block.link ∈ F) (sett : Block.sett ∈ F)
    (posts : Block.posts ∈ F) :
    (resetStored o stamp s).hide F = s.hide F := by
  unfold resetStored
  dsimp only
  (repeat' split) <;> simp [burn, store, link, sett, posts]

@[simp] theorem hide_resetRecordRefused (s : State) (burn : Block.burn ∈ F)
    (store : Block.store ∈ F) (link : Block.link ∈ F) (sett : Block.sett ∈ F)
    (posts : Block.posts ∈ F) :
    (resetRecordRefused s).hide F = s.hide F := by
  unfold resetRecordRefused
  (repeat' split) <;> simp [burn, store, link, sett, posts]

@[simp] theorem hide_becomesOwed (p : Payload) (s : State) (burn : Block.burn ∈ F) :
    (becomesOwed p s).hide F = s.hide F := by
  unfold becomesOwed
  simp [burn]

@[simp] theorem hide_refuseAsk (s : State) (x1 : Ask) (burn : Block.burn ∈ F)
    (store : Block.store ∈ F) (link : Block.link ∈ F) (sett : Block.sett ∈ F)
    (posts : Block.posts ∈ F) :
    (refuseAsk s x1).hide F = s.hide F := by
  unfold refuseAsk
  split
  case h_1 => exact hide_ofNewest _ _ _ fun t => by simp [burn, store, link, sett, posts]
  all_goals simp [burn, store, link, sett, posts]

@[simp] theorem hide_owedRefused (s : State) (burn : Block.burn ∈ F) (store : Block.store ∈ F)
    (link : Block.link ∈ F) (sett : Block.sett ∈ F) (posts : Block.posts ∈ F) :
    (owedRefused s).hide F = s.hide F := by
  unfold owedRefused
  simp [burn, store, link, sett, posts, hide_foldl]

@[simp] theorem hide_ackStored (s : State) (burn : Block.burn ∈ F) (link : Block.link ∈ F)
    (posts : Block.posts ∈ F) :
    (ackStored s).hide F = s.hide F := by
  unfold ackStored
  (repeat' split) <;> simp [burn, link, posts]

@[simp] theorem hide_burnAnswer (a : Answer) (s : State) (burn : Block.burn ∈ F)
    (store : Block.store ∈ F) (link : Block.link ∈ F) (sett : Block.sett ∈ F)
    (posts : Block.posts ∈ F) :
    (burnAnswer a s).hide F = s.hide F := by
  unfold burnAnswer
  split
  case h_1 => exact hide_ofNewest _ _ _ fun t => by simp [burn, store, link, sett, posts]
  case h_2 => exact hide_ofNewest _ _ _ fun t => by simp [burn, store, link, sett, posts]
  all_goals first | (split <;> simp [burn, store, link, sett, posts]) | simp [burn, store, link,
      sett, posts]

@[simp] theorem hide_takeAnswers (n : Nat) (s : State) (burn : Block.burn ∈ F)
    (store : Block.store ∈ F)
    (link : Block.link ∈ F) (sett : Block.sett ∈ F) (posts : Block.posts ∈ F) :
    (takeAnswers n s).hide F = s.hide F := by
  induction n generalizing s with
  | zero => rfl
  | succ n ih =>
    unfold takeAnswers
    split
    · rfl
    · simp [ih, burn, store, link, sett, posts]

@[simp] theorem hide_burnHoldBegins (s : State) (burn : Block.burn ∈ F) (gauge : Block.gauge ∈ F)
    (fuel : Block.fuel ∈ F) (store : Block.store ∈ F) (link : Block.link ∈ F)
    (sett : Block.sett ∈ F) (posts : Block.posts ∈ F) :
    (burnHoldBegins s).hide F = s.hide F := by
  unfold burnHoldBegins
  dsimp only
  (repeat' split) <;> simp [burn, gauge, fuel, store, link, sett, posts]

@[simp] theorem hide_burnMinute (s : State) (burn : Block.burn ∈ F) (store : Block.store ∈ F)
    (link : Block.link ∈ F) (sett : Block.sett ∈ F) (posts : Block.posts ∈ F) :
    (burnMinute s).hide F = s.hide F := by
  unfold burnMinute
  simp [burn, store, link, sett, posts]

@[simp] theorem hide_burnSeesValve (s : State) (burn : Block.burn ∈ F) (link : Block.link ∈ F) :
    (burnSeesValve s).hide F = s.hide F := by
  unfold burnSeesValve
  (repeat' split) <;> simp [burn, link]

@[simp] theorem hide_proveExpires (s : State) (burn : Block.burn ∈ F) (store : Block.store ∈ F)
    (link : Block.link ∈ F) (sett : Block.sett ∈ F) (posts : Block.posts ∈ F) :
    (proveExpires s).hide F = s.hide F := by
  unfold proveExpires
  dsimp only
  (repeat' split) <;> simp [burn, store, link, sett, posts]

@[simp] theorem hide_settle (s : State) (burn : Block.burn ∈ F) (store : Block.store ∈ F)
    (link : Block.link ∈ F) (sett : Block.sett ∈ F) (posts : Block.posts ∈ F) :
    (settle s).hide F = s.hide F := by
  unfold settle
  simp [burn, store, link, sett, posts]

@[simp] theorem hide_deriveBurner (s : State) (burn : Block.burn ∈ F) (store : Block.store ∈ F)
    (link : Block.link ∈ F) (sett : Block.sett ∈ F) (posts : Block.posts ∈ F) :
    (deriveBurner s).hide F = s.hide F := by
  unfold deriveBurner
  simp [burn, store, link, sett, posts]

@[simp] theorem hide_lampRiseIn (s : State) (burn : Block.burn ∈ F) (store : Block.store ∈ F)
    (link : Block.link ∈ F) (sett : Block.sett ∈ F) (posts : Block.posts ∈ F) :
    (lampRiseIn s).hide F = s.hide F := by
  unfold lampRiseIn
  (repeat' split) <;> simp [burn, store, link, sett, posts]

@[simp] theorem hide_burnLampRise (s : State) (burn : Block.burn ∈ F) (store : Block.store ∈ F)
    (link : Block.link ∈ F) (sett : Block.sett ∈ F) (posts : Block.posts ∈ F) :
    (burnLampRise s).hide F = s.hide F := by
  unfold burnLampRise
  simp [burn, store, link, sett, posts]

@[simp] theorem hide_pulseExpires (s : State) (burn : Block.burn ∈ F) (posts : Block.posts ∈ F) :
    (pulseExpires s).hide F = s.hide F := by
  unfold pulseExpires
  simp [burn, posts]

@[simp] theorem hide_burnHoldEnds (s : State) (burn : Block.burn ∈ F) (store : Block.store ∈ F)
    (link : Block.link ∈ F) (sett : Block.sett ∈ F) (posts : Block.posts ∈ F) :
    (burnHoldEnds s).hide F = s.hide F := by
  unfold burnHoldEnds
  simp [burn, store, link, sett, posts]

@[simp] theorem hide_takeAck (s : State) (burn : Block.burn ∈ F) (store : Block.store ∈ F)
    (link : Block.link ∈ F) (sett : Block.sett ∈ F) (posts : Block.posts ∈ F) :
    (takeAck s).hide F = s.hide F := by
  unfold takeAck
  (repeat' split) <;> simp [burn, store, link, sett, posts]

@[simp] theorem hide_cooldownExpires (s : State) (burn : Block.burn ∈ F) (store : Block.store ∈ F)
    (link : Block.link ∈ F) (sett : Block.sett ∈ F) (posts : Block.posts ∈ F) :
    (cooldownExpires s).hide F = s.hide F := by
  unfold cooldownExpires
  dsimp only
  (repeat' split) <;> simp [burn, store, link, sett, posts]

@[simp] theorem hide_restoreBurn (s : State) (burn : Block.burn ∈ F) :
    (restoreBurn s).hide F = s.hide F := by
  unfold restoreBurn
  simp [burn]

@[simp] theorem hide_checkExpires (s : State) (burn : Block.burn ∈ F) (store : Block.store ∈ F)
    (link : Block.link ∈ F) (sett : Block.sett ∈ F) (posts : Block.posts ∈ F) :
    (checkExpires s).hide F = s.hide F := by
  unfold checkExpires
  simp [burn, store, link, sett, posts]

@[simp] theorem hide_evaluatePump (s : State) (out : Block.out ∈ F) (posts : Block.posts ∈ F) :
    (evaluatePump s).hide F = s.hide F := by
  unfold evaluatePump
  (repeat' split) <;> simp [out, posts]

@[simp] theorem hide_resolveChannel (ch : Fin 10) (s : State) (out : Block.out ∈ F)
    (posts : Block.posts ∈ F) :
    (resolveChannel ch s).hide F = s.hide F := by
  unfold resolveChannel
  (repeat' split) <;> simp [out, posts]

@[simp] theorem hide_tellLoad (ch : Fin 10) (new : LoadState) (s : State)
    (loop : Block.loop ∈ F) (zone : Block.zone ∈ F) (burn : Block.burn ∈ F)
    (link : Block.link ∈ F) (posts : Block.posts ∈ F) :
    (tellLoad ch new s).hide F = s.hide F := by
  unfold tellLoad
  (repeat' split) <;> simp [loop, zone, burn, link, posts]

@[simp] theorem hide_setLoad (ch : Fin 10) (new : LoadState) (s : State) (out : Block.out ∈ F)
    (loop : Block.loop ∈ F) (zone : Block.zone ∈ F) (burn : Block.burn ∈ F)
    (link : Block.link ∈ F) (posts : Block.posts ∈ F) :
    (setLoad ch new s).hide F = s.hide F := by
  unfold setLoad
  (repeat' split) <;> simp [out, loop, zone, burn, link, posts]

@[simp] theorem hide_judgeHigh (ch : Fin 10) (s : State) (out : Block.out ∈ F)
    (loop : Block.loop ∈ F) (zone : Block.zone ∈ F) (burn : Block.burn ∈ F)
    (link : Block.link ∈ F) (posts : Block.posts ∈ F) :
    (judgeHigh ch s).hide F = s.hide F := by
  unfold judgeHigh
  (repeat' split) <;> simp [out, loop, zone, burn, link, posts]

@[simp] theorem hide_judgeLeaking (ch : Fin 10) (s : State) (out : Block.out ∈ F)
    (loop : Block.loop ∈ F) (zone : Block.zone ∈ F) (burn : Block.burn ∈ F)
    (link : Block.link ∈ F) (posts : Block.posts ∈ F) :
    (judgeLeaking ch s).hide F = s.hide F := by
  unfold judgeLeaking
  (repeat' split) <;> simp [out, loop, zone, burn, link, posts]

theorem hide_eachChannel (f : Fin 10 → State → State) (s : State)
    (h : ∀ ch t, (f ch t).hide F = t.hide F) : (eachChannel f s).hide F = s.hide F :=
  hide_foldl _ (fun t ch => h ch t) _ _

@[simp] theorem hide_resolveAll (s : State) (out : Block.out ∈ F) (posts : Block.posts ∈ F) :
    (resolveAll s).hide F = s.hide F := by
  unfold resolveAll
  simp [out, posts, hide_eachChannel]

@[simp] theorem hide_outHoldEnds (s : State) (out : Block.out ∈ F) (posts : Block.posts ∈ F) :
    (outHoldEnds s).hide F = s.hide F := by
  unfold outHoldEnds
  simp [out, posts, hide_eachChannel]

@[simp] theorem hide_clearAllCounts (s : State) (out : Block.out ∈ F) :
    (clearAllCounts s).hide F = s.hide F := by
  unfold clearAllCounts
  simp [out, hide_eachChannel]

@[simp] theorem hide_outTakesMeasureFault (set : Bool) (s : State) (out : Block.out ∈ F)
    (posts : Block.posts ∈ F) :
    (outTakesMeasureFault set s).hide F = s.hide F := by
  unfold outTakesMeasureFault
  (repeat' split) <;> simp [out, posts]

@[simp] theorem hide_judgeLow (ch : Fin 10) (s : State) (out : Block.out ∈ F)
    (loop : Block.loop ∈ F) (zone : Block.zone ∈ F) (burn : Block.burn ∈ F)
    (link : Block.link ∈ F) (posts : Block.posts ∈ F) :
    (judgeLow ch s).hide F = s.hide F := by
  unfold judgeLow
  (repeat' split) <;> simp [out, loop, zone, burn, link, posts]

@[simp] theorem hide_judgeWithin (ch : Fin 10) (s : State) (out : Block.out ∈ F)
    (loop : Block.loop ∈ F) (zone : Block.zone ∈ F) (burn : Block.burn ∈ F)
    (link : Block.link ∈ F) (posts : Block.posts ∈ F) :
    (judgeWithin ch s).hide F = s.hide F := by
  unfold judgeWithin
  (repeat' split) <;> simp [out, loop, zone, burn, link, posts]

@[simp] theorem hide_judgeQuiet (ch : Fin 10) (s : State) (out : Block.out ∈ F)
    (loop : Block.loop ∈ F) (zone : Block.zone ∈ F) (burn : Block.burn ∈ F)
    (link : Block.link ∈ F) (posts : Block.posts ∈ F) :
    (judgeQuiet ch s).hide F = s.hide F := by
  unfold judgeQuiet
  (repeat' split) <;> simp [out, loop, zone, burn, link, posts]

@[simp] theorem hide_judge (ch : Fin 10) (ma : Nat) (s : State) (out : Block.out ∈ F)
    (loop : Block.loop ∈ F) (zone : Block.zone ∈ F) (burn : Block.burn ∈ F)
    (link : Block.link ∈ F) (posts : Block.posts ∈ F) :
    (judge ch ma s).hide F = s.hide F := by
  unfold judge
  (repeat' split) <;> simp [out, loop, zone, burn, link, posts]

@[simp] theorem hide_countOverrides (s : State) (out : Block.out ∈ F) :
    (countOverrides s).hide F = s.hide F := by
  unfold countOverrides
  simp [out, hide_eachChannel]

@[simp] theorem hide_setOverride (ch : Fin 10) (o : Option (Bool × Nat)) (s : State)
    (out : Block.out ∈ F) (posts : Block.posts ∈ F) :
    (setOverride ch o s).hide F = s.hide F := by
  unfold setOverride
  simp [out, posts]

@[simp] theorem hide_takeCurrent (ch : Fin 10) (ma : Nat) (s : State) (out : Block.out ∈ F)
    (loop : Block.loop ∈ F) (zone : Block.zone ∈ F) (burn : Block.burn ∈ F)
    (link : Block.link ∈ F) (posts : Block.posts ∈ F) :
    (takeCurrent ch ma s).hide F = s.hide F := by
  unfold takeCurrent
  (repeat' split) <;> simp [out, loop, zone, burn, link, posts]

@[simp] theorem hide_outTakesPass (s : State) (out : Block.out ∈ F) (loop : Block.loop ∈ F)
    (zone : Block.zone ∈ F) (burn : Block.burn ∈ F) (link : Block.link ∈ F)
    (posts : Block.posts ∈ F) :
    (outTakesPass s).hide F = s.hide F := by
  unfold outTakesPass
  simp [out, loop, zone, burn, link, posts, hide_eachChannel]

@[simp] theorem hide_outHoldBegins (s : State) (out : Block.out ∈ F) (posts : Block.posts ∈ F) :
    (outHoldBegins s).hide F = s.hide F := by
  unfold outHoldBegins
  simp [out, posts]

@[simp] theorem hide_setMode (m : OutMode) (cause : ModeCause) (s : State) (out : Block.out ∈ F)
    (loop : Block.loop ∈ F) (zone : Block.zone ∈ F) (link : Block.link ∈ F)
    (posts : Block.posts ∈ F) :
    (setMode m cause s).hide F = s.hide F := by
  unfold setMode
  (repeat' split) <;> simp [out, loop, zone, link, posts]

@[simp] theorem hide_takeDemand (ch : Fin 10) (v : Bool) (s : State) (out : Block.out ∈ F)
    (posts : Block.posts ∈ F) :
    (takeDemand ch v s).hide F = s.hide F := by
  unfold takeDemand
  (repeat' split) <;> simp [out, posts]

@[simp] theorem hide_clearTrip (ch : Fin 10) (s : State) (out : Block.out ∈ F)
    (loop : Block.loop ∈ F) (zone : Block.zone ∈ F) (burn : Block.burn ∈ F)
    (link : Block.link ∈ F) (posts : Block.posts ∈ F) :
    (clearTrip ch s).hide F = s.hide F := by
  unfold clearTrip
  simp [out, loop, zone, burn, link, posts]

@[simp] theorem hide_tellMeasureFault (v : Bool) (s : State) (scan : Block.scan ∈ F)
    (out : Block.out ∈ F) (zone : Block.zone ∈ F) (burn : Block.burn ∈ F)
    (gauge : Block.gauge ∈ F) (fuel : Block.fuel ∈ F) (store : Block.store ∈ F)
    (link : Block.link ∈ F) (sett : Block.sett ∈ F) (posts : Block.posts ∈ F) :
    (tellMeasureFault v s).hide F = s.hide F := by
  unfold tellMeasureFault
  (repeat' split) <;> simp [scan, out, zone, burn, gauge, fuel, store, link, sett, posts]

@[simp] theorem hide_writeRecords (p : PassCounts) (s : State) (scan : Block.scan ∈ F)
    (link : Block.link ∈ F) :
    (writeRecords p s).hide F = s.hide F := by
  unfold writeRecords
  simp [scan, link]

@[simp] theorem hide_settleVerdict (pass : Bool) (s : State) (scan : Block.scan ∈ F)
    (out : Block.out ∈ F) (zone : Block.zone ∈ F) (burn : Block.burn ∈ F)
    (gauge : Block.gauge ∈ F) (fuel : Block.fuel ∈ F) (store : Block.store ∈ F)
    (link : Block.link ∈ F) (sett : Block.sett ∈ F) (posts : Block.posts ∈ F) :
    (settleVerdict pass s).hide F = s.hide F := by
  unfold settleVerdict
  (repeat' split) <;> simp [scan, out, zone, burn, gauge, fuel, store, link, sett, posts]

@[simp] theorem hide_settleTest (ref : Bool) (p : PassCounts) (s : State) (scan : Block.scan ∈ F)
    (out : Block.out ∈ F) (zone : Block.zone ∈ F) (burn : Block.burn ∈ F)
    (gauge : Block.gauge ∈ F) (fuel : Block.fuel ∈ F) (store : Block.store ∈ F)
    (link : Block.link ∈ F) (sett : Block.sett ∈ F) (posts : Block.posts ∈ F) :
    (settleTest ref p s).hide F = s.hide F := by
  unfold settleTest
  (repeat' split) <;> simp [scan, out, zone, burn, gauge, fuel, store, link, sett, posts]

@[simp] theorem hide_endSelfTest (s : State) (scan : Block.scan ∈ F) (link : Block.link ∈ F) :
    (endSelfTest s).hide F = s.hide F := by
  unfold endSelfTest
  (repeat' split) <;> simp [scan, link]

@[simp] theorem hide_offerPass (s : State) (out : Block.out ∈ F) (loop : Block.loop ∈ F)
    (zone : Block.zone ∈ F) (burn : Block.burn ∈ F) (gauge : Block.gauge ∈ F)
    (fuel : Block.fuel ∈ F) (link : Block.link ∈ F) (posts : Block.posts ∈ F) :
    (offerPass s).hide F = s.hide F := by
  unfold offerPass
  simp [out, loop, zone, burn, gauge, fuel, link, posts]

@[simp] theorem hide_completePass (p : PassCounts) (s : State) (scan : Block.scan ∈ F)
    (out : Block.out ∈ F) (loop : Block.loop ∈ F) (zone : Block.zone ∈ F) (burn : Block.burn ∈ F)
    (gauge : Block.gauge ∈ F) (fuel : Block.fuel ∈ F) (store : Block.store ∈ F)
    (link : Block.link ∈ F) (sett : Block.sett ∈ F) (posts : Block.posts ∈ F) :
    (completePass p s).hide F = s.hide F := by
  unfold completePass
  (repeat' split) <;> simp [scan, out, loop, zone, burn, gauge, fuel, store, link, sett, posts]

@[simp] theorem hide_startPass (s : State) (scan : Block.scan ∈ F) :
    (startPass s).hide F = s.hide F := by
  unfold startPass
  simp [scan]

theorem hide_ifBurning (f : State → State) (s : State) (h : ∀ t, (f t).hide F = t.hide F) :
    (ifBurning f s).hide F = s.hide F := by
  unfold ifBurning
  split <;> simp [h]

theorem hide_tellBurn (stands : Bool) (act : State → State) (s : State)
    (inputs : Block.inputs ∈ F) (h : ∀ t, (act t).hide F = t.hide F) :
    (tellBurn stands act s).hide F = s.hide F := by
  unfold tellBurn
  split <;> simp [h, inputs]

@[simp] theorem hide_tellHoldEnds (s : State)
    (inputs : Block.inputs ∈ F) (out : Block.out ∈ F) (zone : Block.zone ∈ F)
    (burn : Block.burn ∈ F) (gauge : Block.gauge ∈ F) (store : Block.store ∈ F)
    (link : Block.link ∈ F) (sett : Block.sett ∈ F) (posts : Block.posts ∈ F) :
    (tellHoldEnds s).hide F = s.hide F := by
  unfold tellHoldEnds
  simp [inputs, out, zone, burn, gauge, store, link, sett, posts, hide_tellBurn]

@[simp] theorem hide_endHold (s : State)
    (inputs : Block.inputs ∈ F) (out : Block.out ∈ F) (zone : Block.zone ∈ F)
    (burn : Block.burn ∈ F) (gauge : Block.gauge ∈ F) (store : Block.store ∈ F)
    (supply : Block.supply ∈ F) (link : Block.link ∈ F) (sett : Block.sett ∈ F)
    (posts : Block.posts ∈ F) :
    (endHold s).hide F = s.hide F := by
  unfold endHold
  simp [inputs, out, zone, burn, gauge, store, supply, link, sett, posts]

@[simp] theorem hide_drainHeat (s : State) (burn : Block.burn ∈ F) (posts : Block.posts ∈ F) :
    (drainHeat s).hide F = s.hide F := by
  unfold drainHeat
  simp [burn, posts, hide_foldl]

@[simp] theorem hide_drainPump (s : State) (burn : Block.burn ∈ F) (posts : Block.posts ∈ F) :
    (drainPump s).hide F = s.hide F := by
  unfold drainPump
  simp [burn, posts, hide_foldl]

@[simp] theorem hide_drainFirst (x1 : HoldOrder) (x2 : State) (burn : Block.burn ∈ F)
    (posts : Block.posts ∈ F) :
    (drainFirst x1 x2).hide F = x2.hide F := by
  unfold drainFirst
  (repeat' split) <;> simp [burn, posts]

@[simp] theorem hide_burnTakesHold (order : HoldOrder) (s : State) (burn : Block.burn ∈ F)
    (fuel : Block.fuel ∈ F) (gauge : Block.gauge ∈ F) (store : Block.store ∈ F)
    (link : Block.link ∈ F) (sett : Block.sett ∈ F) (posts : Block.posts ∈ F) :
    (burnTakesHold order s).hide F = s.hide F := by
  unfold burnTakesHold
  simp [burn, fuel, gauge, store, link, sett, posts]

@[simp] theorem hide_tellHoldBegins (order : HoldOrder) (s : State)
    (inputs : Block.inputs ∈ F) (out : Block.out ∈ F)
    (loop : Block.loop ∈ F) (zone : Block.zone ∈ F) (burn : Block.burn ∈ F)
    (gauge : Block.gauge ∈ F) (fuel : Block.fuel ∈ F) (store : Block.store ∈ F)
    (link : Block.link ∈ F) (sett : Block.sett ∈ F) (posts : Block.posts ∈ F) :
    (tellHoldBegins order s).hide F = s.hide F := by
  unfold tellHoldBegins
  simp [inputs, out, loop, zone, burn, gauge, fuel, store, link, sett, posts, hide_tellBurn]

@[simp] theorem hide_beginHold (order : HoldOrder) (s : State)
    (inputs : Block.inputs ∈ F) (out : Block.out ∈ F)
    (loop : Block.loop ∈ F) (zone : Block.zone ∈ F) (burn : Block.burn ∈ F)
    (gauge : Block.gauge ∈ F) (fuel : Block.fuel ∈ F) (store : Block.store ∈ F)
    (supply : Block.supply ∈ F) (link : Block.link ∈ F) (sett : Block.sett ∈ F)
    (posts : Block.posts ∈ F) :
    (beginHold order s).hide F = s.hide F := by
  unfold beginHold
  simp [inputs, out, loop, zone, burn, gauge, fuel, store, supply, link, sett, posts]

@[simp] theorem hide_mainsFalls (order : HoldOrder) (s : State)
    (inputs : Block.inputs ∈ F) (out : Block.out ∈ F)
    (loop : Block.loop ∈ F) (zone : Block.zone ∈ F) (burn : Block.burn ∈ F)
    (gauge : Block.gauge ∈ F) (fuel : Block.fuel ∈ F) (store : Block.store ∈ F)
    (supply : Block.supply ∈ F) (link : Block.link ∈ F) (sett : Block.sett ∈ F)
    (posts : Block.posts ∈ F) :
    (mainsFalls order s).hide F = s.hide F := by
  unfold mainsFalls
  (repeat' split) <;> simp [inputs, out, loop, zone, burn, gauge, fuel, store, supply, link, sett, posts]

@[simp] theorem hide_mainsRises (s : State) (supply : Block.supply ∈ F) :
    (mainsRises s).hide F = s.hide F := by
  unfold mainsRises
  (repeat' split) <;> simp [supply]

@[simp] theorem hide_Reading.clearFresh (g : Reading) (s : State) (scan : Block.scan ∈ F) :
    (Reading.clearFresh g s).hide F = s.hide F := by
  unfold Reading.clearFresh
  (repeat' split) <;> simp [scan]

@[simp] theorem hide_bindingChanged (z : Fin 6) (s : State) (loop : Block.loop ∈ F)
    (zone : Block.zone ∈ F) (link : Block.link ∈ F) (posts : Block.posts ∈ F) :
    (bindingChanged z s).hide F = s.hide F := by
  unfold bindingChanged
  simp [loop, zone, link, posts]

@[simp] theorem hide_loadSettings (s : State) (link : Block.link ∈ F) (sett : Block.sett ∈ F) :
    (loadSettings s).hide F = s.hide F := by
  unfold loadSettings
  (repeat' split) <;> simp [link, sett]

@[simp] theorem hide_reloadSilence (s : State) (link : Block.link ∈ F) :
    (reloadSilence s).hide F = s.hide F := by
  unfold reloadSilence
  (repeat' split) <;> simp [link]

@[simp] theorem hide_sinkChanged (old : Fin 6) (s : State) (zone : Block.zone ∈ F)
    (posts : Block.posts ∈ F) :
    (sinkChanged old s).hide F = s.hide F := by
  unfold sinkChanged
  (repeat' split) <;> simp [zone, posts]

@[simp] theorem hide_targetsChanged (z : Fin 6) (s : State) (loop : Block.loop ∈ F)
    (zone : Block.zone ∈ F) (posts : Block.posts ∈ F) :
    (targetsChanged z s).hide F = s.hide F := by
  unfold targetsChanged
  simp [loop, zone, posts]

@[simp] theorem hide_changeEffect (old : Settings) (p : Param) (s : State) (out : Block.out ∈ F)
    (loop : Block.loop ∈ F) (zone : Block.zone ∈ F) (burn : Block.burn ∈ F)
    (gauge : Block.gauge ∈ F) (fuel : Block.fuel ∈ F) (store : Block.store ∈ F)
    (link : Block.link ∈ F) (sett : Block.sett ∈ F) (posts : Block.posts ∈ F) :
    (changeEffect old p s).hide F = s.hide F := by
  unfold changeEffect
  (repeat' split) <;> simp [out, loop, zone, burn, gauge, fuel, store, link, sett, posts]

@[simp] theorem hide_beforeChange (p : Param) (s : State) (burn : Block.burn ∈ F)
    (gauge : Block.gauge ∈ F) (fuel : Block.fuel ∈ F) :
    (beforeChange p s).hide F = s.hide F := by
  unfold beforeChange
  (repeat' split) <;> simp [burn, gauge, fuel]

@[simp] theorem hide_storeWorking (w : Settings) (s : State) (sett : Block.sett ∈ F) :
    (storeWorking w s).hide F = s.hide F := by
  unfold storeWorking
  simp [sett]

@[simp] theorem hide_storeParam (p : Param) (v : Int) (s : State) (out : Block.out ∈ F)
    (loop : Block.loop ∈ F) (zone : Block.zone ∈ F) (burn : Block.burn ∈ F)
    (gauge : Block.gauge ∈ F) (fuel : Block.fuel ∈ F) (store : Block.store ∈ F)
    (link : Block.link ∈ F) (sett : Block.sett ∈ F) (posts : Block.posts ∈ F) :
    (storeParam p v s).hide F = s.hide F := by
  unfold storeParam
  (repeat' split) <;> simp [out, loop, zone, burn, gauge, fuel, store, link, sett, posts]

@[simp] theorem hide_storeChecked (p : Param) (v : Int) (s : State) (out : Block.out ∈ F)
    (loop : Block.loop ∈ F) (zone : Block.zone ∈ F) (burn : Block.burn ∈ F)
    (gauge : Block.gauge ∈ F) (fuel : Block.fuel ∈ F) (store : Block.store ∈ F)
    (link : Block.link ∈ F) (sett : Block.sett ∈ F) (posts : Block.posts ∈ F) :
    (storeChecked p v s).1.hide F = s.hide F := by
  unfold storeChecked
  simp [out, loop, zone, burn, gauge, fuel, store, link, sett, posts]

@[simp] theorem hide_setValue (p : Param) (v : Int) (s : State) (out : Block.out ∈ F)
    (loop : Block.loop ∈ F) (zone : Block.zone ∈ F) (burn : Block.burn ∈ F)
    (gauge : Block.gauge ∈ F) (fuel : Block.fuel ∈ F) (store : Block.store ∈ F)
    (link : Block.link ∈ F) (sett : Block.sett ∈ F) (posts : Block.posts ∈ F) :
    (setValue p v s).1.hide F = s.hide F := by
  unfold setValue
  (repeat' split) <;> simp [out, loop, zone, burn, gauge, fuel, store, link, sett, posts]

@[simp] theorem hide_setRequest (payload : List Byte) (s : State) (out : Block.out ∈ F)
    (loop : Block.loop ∈ F) (zone : Block.zone ∈ F) (burn : Block.burn ∈ F)
    (gauge : Block.gauge ∈ F) (fuel : Block.fuel ∈ F) (store : Block.store ∈ F)
    (link : Block.link ∈ F) (sett : Block.sett ∈ F) (posts : Block.posts ∈ F) :
    (setRequest payload s).1.hide F = s.hide F := by
  unfold setRequest
  (repeat' split) <;> simp [out, loop, zone, burn, gauge, fuel, store, link, sett, posts]

@[simp] theorem hide_getRequest (payload : List Byte) (s : State) (scan : Block.scan ∈ F) :
    (getRequest payload s).1.hide F = s.hide F := by
  unfold getRequest
  (repeat' split) <;> simp [scan]

@[simp] theorem hide_setLevel (x : Input) (v : Bool) (s : State) (inputs : Block.inputs ∈ F) :
    (setLevel x v s).hide F = s.hide F := by
  unfold setLevel
  simp [inputs]

@[simp] theorem hide_zonesBegin (s : State) (zone : Block.zone ∈ F) (posts : Block.posts ∈ F) :
    (zonesBegin s).hide F = s.hide F := by
  unfold zonesBegin
  simp [zone, posts, hide_eachZone]

@[simp] theorem hide_handSupply (mains : Bool) (s : State) (supply : Block.supply ∈ F) :
    (handSupply mains s).hide F = s.hide F := by
  unfold handSupply
  (repeat' split) <;> simp [supply]

@[simp] theorem hide_supplyBegins (s : State) (link : Block.link ∈ F) :
    (supplyBegins s).hide F = s.hide F := by
  unfold supplyBegins
  (repeat' split) <;> simp [link]

@[simp] theorem hide_linkBegins (s : State) (link : Block.link ∈ F) :
    (linkBegins s).hide F = s.hide F := by
  unfold linkBegins
  simp [link]

@[simp] theorem hide_fuelBegins (s : State) (fuel : Block.fuel ∈ F) :
    (fuelBegins s).hide F = s.hide F := by
  unfold fuelBegins
  simp [fuel]

@[simp] theorem hide_takeLastDemand (ch : Fin 10) (s : State) (out : Block.out ∈ F)
    (posts : Block.posts ∈ F) :
    (takeLastDemand ch s).hide F = s.hide F := by
  unfold takeLastDemand
  split <;> simp [out, posts]

@[simp] theorem hide_outBegins (s : State) (out : Block.out ∈ F) (posts : Block.posts ∈ F) :
    (outBegins s).hide F = s.hide F := by
  unfold outBegins
  simp [out, posts, hide_eachChannel]

@[simp] theorem hide_beginWork (s : State) (phase : Block.phase ∈ F) (scan : Block.scan ∈ F)
    (out : Block.out ∈ F) (loop : Block.loop ∈ F) (zone : Block.zone ∈ F) (burn : Block.burn ∈ F)
    (fuel : Block.fuel ∈ F) (store : Block.store ∈ F) (link : Block.link ∈ F)
    (sett : Block.sett ∈ F) (posts : Block.posts ∈ F) :
    (beginWork s).hide F = s.hide F := by
  unfold beginWork
  simp [phase, scan, out, loop, zone, burn, fuel, store, link, sett, posts]

@[simp] theorem hide_beginScan (s : State) (phase : Block.phase ∈ F) (store : Block.store ∈ F) :
    (beginScan s).hide F = s.hide F := by
  unfold beginScan
  simp [phase, store]

@[simp] theorem hide_handSettings (s : State) (loop : Block.loop ∈ F) (link : Block.link ∈ F)
    (sett : Block.sett ∈ F) :
    (handSettings s).hide F = s.hide F := by
  unfold handSettings
  dsimp only
  rw [hide_foldl]
  · simp [link, sett]
  · intro t n
    split <;> simp [loop]

@[simp] theorem hide_holdEdge (x : Input) (v : Bool) (s : State) (inputs : Block.inputs ∈ F) :
    (holdEdge x v s).hide F = s.hide F := by
  unfold holdEdge
  (repeat' split) <;> simp [inputs]

theorem hide_edge (x : Input) (v : Bool) (act : State → State) (s : State)
    (inputs : Block.inputs ∈ F) (h : ∀ t, (act t).hide F = t.hide F) :
    (edge x v act s).hide F = s.hide F := by
  unfold edge
  split
  · simp [inputs]
  · split <;> simp [h, inputs]

theorem hide_takeHeld (p : Held → Bool) (act : State → Held → State) (s : State)
    (inputs : Block.inputs ∈ F) (h : ∀ t x, (act t x).hide F = t.hide F) :
    (takeHeld p act s).hide F = s.hide F := by
  unfold takeHeld
  rw [hide_foldl _ h]
  simp [inputs]

@[simp] theorem hide_handHistory (s : State) (burn : Block.burn ∈ F) (gauge : Block.gauge ∈ F)
    (fuel : Block.fuel ∈ F) (posts : Block.posts ∈ F) :
    (handHistory s).hide F = s.hide F := by
  unfold handHistory
  simp [burn, gauge, fuel, posts]

@[simp] theorem hide_supplyTakesHeld (x : Held) (s : State) (inputs : Block.inputs ∈ F)
    (out : Block.out ∈ F) (loop : Block.loop ∈ F) (zone : Block.zone ∈ F) (burn : Block.burn ∈ F)
    (gauge : Block.gauge ∈ F) (fuel : Block.fuel ∈ F) (store : Block.store ∈ F)
    (supply : Block.supply ∈ F) (link : Block.link ∈ F) (sett : Block.sett ∈ F)
    (posts : Block.posts ∈ F) :
    (supplyTakesHeld s x).hide F = s.hide F := by
  unfold supplyTakesHeld
  (repeat' split) <;> simp [inputs, out, loop, zone, burn, gauge, fuel, store, supply, link, sett,
      posts]

@[simp] theorem hide_handMains (s : State) (inputs : Block.inputs ∈ F) (out : Block.out ∈ F)
    (loop : Block.loop ∈ F) (zone : Block.zone ∈ F) (burn : Block.burn ∈ F)
    (gauge : Block.gauge ∈ F) (fuel : Block.fuel ∈ F) (store : Block.store ∈ F)
    (supply : Block.supply ∈ F) (link : Block.link ∈ F) (sett : Block.sett ∈ F)
    (posts : Block.posts ∈ F) :
    (handMains s).hide F = s.hide F :=
  hide_takeHeld _ _ _ inputs fun t x => by simp [inputs, out, loop, zone, burn, gauge, fuel, store,
      supply, link, sett, posts]

@[simp] theorem hide_handRest (s : State) (phase : Block.phase ∈ F) (inputs : Block.inputs ∈ F)
    (out : Block.out ∈ F) (loop : Block.loop ∈ F) (zone : Block.zone ∈ F) (burn : Block.burn ∈ F)
    (gauge : Block.gauge ∈ F) (fuel : Block.fuel ∈ F) (store : Block.store ∈ F)
    (supply : Block.supply ∈ F) (link : Block.link ∈ F) (sett : Block.sett ∈ F)
    (posts : Block.posts ∈ F) :
    (handRest s).hide F = s.hide F := by
  unfold handRest
  (repeat' split) <;> simp [phase, inputs, out, loop, zone, burn, gauge, fuel, store, supply, link,
      sett, posts]

@[simp] theorem hide_handTime (s : State) (store : Block.store ∈ F) :
    (handTime s).hide F = s.hide F := by
  unfold handTime
  (repeat' split) <;> simp [store]

@[simp] theorem hide_handOver (s : State) (phase : Block.phase ∈ F) (inputs : Block.inputs ∈ F)
    (out : Block.out ∈ F) (loop : Block.loop ∈ F) (zone : Block.zone ∈ F) (burn : Block.burn ∈ F)
    (gauge : Block.gauge ∈ F) (fuel : Block.fuel ∈ F) (store : Block.store ∈ F)
    (supply : Block.supply ∈ F) (link : Block.link ∈ F) (sett : Block.sett ∈ F)
    (posts : Block.posts ∈ F) :
    (handOver s).hide F = s.hide F := by
  unfold handOver
  (repeat' split) <;> simp [phase, inputs, out, loop, zone, burn, gauge, fuel, store, supply, link,
      sett, posts]

@[simp] theorem hide_burnTakesHeld (x : Held) (s : State) (inputs : Block.inputs ∈ F)
    (burn : Block.burn ∈ F) (gauge : Block.gauge ∈ F) (fuel : Block.fuel ∈ F)
    (store : Block.store ∈ F) (link : Block.link ∈ F) (sett : Block.sett ∈ F)
    (posts : Block.posts ∈ F) :
    (burnTakesHeld s x).hide F = s.hide F := by
  unfold burnTakesHeld
  split
  · rw [hide_outsideHold _ _ fun t => by split <;> simp [burn, store, link, sett, posts]]
    simp [inputs]
  · rw [hide_outsideHold _ _ fun t => by split <;> simp [burn, gauge, fuel, link, posts]]
    simp [inputs]
  · rfl
  · split <;> simp [burn, gauge, fuel, store, link, sett, posts]

@[simp] theorem hide_deriveAndFollow (s : State) (phase : Block.phase ∈ F)
    (inputs : Block.inputs ∈ F) (burn : Block.burn ∈ F) (gauge : Block.gauge ∈ F)
    (fuel : Block.fuel ∈ F) (store : Block.store ∈ F) (link : Block.link ∈ F)
    (sett : Block.sett ∈ F) (posts : Block.posts ∈ F) :
    (deriveAndFollow s).hide F = s.hide F := by
  unfold deriveAndFollow
  rw [hide_withPhase _ _ phase, hide_takeHeld _ _ _ inputs fun t x => by
    simp [inputs, burn, gauge, fuel, store, link, sett, posts]]
  simp [burn, store, link, sett, posts]

@[simp] theorem hide_takeFirstLevel (x : Input) (v : Bool) (s : State) (inputs : Block.inputs ∈ F)
    (svc : Block.svc ∈ F) :
    (takeFirstLevel x v s).hide F = s.hide F := by
  unfold takeFirstLevel
  (repeat' split) <;> simp [inputs, svc]

@[simp] theorem hide_resumeRequest (payload : List Byte) (s : State) (out : Block.out ∈ F)
    (loop : Block.loop ∈ F) (zone : Block.zone ∈ F) (link : Block.link ∈ F)
    (posts : Block.posts ∈ F) :
    (resumeRequest payload s).1.hide F = s.hide F := by
  unfold resumeRequest
  (repeat' split) <;> simp [out, loop, zone, link, posts]

@[simp] theorem hide_overrideExpires (ch : Fin 10) (s : State) (out : Block.out ∈ F)
    (posts : Block.posts ∈ F) :
    (overrideExpires ch s).hide F = s.hide F := by
  unfold overrideExpires
  (repeat' split) <;> simp [out, posts]

@[simp] theorem hide_deliverDemand (ch : Fin 10) (s : State) (out : Block.out ∈ F)
    (posts : Block.posts ∈ F) :
    (deliverDemand ch s).hide F = s.hide F := by
  unfold deliverDemand
  (repeat' split) <;> simp [out, posts]

@[simp] theorem hide_takeOverride (ch : Fin 10) (v : Bool) (m : Nat) (s : State)
    (out : Block.out ∈ F) (posts : Block.posts ∈ F) :
    (takeOverride ch v m s).1.hide F = s.hide F := by
  unfold takeOverride
  simp [out, posts]

@[simp] theorem hide_overrideChannel (ch : Fin 10) (v : Nat) (m : Nat) (s : State)
    (out : Block.out ∈ F) (posts : Block.posts ∈ F) :
    (overrideChannel ch v m s).1.hide F = s.hide F := by
  unfold overrideChannel
  (repeat' split) <;> simp [out, posts]

@[simp] theorem hide_overrideRequest (payload : List Byte) (s : State) (out : Block.out ∈ F)
    (posts : Block.posts ∈ F) :
    (overrideRequest payload s).1.hide F = s.hide F := by
  unfold overrideRequest
  (repeat' split) <;> simp [out, posts]

@[simp] theorem hide_takeSelftest (s : State) (scan : Block.scan ∈ F) (link : Block.link ∈ F) :
    (takeSelftest s).1.hide F = s.hide F := by
  unfold takeSelftest
  simp [scan, link]

@[simp] theorem hide_selftestRequest (payload : List Byte) (s : State) (scan : Block.scan ∈ F)
    (link : Block.link ∈ F) :
    (selftestRequest payload s).1.hide F = s.hide F := by
  unfold selftestRequest
  split
  · exact hide_unlessBusy _ _ _ (hide_unlessHeld _ _ _ (hide_takeSelftest _ scan link))
  · simp

@[simp] theorem hide_clearTripChannel (ch : Fin 10) (s : State) (out : Block.out ∈ F)
    (loop : Block.loop ∈ F) (zone : Block.zone ∈ F) (burn : Block.burn ∈ F)
    (link : Block.link ∈ F) (posts : Block.posts ∈ F) :
    (clearTripChannel ch s).1.hide F = s.hide F := by
  unfold clearTripChannel
  (repeat' split) <;> simp [out, loop, zone, burn, link, posts]

theorem hide_whenRunning (f : State → State) (s : State) (h : ∀ t, (f t).hide F = t.hide F) :
    (whenRunning f s).hide F = s.hide F := by
  unfold whenRunning
  split <;> simp [h]

@[simp] theorem hide_silenceExpires (s : State) (out : Block.out ∈ F) (loop : Block.loop ∈ F)
    (zone : Block.zone ∈ F) (link : Block.link ∈ F) (posts : Block.posts ∈ F) :
    (silenceExpires s).hide F = s.hide F := by
  unfold silenceExpires
  (repeat' split) <;> simp [out, loop, zone, link, posts]

@[simp] theorem hide_clearTripRequest (payload : List Byte) (s : State) (out : Block.out ∈ F)
    (loop : Block.loop ∈ F) (zone : Block.zone ∈ F) (burn : Block.burn ∈ F)
    (link : Block.link ∈ F) (posts : Block.posts ∈ F) :
    (clearTripRequest payload s).1.hide F = s.hide F := by
  unfold clearTripRequest
  (repeat' split) <;> simp [out, loop, zone, burn, link, posts]

@[simp] theorem hide_takeMiss (n : Fin 15) (z : Fin 6) (s : State) (loop : Block.loop ∈ F)
    (zone : Block.zone ∈ F) (link : Block.link ∈ F) (posts : Block.posts ∈ F) :
    (takeMiss n z s).hide F = s.hide F := by
  unfold takeMiss
  simp [loop, zone, link, posts]

@[simp] theorem hide_endBreaks (z : Fin 6) (s : State) (loop : Block.loop ∈ F)
    (zone : Block.zone ∈ F) (link : Block.link ∈ F) (posts : Block.posts ∈ F) :
    (endBreaks z s).hide F = s.hide F := by
  unfold endBreaks
  (repeat' split) <;> simp [loop, zone, link, posts]

@[simp] theorem hide_endMakes (z : Fin 6) (s : State) (zone : Block.zone ∈ F)
    (posts : Block.posts ∈ F) :
    (endMakes z s).hide F = s.hide F := by
  unfold endMakes
  (repeat' split) <;> simp [zone, posts]

@[simp] theorem hide_travelExpires (z : Fin 6) (s : State) (loop : Block.loop ∈ F)
    (zone : Block.zone ∈ F) (link : Block.link ∈ F) (posts : Block.posts ∈ F) :
    (travelExpires z s).hide F = s.hide F := by
  unfold travelExpires
  (repeat' split) <;> simp [loop, zone, link, posts]

@[simp] theorem hide_hostWrite (n : Fin 15) (i : Item) (v : Nat) (s : State)
    (loop : Block.loop ∈ F) :
    (hostWrite n i v s).1.hide F = s.hide F := by
  unfold hostWrite
  (repeat' split) <;> simp [loop]

@[simp] theorem hide_setHostMode (z : Fin 6) (m : HeatMode) (s : State) (loop : Block.loop ∈ F)
    (zone : Block.zone ∈ F) (posts : Block.posts ∈ F) :
    (setHostMode z m s).hide F = s.hide F := by
  unfold setHostMode
  (repeat' split) <;> simp [loop, zone, posts]

@[simp] theorem hide_zoneModeRequest (payload : List Byte) (s : State) (loop : Block.loop ∈ F)
    (zone : Block.zone ∈ F) (posts : Block.posts ∈ F) :
    (zoneModeRequest payload s).1.hide F = s.hide F := by
  unfold zoneModeRequest
  (repeat' split) <;> simp [loop, zone, posts]

@[simp] theorem hide_writeEnds (acknowledged : Bool) (s : State) (loop : Block.loop ∈ F)
    (zone : Block.zone ∈ F) :
    (writeEnds acknowledged s).hide F = s.hide F := by
  unfold writeEnds
  (repeat' split) <;> simp [loop, zone]

@[simp] theorem hide_goodReport (n : Fin 15) (z : Fin 6) (r : Report) (s : State)
    (loop : Block.loop ∈ F) (zone : Block.zone ∈ F) (link : Block.link ∈ F)
    (posts : Block.posts ∈ F) :
    (goodReport n z r s).hide F = s.hide F := by
  unfold goodReport
  simp [loop, zone, link, posts]

@[simp] theorem hide_pollResult (n : Fin 15) (ans : Option Report) (s : State)
    (loop : Block.loop ∈ F) (zone : Block.zone ∈ F) (link : Block.link ∈ F)
    (posts : Block.posts ∈ F) :
    (pollResult n ans s).hide F = s.hide F := by
  unfold pollResult
  (repeat' split) <;> simp [loop, zone, link, posts]

@[simp] theorem hide_blindAt (z : Fin 6) (p : Nat) (s : State) (zone : Block.zone ∈ F)
    (posts : Block.posts ∈ F) :
    (blindAt z p s).hide F = s.hide F := by
  unfold blindAt
  simp [zone, posts]

@[simp] theorem hide_statWriteRequest (payload : List Byte) (s : State) (loop : Block.loop ∈ F) :
    (statWriteRequest payload s).1.hide F = s.hide F := by
  unfold statWriteRequest
  (repeat' split) <;> simp [loop]

@[simp] theorem hide_deliverOverrun (s : State) (zone : Block.zone ∈ F)
    (posts : Block.posts ∈ F) :
    (deliverOverrun s).hide F = s.hide F := by
  unfold deliverOverrun
  (repeat' split) <;> simp [zone, posts]

@[simp] theorem hide_pollEnds (ans : Option Report) (s : State) (loop : Block.loop ∈ F)
    (zone : Block.zone ∈ F) (link : Block.link ∈ F) (posts : Block.posts ∈ F) :
    (pollEnds ans s).hide F = s.hide F := by
  unfold pollEnds
  (repeat' split) <;> simp [loop, zone, link, posts]

@[simp] theorem hide_retryExpires (z : Fin 6) (s : State) (loop : Block.loop ∈ F)
    (zone : Block.zone ∈ F) (link : Block.link ∈ F) (posts : Block.posts ∈ F) :
    (retryExpires z s).hide F = s.hide F := by
  unfold retryExpires
  (repeat' split) <;> simp [loop, zone, link, posts]

@[simp] theorem hide_deliverStage (who : StageTaker) (s : State) (loop : Block.loop ∈ F)
    (zone : Block.zone ∈ F) (burn : Block.burn ∈ F) (posts : Block.posts ∈ F) :
    (deliverStage who s).hide F = s.hide F := by
  unfold deliverStage
  (repeat' split) <;> simp [loop, zone, burn, posts]

@[simp] theorem hide_stopExpires (s : State) (burn : Block.burn ∈ F) (link : Block.link ∈ F)
    (posts : Block.posts ∈ F) :
    (stopExpires s).hide F = s.hide F := by
  unfold stopExpires
  simp [burn, link, posts]

@[simp] theorem hide_pressEdge (s : State) (svc : Block.svc ∈ F) :
    (pressEdge s).hide F = s.hide F := by
  unfold pressEdge
  (repeat' split) <;> simp [svc]

@[simp] theorem hide_holdExpires (s : State) (burn : Block.burn ∈ F) (store : Block.store ∈ F)
    (link : Block.link ∈ F) (sett : Block.sett ∈ F) (svc : Block.svc ∈ F)
    (posts : Block.posts ∈ F) :
    (holdExpires s).hide F = s.hide F := by
  unfold holdExpires
  (repeat' split) <;> simp [burn, store, link, sett, svc, posts, hide_ifBurning]

@[simp] theorem hide_takeBurnerReset (o : Origin) (s : State) (burn : Block.burn ∈ F)
    (store : Block.store ∈ F) (link : Block.link ∈ F) (sett : Block.sett ∈ F)
    (posts : Block.posts ∈ F) :
    (takeBurnerReset o s).1.hide F = s.hide F := by
  unfold takeBurnerReset
  dsimp only
  (repeat' split) <;> simp [burn, store, link, sett, posts]

@[simp] theorem hide_burnerResetAnswer (s : State) (burn : Block.burn ∈ F)
    (store : Block.store ∈ F) (link : Block.link ∈ F) (sett : Block.sett ∈ F)
    (posts : Block.posts ∈ F) :
    (burnerResetAnswer s).1.hide F = s.hide F := by
  unfold burnerResetAnswer
  dsimp only
  (repeat' split) <;> simp [burn, store, link, sett, posts]

@[simp] theorem hide_releaseEdge (s : State) (burn : Block.burn ∈ F) (store : Block.store ∈ F)
    (link : Block.link ∈ F) (sett : Block.sett ∈ F) (svc : Block.svc ∈ F)
    (posts : Block.posts ∈ F) :
    (releaseEdge s).hide F = s.hide F := by
  unfold releaseEdge
  (repeat' split) <;> simp [burn, store, link, sett, svc, posts, hide_ifBurning]

@[simp] theorem hide_deliverHeat (s : State) (burn : Block.burn ∈ F) (posts : Block.posts ∈ F) :
    (deliverHeat s).hide F = s.hide F := by
  unfold deliverHeat
  (repeat' split) <;> simp [burn, posts]

@[simp] theorem hide_deliverPump (s : State) (burn : Block.burn ∈ F) (posts : Block.posts ∈ F) :
    (deliverPump s).hide F = s.hide F := by
  unfold deliverPump
  (repeat' split) <;> simp [burn, posts]

@[simp] theorem hide_windowExpires1440 (s : State) (burn : Block.burn ∈ F)
    (store : Block.store ∈ F) (link : Block.link ∈ F) (sett : Block.sett ∈ F)
    (posts : Block.posts ∈ F) :
    (windowExpires1440 s).hide F = s.hide F := by
  unfold windowExpires1440
  (repeat' split) <;> simp [burn, store, link, sett, posts]

@[simp] theorem hide_burnerResetRequest (payload : List Byte) (s : State) (burn : Block.burn ∈ F)
    (store : Block.store ∈ F) (link : Block.link ∈ F) (sett : Block.sett ∈ F)
    (posts : Block.posts ∈ F) :
    (burnerResetRequest payload s).1.hide F = s.hide F := by
  unfold burnerResetRequest
  split
  · exact hide_unlessBusy _ _ _ (hide_burnerResetAnswer _ burn store link sett posts)
  · simp

@[simp] theorem hide_clearLeakAnswer (s : State) (fuel : Block.fuel ∈ F) (store : Block.store ∈ F)
    (link : Block.link ∈ F) (sett : Block.sett ∈ F) :
    (clearLeakAnswer s).1.hide F = s.hide F := by
  unfold clearLeakAnswer
  (repeat' split) <;> simp [fuel, store, link, sett]

@[simp] theorem hide_clearLeakRequest (payload : List Byte) (s : State) (fuel : Block.fuel ∈ F)
    (store : Block.store ∈ F) (link : Block.link ∈ F) (sett : Block.sett ∈ F) :
    (clearLeakRequest payload s).1.hide F = s.hide F := by
  unfold clearLeakRequest
  (repeat' split) <;> simp [fuel, store, link, sett]

@[simp] theorem hide_tableBeginAnswer (n : Nat) (check : Nat) (s : State)
    (gauge : Block.gauge ∈ F) (link : Block.link ∈ F) :
    (tableBeginAnswer n check s).1.hide F = s.hide F := by
  unfold tableBeginAnswer
  (repeat' split) <;> simp [gauge, link]

@[simp] theorem hide_tableBeginRequest (payload : List Byte) (s : State) (gauge : Block.gauge ∈ F)
    (link : Block.link ∈ F) :
    (tableBeginRequest payload s).1.hide F = s.hide F := by
  unfold tableBeginRequest
  (repeat' split) <;> simp [gauge, link]

@[simp] theorem hide_settlingTimesOut (s : State) (fuel : Block.fuel ∈ F)
    (store : Block.store ∈ F) (link : Block.link ∈ F) (sett : Block.sett ∈ F)
    (posts : Block.posts ∈ F) :
    (settlingTimesOut s).hide F = s.hide F := by
  unfold settlingTimesOut
  (repeat' split) <;> simp [fuel, store, link, sett, posts]

@[simp] theorem hide_takeTrendEntry (s : State) (fuel : Block.fuel ∈ F) (link : Block.link ∈ F) :
    (takeTrendEntry s).hide F = s.hide F := by
  unfold takeTrendEntry
  (repeat' split) <;> simp [fuel, link]

@[simp] theorem hide_tableRowsAnswer (first : Nat) (ps : List Point) (s : State)
    (gauge : Block.gauge ∈ F) :
    (tableRowsAnswer first ps s).1.hide F = s.hide F := by
  unfold tableRowsAnswer
  (repeat' split) <;> simp [gauge]

@[simp] theorem hide_takePeriodEnd (s : State) (fuel : Block.fuel ∈ F) (store : Block.store ∈ F)
    (link : Block.link ∈ F) (sett : Block.sett ∈ F) :
    (takePeriodEnd s).hide F = s.hide F := by
  unfold takePeriodEnd
  (repeat' split) <;> simp [fuel, store, link, sett]

@[simp] theorem hide_tableRowsRequest (payload : List Byte) (s : State)
    (gauge : Block.gauge ∈ F) :
    (tableRowsRequest payload s).1.hide F = s.hide F := by
  unfold tableRowsRequest
  (repeat' split) <;> simp [gauge]

@[simp] theorem hide_takeDuePass (s : State) (gauge : Block.gauge ∈ F) (fuel : Block.fuel ∈ F)
    (store : Block.store ∈ F) (link : Block.link ∈ F) (sett : Block.sett ∈ F)
    (posts : Block.posts ∈ F) :
    (takeDuePass s).hide F = s.hide F := by
  unfold takeDuePass
  (repeat' split) <;> simp [gauge, fuel, store, link, sett, posts]

@[simp] theorem hide_finishLoad (l : TableLoad) (s : State) (gauge : Block.gauge ∈ F)
    (fuel : Block.fuel ∈ F) (store : Block.store ∈ F) (link : Block.link ∈ F)
    (sett : Block.sett ∈ F) (posts : Block.posts ∈ F) :
    (finishLoad l s).hide F = s.hide F := by
  unfold finishLoad
  (repeat' split) <;> simp [gauge, fuel, store, link, sett, posts]

@[simp] theorem hide_tableEndRequest (payload : List Byte) (s : State) (gauge : Block.gauge ∈ F)
    (fuel : Block.fuel ∈ F) (store : Block.store ∈ F) (link : Block.link ∈ F)
    (sett : Block.sett ∈ F) (posts : Block.posts ∈ F) :
    (tableEndRequest payload s).1.hide F = s.hide F := by
  unfold tableEndRequest
  (repeat' split) <;> simp [gauge, fuel, store, link, sett, posts]

@[simp] theorem hide_takeHistoryRead (start : Option Nat) (count : Nat) (s : State)
    (burn : Block.burn ∈ F) (store : Block.store ∈ F) (link : Block.link ∈ F)
    (sett : Block.sett ∈ F) (posts : Block.posts ∈ F) :
    (takeHistoryRead start count s).1.hide F = s.hide F := by
  unfold takeHistoryRead
  simp [burn, store, link, sett, posts]

@[simp] theorem hide_historyAnswer (start : Nat) (count : Nat) (s : State) (burn : Block.burn ∈ F)
    (store : Block.store ∈ F) (link : Block.link ∈ F) (sett : Block.sett ∈ F)
    (posts : Block.posts ∈ F) :
    (historyAnswer start count s).1.hide F = s.hide F := by
  unfold historyAnswer
  (repeat' split) <;> simp [burn, store, link, sett, posts]

@[simp] theorem hide_historyRequest (payload : List Byte) (s : State) (burn : Block.burn ∈ F)
    (store : Block.store ∈ F) (link : Block.link ∈ F) (sett : Block.sett ∈ F)
    (posts : Block.posts ∈ F) :
    (historyRequest payload s).1.hide F = s.hide F := by
  unfold historyRequest
  split
  · exact hide_unlessBusy _ _ _
      (hide_unlessHeld _ _ _ (hide_historyAnswer _ _ _ burn store link sett posts))
  · simp

@[simp] theorem hide_setClockRequest (payload : List Byte) (s : State) (store : Block.store ∈ F) :
    (setClockRequest payload s).1.hide F = s.hide F := by
  unfold setClockRequest
  (repeat' split) <;> simp [store]

@[simp] theorem hide_takeKeep (s : State) (burn : Block.burn ∈ F) (store : Block.store ∈ F)
    (link : Block.link ∈ F) (sett : Block.sett ∈ F) (posts : Block.posts ∈ F) :
    (takeKeep s).1.hide F = s.hide F := by
  unfold takeKeep
  simp [burn, store, link, sett, posts]

@[simp] theorem hide_keepRequest (payload : List Byte) (s : State) (burn : Block.burn ∈ F)
    (store : Block.store ∈ F) (link : Block.link ∈ F) (sett : Block.sett ∈ F)
    (posts : Block.posts ∈ F) :
    (keepRequest payload s).1.hide F = s.hide F := by
  unfold keepRequest
  (repeat' split) <;> simp [burn, store, link, sett, posts]

@[simp] theorem hide_zonesMinute (s : State) (zone : Block.zone ∈ F) :
    (zonesMinute s).hide F = s.hide F := by
  unfold zonesMinute
  simp [zone, hide_eachZone]

@[simp] theorem hide_blocksMinute (s : State) (out : Block.out ∈ F) (zone : Block.zone ∈ F)
    (burn : Block.burn ∈ F) (fuel : Block.fuel ∈ F) (store : Block.store ∈ F)
    (link : Block.link ∈ F) (sett : Block.sett ∈ F) (posts : Block.posts ∈ F) :
    (blocksMinute s).hide F = s.hide F := by
  unfold blocksMinute
  (repeat' split) <;> simp [out, zone, burn, fuel, store, link, sett, posts, hide_whenRunning,
      hide_ifBurning]

@[simp] theorem hide_beginNotice (s : State) (link : Block.link ∈ F) :
    (beginNotice s).hide F = s.hide F := by
  unfold beginNotice
  (repeat' split) <;> simp [link]

@[simp] theorem hide_sendNext (s : State) (link : Block.link ∈ F) :
    (sendNext s).hide F = s.hide F := by
  unfold sendNext
  simp [link]

@[simp] theorem hide_releaseBuffer (s : State) (link : Block.link ∈ F) :
    (releaseBuffer s).hide F = s.hide F := by
  unfold releaseBuffer
  simp [link]

@[simp] theorem hide_statusClears (s : State) (store : Block.store ∈ F) (link : Block.link ∈ F) :
    (statusClears s).hide F = s.hide F := by
  unfold statusClears
  simp [store, link]

@[simp] theorem hide_statusRequest (payload : List Byte) (s : State) (store : Block.store ∈ F)
    (link : Block.link ∈ F) :
    (statusRequest payload s).1.hide F = s.hide F := by
  unfold statusRequest
  (repeat' split) <;> simp [store, link]

@[simp] theorem hide_trendFill (start : Nat) (count : Nat) (wrap : Bool) (follow : Bool)
    (s : State) (link : Block.link ∈ F) :
    (trendFill start count wrap follow s).hide F = s.hide F := by
  unfold trendFill
  (repeat' split) <;> simp [link]

@[simp] theorem hide_nextAnswer (f : Follow) (s : State) (link : Block.link ∈ F) :
    (nextAnswer f s).1.hide F = s.hide F := by
  unfold nextAnswer
  simp [link]

@[simp] theorem hide_nextRequest (payload : List Byte) (s : State) (link : Block.link ∈ F) :
    (nextRequest payload s).1.hide F = s.hide F := by
  unfold nextRequest
  (repeat' split) <;> simp [link]

@[simp] theorem hide_dropTask (k : TaskKind) (s : State) (scan : Block.scan ∈ F)
    (burn : Block.burn ∈ F) (gauge : Block.gauge ∈ F) (store : Block.store ∈ F)
    (link : Block.link ∈ F) (sett : Block.sett ∈ F) :
    (dropTask k s).hide F = s.hide F := by
  unfold dropTask
  (repeat' split) <;> simp [scan, burn, gauge, store, link, sett]

@[simp] theorem hide_trendAnswer (start : Nat) (count : Nat) (wrap : Bool) (follow : Bool)
    (s : State) (link : Block.link ∈ F) :
    (trendAnswer start count wrap follow s).1.hide F = s.hide F := by
  unfold trendAnswer
  simp [link]

@[simp] theorem hide_trendRequest (payload : List Byte) (s : State) (link : Block.link ∈ F) :
    (trendRequest payload s).1.hide F = s.hide F := by
  unfold trendRequest
  (repeat' split) <;> simp [link]

@[simp] theorem hide_fetchAnswer (offset : Nat) (size : Nat) (release : Bool) (s : State)  :
    (fetchAnswer offset size release s).1.hide F = s.hide F := by
  unfold fetchAnswer
  (repeat' split) <;> simp

@[simp] theorem hide_fetchRequest (payload : List Byte) (s : State)  :
    (fetchRequest payload s).1.hide F = s.hide F := by
  unfold fetchRequest
  (repeat' split) <;> simp

@[simp] theorem hide_abortAnswer (s : State) (scan : Block.scan ∈ F) (burn : Block.burn ∈ F)
    (gauge : Block.gauge ∈ F) (store : Block.store ∈ F) (link : Block.link ∈ F)
    (sett : Block.sett ∈ F) :
    (abortAnswer s).1.hide F = s.hide F := by
  unfold abortAnswer
  (repeat' split) <;> simp [scan, burn, gauge, store, link, sett]

@[simp] theorem hide_abortRequest (payload : List Byte) (s : State) (scan : Block.scan ∈ F)
    (burn : Block.burn ∈ F) (gauge : Block.gauge ∈ F) (store : Block.store ∈ F)
    (link : Block.link ∈ F) (sett : Block.sett ∈ F) :
    (abortRequest payload s).1.hide F = s.hide F := by
  unfold abortRequest
  (repeat' split) <;> simp [scan, burn, gauge, store, link, sett]

@[simp] theorem hide_identRequest (payload : List Byte) (s : State)  :
    (identRequest payload s).1.hide F = s.hide F := by
  unfold identRequest
  (repeat' split) <;> simp

@[simp] theorem hide_abandonFrame (s : State) (link : Block.link ∈ F) :
    (abandonFrame s).hide F = s.hide F := by
  unfold abandonFrame
  (repeat' split) <;> simp [link]

@[simp] theorem hide_startFrame (s : State) (link : Block.link ∈ F) :
    (startFrame s).hide F = s.hide F := by
  unfold startFrame
  (repeat' split) <;> simp [link]

@[simp] theorem hide_failFrame (bytes : List Byte) (s : State) (link : Block.link ∈ F) :
    (failFrame bytes s).hide F = s.hide F := by
  unfold failFrame
  (repeat' split) <;> simp [link]

@[simp] theorem hide_passMillisecond (s : State) (scan : Block.scan ∈ F) (zone : Block.zone ∈ F)
    (burn : Block.burn ∈ F) (gauge : Block.gauge ∈ F) (store : Block.store ∈ F)
    (supply : Block.supply ∈ F) (link : Block.link ∈ F) (svc : Block.svc ∈ F) :
    (passMillisecond s).hide F = s.hide F := by
  unfold passMillisecond
  (repeat' split) <;> simp [scan, zone, burn, gauge, store, supply, link, svc]

@[simp] theorem hide_quiet (s : State) (scan : Block.scan ∈ F) (zone : Block.zone ∈ F)
    (burn : Block.burn ∈ F) (gauge : Block.gauge ∈ F) (store : Block.store ∈ F)
    (supply : Block.supply ∈ F) (link : Block.link ∈ F) (svc : Block.svc ∈ F) :
    (quiet s).hide F = s.hide F := by
  unfold quiet
  (repeat' split) <;> simp [scan, zone, burn, gauge, store, supply, link, svc]

end Sys2Proof.Machine
end

