-- ==== Sys2Proof/Laws/Channels.lean ====
section
/-! SUPPORT. What OUT's operations do to the channel table, entry by entry. -/

namespace Sys2Proof.Machine

/-- OUT stands where a footprint leaves it out. -/
theorem out_eq_of_hide {s t : State} (F) (h : t.hide F = s.hide F) (hf : Block.out ∉ F) : t.out = s.out := by
  have := (hide_eq_iff.1 h) .out hf; simpa [State.sameAt] using this

/-- Telling of a load state leaves OUT as it is (R32). -/
theorem tellLoad_out (ch n) (s : State) : (tellLoad ch n s).out = s.out := by
  apply out_eq_of_hide [.loop,.zone,.burn,.link,.posts]
  · simp
  · simp
/-- An entry written back changes nothing. -/
theorem vector_set_self {α : Type} {n : Nat} (v : Vector α n) (i : Fin n) : v.set i v[i] = v := by
  simp

/-- Evaluating pump proven changes no channel (R33). -/
theorem evaluatePump_channels (s : State) : (evaluatePump s).out.channels = s.out.channels := by
  unfold evaluatePump; split <;> simp [postPump, State.onOut, State.onPosts]
/-- A notice leaves OUT as it is. -/
theorem postNotice_keeps_out (n) (s : State) : (postNotice n s).out = s.out := rfl
/-- A load state changes one entry alone (R32). -/
theorem setLoad_channels (ch new) (s : State) : (setLoad ch new s).out.channels
    = s.out.channels.set ch { s.out.channels[ch] with load := new } := by
  unfold setLoad
  dsimp only
  split
  · rename_i h; simp only [State.chan] at h; subst h; exact (vector_set_self _ _).symm
  · split <;> simp [evaluatePump_channels, tellLoad_out, postNotice_keeps_out, State.onChan, State.onOut]
/-- Resolving a channel has R23's effects on its entry alone (R22, R23). -/
theorem resolveChannel_channels (ch) (s : State) : (resolveChannel ch s).out.channels
    = s.out.channels.set ch (s.out.channels[ch].entered (s.resolved ch)) := by
  unfold resolveChannel
  dsimp only
  split
  · rename_i h; simp [State.chan] at h; simp [Channel.entered, h]
  · rename_i h; simp only [State.chan] at h
    have : Channel.switch (s.resolved ch) s.out.channels[ch] = s.out.channels[ch].entered (s.resolved ch) := by
      simp only [Channel.entered, Channel.switch, Channel.clearCounts, Ne.symm h, if_false]
      by_cases h0 : s.out.channels[ch].settle = 0
      · simp only [h0]; simp
      · simp only [h0]; simp only [if_false]; rw [max_eq_left (by omega)]
    split <;> simp [evaluatePump_channels, State.onChan, State.onOut] <;> simp only [← Fin.getElem_fin, this]

/-- Taking the demand posted last leaves every owner's last word as it is (R18, R35). -/
theorem takeLastDemand_toldDemand (ch c : Fin 10) (s : State) :
    (takeLastDemand ch s).toldDemand c = s.toldDemand c := by
  unfold takeLastDemand State.toldDemand
  split
  · rename_i v h
    by_cases hc : c = ch
    · subst hc
      simp only [Fin.getElem_fin] at h
      simp [State.onChan, State.onOut, State.onPosts, h]
    · have hv : ch.val ≠ c.val := fun e => hc (Fin.ext e.symm)
      simp [State.onChan, State.onOut, State.onPosts, hv]
  · rfl

/-- No demand of the channel is on its way then, and the others' stand (R35). -/
theorem takeLastDemand_posts (ch c : Fin 10) (s : State) :
    (takeLastDemand ch s).posts.demand[c] = if c = ch then [] else s.posts.demand[c] := by
  unfold takeLastDemand
  split
  · rename_i v h
    by_cases hc : c = ch
    · subst hc; simp [State.onChan, State.onOut, State.onPosts]
    · have hv : ch.val ≠ c.val := fun e => hc (Fin.ext e.symm)
      simp [State.onChan, State.onOut, State.onPosts, hv, hc]
  · rename_i h
    by_cases hc : c = ch
    · subst hc; simpa using h
    · simp [hc]

/-- Every channel is one of the ten. -/
theorem mem_allChannels (c : Fin 10) : c ∈ allChannels := by revert c; decide

/-- Taking the demands of some channels leaves every owner's last word, and nothing of those channels on its
way. -/
theorem foldl_takeLastDemand (c : Fin 10) (l : List (Fin 10)) (s : State) :
    (l.foldl (fun t ch => takeLastDemand ch t) s).toldDemand c = s.toldDemand c
      ∧ (c ∈ l ∨ s.posts.demand[c] = [] →
        (l.foldl (fun t ch => takeLastDemand ch t) s).posts.demand[c] = []) := by
  induction l generalizing s with
  | nil => exact ⟨rfl, fun h => h.resolve_left (by simp)⟩
  | cons ch rest ih =>
    rw [List.foldl_cons]
    refine ⟨(ih _).1.trans (takeLastDemand_toldDemand ch c s), fun h => (ih _).2 ?_⟩
    rw [takeLastDemand_posts]
    by_cases hc : c = ch
    · exact .inr (by rw [if_pos hc])
    · rw [if_neg hc]
      exact h.imp_left fun h => (List.mem_cons.1 h).resolve_left hc

/-- Nothing of a channel on its way: its owner's last word is what OUT holds. -/
theorem toldDemand_of_none (s : State) (c : Fin 10) (h : s.posts.demand[c] = []) :
    s.toldDemand c = s.out.channels[c].demand := by
  simp only [State.toldDemand, h, List.getLast?_nil, Option.getD_none]

/-- OUT holds each owner's last word, and nothing is on its way (R35). -/
theorem eachChannel_takeLastDemand (s : State) (c : Fin 10) :
    (eachChannel takeLastDemand s).out.channels[c].demand = s.toldDemand c
      ∧ (eachChannel takeLastDemand s).posts.demand[c] = [] := by
  unfold eachChannel
  have hm := mem_allChannels c
  generalize allChannels = l at hm ⊢
  obtain ⟨told, none⟩ := foldl_takeLastDemand c l s
  have h := none (.inl hm)
  exact ⟨by rw [← toldDemand_of_none _ c h, told], h⟩

/-- A current scan judges its channel alone, as R27 to R30 say. -/
theorem takeCurrent_channels (ch ma) (s : State) :
    (takeCurrent ch ma s).out.channels = s.out.channels.set ch (s.out.channels[ch].scanned
      s.supply.hold s.scan.measureFault (s.chanSet ch).minMA (s.chanSet ch).maxMA ma) := by
  unfold takeCurrent Channel.scanned
  simp only [State.chan]
  obtain ⟨c, hc⟩ : ∃ c, s.out.channels[ch] = c := ⟨_, rfl⟩
  have hc' : s.out.channels[ch.val] = c := hc
  simp only [hc]
  split
  · subst hc; exact (vector_set_self _ _).symm
  split
  · simp [State.onChan, State.onOut, hc']
  split
  · rename_i h; simp at h; simp only [h]; subst hc; simp
  rename_i h h1 h2; simp at h2
  simp only [h2, Bool.false_eq_true, false_or, if_false]
  unfold judge Channel.judged
  simp only [State.chan, hc]
  split
  · rename_i he
    split
    · unfold judgeLow; simp only [State.chan, hc]
      split
      · rename_i hx
        split
        · have : ¬ c.low < 2 := by omega
          simp [State.onChan, State.onOut, setLoad_channels, hc', hx, this]
          rw [if_pos (by omega)]
        · have : c.low < 2 := by omega
          simp [State.onChan, State.onOut, hc', hx, this]
          rw [if_neg (by omega)]
      · rename_i hx; 
        have : c.load ≠ .ok := fun h => hx h
        simp [State.onChan, State.onOut, hc', this]
    split
    · unfold judgeHigh; simp only [State.chan, hc]
      split
      · rw [resolveChannel_channels, setLoad_channels]
        have : ∀ t : State, (t.out.channels[ch].load = .tripped) → t.resolved ch = false := by
          intro t ht; simp only [State.resolved, State.chan, ht]; simp
        rw [this]
        · rw [if_neg (by omega)]; simp [State.onChan, State.onOut, hc', Channel.clearCounts, Channel.recounted]
        · simp [setLoad_channels]
      · rw [if_pos (by omega)]
        have h0 : c.high = 0 := by omega
        simp [State.onChan, State.onOut, hc', h0]
    · unfold judgeWithin; simp only [State.chan, hc]
      split <;> rename_i hx <;> simp [State.onChan, State.onOut, setLoad_channels, hc', hx]
  · split
    · rename_i h; simp only [offLevelMA] at h; simp only [h, if_true]
      unfold judgeLeaking; simp only [State.chan, hc]
      split <;> rename_i hx
      · rw [if_pos ⟨by omega, hx.2⟩]; simp [State.onChan, State.onOut, setLoad_channels, hc']
      · rw [if_neg (fun h => hx ⟨by omega, h.2⟩)]; simp [State.onChan, State.onOut, hc']
    · rename_i h; simp only [offLevelMA] at h; simp only [h, if_false]
      unfold judgeQuiet; simp only [State.chan, hc]
      split <;> rename_i hx <;> simp [State.onChan, State.onOut, setLoad_channels, hc', hx]

end Sys2Proof.Machine
end

