-- ==== Sys2Proof/Laws/Plant.lean ====
section
/-! SUPPORT. What ZONE's and BURN's shared operations leave: the formed outputs, and rest. -/

namespace Sys2Proof.Machine

/-- Every zone is in the list of the zones. -/
theorem mem_allZones (z : Fin 6) : z ∈ allZones := by revert z; decide

/-- The heat request as R57 words it. -/
theorem heatFormed_iff (s : State) : s.heatFormed = true ↔
    ∃ z : Fin 6, s.zone.zones[z].state = .opened ∧ s.zone.zones[z].call = true := by
  constructor
  · intro h
    obtain ⟨z, -, hz⟩ := List.any_eq_true.mp h
    exact ⟨z, by simpa [State.heats, State.zoneAt] using hz⟩
  · rintro ⟨z, hz⟩
    exact List.any_eq_true.mpr ⟨z, mem_allZones z, by simpa [State.heats, State.zoneAt] using hz⟩

/-- The pump demand as R59 words it. -/
theorem pumpFormed_iff (s : State) : s.pumpFormed = true ↔
    (∃ z : Fin 6, s.zone.zones[z].state = .opening ∨ s.zone.zones[z].state = .opened
      ∨ s.zone.zones[z].state = .hold) ∨ s.zone.overrun = true ∨ s.zone.boilerFrost = true := by
  have hv : ∀ x : ZoneState, x.valveDemand = true ↔ x = .opening ∨ x = .opened ∨ x = .hold := by
    intro x; cases x <;> simp [ZoneState.valveDemand]
  simp only [State.pumpFormed, Bool.or_eq_true, or_assoc]
  refine or_congr ?_ Iff.rfl
  constructor
  · intro h
    obtain ⟨z, -, hz⟩ := List.any_eq_true.mp h
    exact ⟨z, (hv _).mp hz⟩
  · rintro ⟨z, hz⟩
    exact List.any_eq_true.mpr ⟨z, mem_allZones z, (hv _).mpr hz⟩

/-- After the outputs are formed, both are what R57 and R59 form. -/
theorem formOutputs_plantFormed (s : State) : (formOutputs s).plantFormed := by
  have h1 : ∀ t : State, (formHeat t).zone.heatRequest = t.heatFormed := by
    intro t; unfold formHeat; split
    · rename_i h; exact h.symm
    · rfl
  have h2 : ∀ t : State, (formHeat t).zone.zones = t.zone.zones := by
    intro t; unfold formHeat; split <;> rfl
  have p1 : ∀ t : State, (formPump t).zone.pumpDemand = t.pumpFormed := by
    intro t; unfold formPump; split
    · rename_i h; exact h.symm
    · rfl
  have p2 : ∀ t : State, (formPump t).zone.zones = t.zone.zones
      ∧ (formPump t).zone.heatRequest = t.zone.heatRequest
      ∧ (formPump t).zone.overrun = t.zone.overrun
      ∧ (formPump t).zone.boilerFrost = t.zone.boilerFrost := by
    intro t; unfold formPump; split <;> exact ⟨rfl, rfl, rfl, rfl⟩
  obtain ⟨a, b, c, d⟩ := p2 (formHeat s)
  constructor
  · rw [show (formOutputs s).zone.heatRequest = s.heatFormed from b.trans (h1 s), heatFormed_iff]
    unfold formOutputs
    rw [a, h2]
  · rw [show (formOutputs s).zone.pumpDemand = (formHeat s).pumpFormed from p1 _, pumpFormed_iff]
    unfold formOutputs
    rw [a, c, d]

/-- The empty set and the test for it. -/
theorem inhibit_isEmpty_iff (i : InhibitSet) : i.isEmpty = true ↔ i = InhibitSet.empty := by
  obtain ⟨a, b, c, d, e, f⟩ := i
  simp [InhibitSet.isEmpty, InhibitSet.empty]
  tauto

/-- `goIdle` brings the burner to rest (R63, R67, R72). -/
theorem goIdle_atRest (s : State) : s.atRest (goIdle s) := by
  have hb : ∀ (x : BurnState) (t : State), (burnTo x t).burn.inhibit = t.burn.inhibit
      ∧ (burnTo x t).burn.state = x ∧ (burnTo x t).burn.heat = t.burn.heat
      ∧ (burnTo x t).burn.pump = t.burn.pump ∧ (burnTo x t).inputs = t.inputs := by
    intro x t; unfold burnTo; dsimp only; split <;> exact ⟨rfl, rfl, rfl, rfl, rfl⟩
  have ho : ∀ t : State, (stopOverrun t).burn.inhibit = t.burn.inhibit
      ∧ (stopOverrun t).burn.state = t.burn.state ∧ (stopOverrun t).burn.heat = t.burn.heat
      ∧ (stopOverrun t).burn.pump = t.burn.pump ∧ (stopOverrun t).inputs = t.inputs := by
    intro t; unfold stopOverrun; split <;> exact ⟨rfl, rfl, rfl, rfl, rfl⟩
  have hc : ∀ t : State, (enterCalled t).burn.inhibit = t.burn.inhibit
      ∧ (enterCalled t).burn.heat = t.burn.heat ∧ (enterCalled t).burn.pump = t.burn.pump
      ∧ (enterCalled t).burn.state = if t.inputs.valve = some true then .firing else .called := by
    intro t
    unfold enterCalled enterFiring State.valveOpen
    simp only [ho, onBurn_inputs, hb]
    by_cases hv : t.inputs.valve = some true <;> simp [hv, hb, ho]
  unfold goIdle State.atRest
  by_cases he : s.burn.inhibit.isEmpty = true
  · have he' := (inhibit_isEmpty_iff _).mp he
    simp only [he, if_true, lookCall, Burn.callConditions, hb]
    by_cases hh : s.burn.heat = true <;> by_cases hp : s.burn.pump = true <;>
      simp [hh, hp, hb, hc, he']
  · have he' : s.burn.inhibit ≠ InhibitSet.empty := fun h => he ((inhibit_isEmpty_iff _).mpr h)
    simp [he, hb, he']

end Sys2Proof.Machine
end

