-- ==== Sys2Proof/Laws/Records.lean ====
section
/-! SUPPORT. What the array and the append queue do in the states the statements name. -/

namespace Sys2Proof.Machine

/-- Without an answer nothing is settled. -/
theorem settle_without_answers (s : State) (h : s.store.answers = []) : settle s = s := by
  simp [settle, answerTurns, takeAnswers, h]

/-- While a program runs nothing is taken (R143). -/
theorem kick_programming (s : State) (p : Program) (h : s.store.array = .programming p) :
    kick s = s := by
  simp [kick, h]

/-- A free array with nothing waiting stays free (R143). -/
theorem serve_nothing (n : Nat) (s : State) (ha : s.store.alone) (hq : s.store.queue = [])
    (hk : ∀ i m b, s.store.keep ≠ .programming i m b) : serve n s = s := by
  obtain ⟨h1, h2, h3, h4, h5, h6, h7⟩ := ha
  cases n with
  | zero => rfl
  | succ n =>
    have hk' : s.store.serveKeep = none := by
      unfold Store.serveKeep
      split
      · rename_i i m b hh; exact absurd hh (hk i m b)
      · rfl
    simp [serve, serveOnce, h2, Store.serveInner, Store.serveCarry, h3, h5, Store.serveAppend, hq, hk',
      Store.serveSuspended, h6, startErase, h7]

/-- A record asked of a ready STORE is programmed at once (R141, R142). -/
theorem appendRecord_ready (p : Payload) (tag : Option Tag) (s : State) (h : s.store.ready) :
    appendRecord p tag s = { s with store := s.store.appending p tag } := by
  obtain ⟨h1, h2, h3, h4, h5, h6, h7⟩ := h
  have hp : ∀ q, ({ s.store with queue := q } : Store).place = .inHead := by
    intro q; rw [← h7]; rfl
  simp only [h1, h4, h5, h6] at hp
  simp [appendRecord, State.onStore, Store.join, h2, appendQueueMost, kick, h1, serveTurns, serve,
    Store.isFree, serveOnce, h4, Store.serveInner, Store.serveCarry, h5, h6, Store.serveAppend, hp,
    Store.rotationDeferred, Rotation.deferred, Rotation.started, Store.programOf,
    Store.appending, Store.recordOf, Store.wallStamp]

/-- A ready STORE stays ready when the counter and the clock move. -/
theorem ready_of_time (st : Store) (n t w : Nat) (h : st.ready) :
    ({ st with runMinute := n, timebase := t, wall := w } : Store).ready := h

/-- Ageing drops the old stamps from the front (R83). -/
theorem agedWindow_eq (now : Nat) (l : List Nat) :
    agedWindow now l = l.dropWhile fun x => decide (1440 ≤ now - x) := by
  induction l with
  | nil => rfl
  | cons x rest ih =>
    by_cases h : 1440 ≤ now - x
    · simp [agedWindow, List.dropWhile, h, ih]
    · simp [agedWindow, List.dropWhile, h]

end Sys2Proof.Machine
end

