-- ==== Sys2Proof/Laws/Requests.lean ====
section
/-! SUPPORT. What `request` can do: discard, set the overrun, or answer. -/

namespace Sys2Proof.Machine

/-- During start-up a frame is discarded (R152). -/
theorem request_outside_running (p : List Byte) (body : List Byte → State → State × Reply) (s : State)
    (h : s.running = false) : request p body s = s := by
  simp [request, h]

/-- With a reply owed the frame is discarded and LINK_OVERRUN set (R160). -/
theorem request_overrun (p : List Byte) (body : List Byte → State → State × Reply) (s : State) (r : Reply)
    (h : s.running = true) (hp : p.length ≤ maxPayload) (ho : s.link.owed = some r) :
    request p body s = { s.heard with link := { s.heard.link with overrun := true } } := by
  simp [request, takeFrame, h, hp, State.onLink, ho, State.heard, secondsTimer]

/-- A payload too long for its length byte is abandoned silently (R159). -/
theorem request_abandoned (p : List Byte) (body : List Byte → State → State × Reply) (s : State)
    (h : s.running = true) (hp : maxPayload < p.length) :
    request p body s = { s with link := { s.link with receiver := .hunting } } := by
  simp [request, h, Nat.not_le.2 hp, hunt, State.onLink]

/-- A request answered: the block's own change, the reply owed, and with TXD free leaving at once. -/
theorem request_answered (p : List Byte) (body : List Byte → State → State × Reply) (s u : State)
    (r : Reply) (h : s.running = true) (hp : p.length ≤ maxPayload) (ho : s.link.owed = none)
    (hb : body p s.heard = (u, r)) (ht : u.link.tx = s.link.tx) :
    request p body s = { u with link := { u.link with
      owed := some r, tx := if s.link.tx = .free then .reply else s.link.tx } } := by
  have e : (s.onLink fun l => { l with silence := secondsTimer s.par.silence, receiver := .hunting })
      = s.heard := rfl
  have e2 : s.heard.link.owed = none := ho
  simp only [request, takeFrame, h, hp, if_true, e, e2, hb]
  simp only [Option.isSome_none, Bool.false_eq_true, if_false, beginReply, State.onLink]
  rw [ht]
  cases s.link.tx <;> simp

/-- A request answered without an effect of its own. -/
theorem request_replied (p : List Byte) (body : List Byte → State → State × Reply) (s : State) (r : Reply)
    (h : s.running = true) (hp : p.length ≤ maxPayload) (ho : s.link.owed = none)
    (hb : body p s.heard = (s.heard, r)) : request p body s = s.replied r := by
  rw [request_answered p body s s.heard r h hp ho hb rfl]; rfl

/-- A snapshot reads of the link nothing but the last task end. -/
theorem snapshot_link (n : Notice) (s : State) (l : Link) (h : l.lastEnd = s.link.lastEnd) :
    snapshot n { s with link := l } = snapshot n s := by
  cases n <;> simp [snapshot, h, State.chan, State.zoneAt, statLostBytes, State.boundNodes,
    State.nodeAt, State.par, State.windowLeft, State.lampLit, State.now, returnBytes]

end Sys2Proof.Machine
end

