-- ==== Sys2Proof/Laws/Rest.lean ====
section
/-! SUPPORT. A burner that is not called and has no heat request stays so through everything that STORE's answers
make BURN do, and through a beginning or an end of the hold before BURN has derived its state. -/

namespace Sys2Proof.Machine

variable {s t : State}

/-- What changes none of BURN's fields keeps it uncalled. -/
theorem uncalled_of_hide (F : List Block) (e : t.hide F = s.hide F) (hF : Block.burn ∉ F)
    (h : s.burn.uncalled) : t.burn.uncalled := by
  have hb : t.burn = s.burn := by simpa [State.sameAt] using hide_eq_iff.1 e .burn hF
  exact hb ▸ h

/-- An update of other fields of BURN keeps it uncalled. -/
theorem onBurn_uncalled (f : Burn → Burn) (hs : (f s.burn).state = s.burn.state)
    (hh : (f s.burn).heat = s.burn.heat) (hl : (f s.burn).stoppingLeft = s.burn.stoppingLeft)
    (h : s.burn.uncalled) : (s.onBurn f).burn.uncalled := by
  simp only [Burn.uncalled, onBurn_burn, hs, hh, hl]
  exact h

/-- What waits for BURN changes no field of it. -/
theorem onInputs_uncalled (f : Inputs → Inputs) (h : s.burn.uncalled) :
    (s.onInputs f).burn.uncalled := h

/-- A state that is no calling one (R62). -/
theorem burnTo_uncalled (st : BurnState) (hst : st.calling = false) (h : s.burn.uncalled) :
    (burnTo st s).burn.uncalled := by
  unfold burnTo
  split <;> simp [Burn.uncalled, hst, h.2.1, h.2.2, postDemand]

/-- Without a heat request IDLE does not call (R67). -/
theorem goIdle_uncalled (h : s.burn.uncalled) : (goIdle s).burn.uncalled := by
  unfold goIdle
  split
  · have hi : (burnTo .idle s).burn.uncalled := burnTo_uncalled _ rfl h
    simpa [lookCall, Burn.callConditions, hi.2.1] using hi
  · exact burnTo_uncalled _ rfl h

/-- Tellings and notices change no field of BURN. -/
theorem postNotice_uncalled (n : Notice) (h : s.burn.uncalled) : (postNotice n s).burn.uncalled := h
theorem postDemand_uncalled (ch : Fin 10) (v : Bool) (h : s.burn.uncalled) :
    (postDemand ch v s).burn.uncalled := h

/-- A record asked of STORE (R141). -/
theorem appendRecord_uncalled (p : Payload) (tag : Option Tag) (h : s.burn.uncalled) :
    (appendRecord p tag s).burn.uncalled :=
  uncalled_of_hide [.store, .link, .sett] (by simp) (by decide) h

/-- The end of a task (R99). -/
theorem endResetTask_uncalled (o : TaskOutcome) (r : ReasonCode) (h : s.burn.uncalled) :
    (endResetTask o r s).burn.uncalled := by
  unfold endResetTask
  split
  · exact uncalled_of_hide [.link] (hide_endTask _ _ _ _ (by decide)) (by decide)
      (onBurn_uncalled _ rfl rfl rfl h)
  · exact h

/-- The start of the proof limit (R89). -/
theorem startProofLimit_uncalled (h : s.burn.uncalled) : (startProofLimit s).burn.uncalled := by
  unfold startProofLimit
  split
  · exact onBurn_uncalled _ rfl rfl rfl h
  · exact h

/-! ## Entries into the recovery states -/

theorem enterCooldown_uncalled (h : s.burn.uncalled) : (enterCooldown s).burn.uncalled :=
  onBurn_uncalled _ rfl rfl rfl (burnTo_uncalled _ rfl h)

theorem enterHeld_uncalled (r : HeldReason) (h : s.burn.uncalled) : (enterHeld r s).burn.uncalled :=
  postNotice_uncalled _ (onBurn_uncalled _ rfl rfl rfl (burnTo_uncalled _ rfl h))

theorem awaitMains_uncalled (h : s.burn.uncalled) : (awaitMains s).burn.uncalled :=
  onBurn_uncalled _ rfl rfl rfl (burnTo_uncalled _ rfl h)

theorem endPulse_uncalled (h : s.burn.uncalled) : (endPulse s).burn.uncalled := by
  unfold endPulse
  dsimp only
  split
  · exact postDemand_uncalled _ _ (onBurn_uncalled _ rfl rfl rfl h)
  · exact onBurn_uncalled _ rfl rfl rfl h

/-! ## Records asked -/

theorem askStore_uncalled (tag : Tag) (p : Payload) (h : s.burn.uncalled) :
    (askStore tag p s).burn.uncalled := by
  unfold askStore
  refine appendRecord_uncalled _ _ ?_
  split
  · exact onBurn_uncalled _ rfl rfl rfl h
  · exact h

theorem askNow_uncalled (a : Ask) (h : s.burn.uncalled) : (askNow s a).burn.uncalled := by
  cases a with
  | record tag p => exact askStore_uncalled tag p h
  | resetRecord =>
    simp only [askNow, askResetRecord]
    repeat' split
    · exact askStore_uncalled _ _ h
    · exact enterHeld_uncalled _ (endResetTask_uncalled _ _ h)
    · exact askStore_uncalled _ _ h
    · exact h

/-- A fold of steps that each keep the burner uncalled keeps it so. -/
theorem foldl_uncalled {α : Type} (f : State → α → State)
    (hf : ∀ (u : State) (a : α), u.burn.uncalled → (f u a).burn.uncalled) (l : List α)
    (h : s.burn.uncalled) : (l.foldl f s).burn.uncalled := by
  induction l generalizing s with
  | nil => exact h
  | cons a rest ih => exact ih (hf s a h)

theorem askOwed_uncalled (h : s.burn.uncalled) : (askOwed s).burn.uncalled := by
  unfold askOwed
  repeat' split
  · exact h
  · exact askStore_uncalled _ _ (onBurn_uncalled _ rfl rfl rfl h)
  · exact h

theorem askAll_uncalled (l : List Ask) (h : s.burn.uncalled) : (askAll l s).burn.uncalled := by
  unfold askAll
  split
  · exact foldl_uncalled _ (fun _ a => askNow_uncalled a) _ h
  · exact askOwed_uncalled (onBurn_uncalled _ rfl rfl rfl h)

theorem askLockout_uncalled (h : s.burn.uncalled) : (askLockout s).burn.uncalled := by
  unfold askLockout
  repeat' split
  · exact h
  · exact askAll_uncalled _ (onBurn_uncalled _ rfl rfl rfl h)
  · exact h

/-! ## Decisions -/

theorem enterLatched_uncalled (r : LatchReason) (h : s.burn.uncalled) :
    (enterLatched r s).burn.uncalled :=
  endResetTask_uncalled _ _ (postNotice_uncalled _ (askAll_uncalled _ (endPulse_uncalled
    (onBurn_uncalled _ rfl rfl rfl (burnTo_uncalled _ rfl h)))))

theorem beginReset_uncalled (o : Origin) (h : s.burn.uncalled) : (beginReset o s).burn.uncalled := by
  unfold beginReset
  dsimp only
  split
  · exact askLockout_uncalled (onBurn_uncalled _ rfl rfl rfl (burnTo_uncalled _ rfl h))
  · exact askAll_uncalled _ (onBurn_uncalled _ rfl rfl rfl (burnTo_uncalled _ rfl h))

theorem resetSucceeds_uncalled (h : s.burn.uncalled) : (resetSucceeds s).burn.uncalled :=
  goIdle_uncalled (onBurn_uncalled _ rfl rfl rfl h)

theorem takeDark_uncalled (h : s.burn.uncalled) : (takeDark s).burn.uncalled := by
  unfold takeDark
  dsimp only
  split
  · exact enterLatched_uncalled _ (askLockout_uncalled h)
  · refine goIdle_uncalled (startProofLimit_uncalled (onBurn_uncalled _ rfl rfl rfl
      (askAll_uncalled _ (onBurn_uncalled _ rfl rfl rfl ?_))))
    split
    · exact askLockout_uncalled h
    · exact h

theorem takePress_uncalled (h : s.burn.uncalled) : (takePress s).burn.uncalled := by
  unfold takePress
  repeat' split
  · exact beginReset_uncalled _ h
  · exact h
  · exact beginReset_uncalled _ h
  · exact onBurn_uncalled _ rfl rfl rfl h
  · exact h
  · exact h

theorem takeWaiting_uncalled (h : s.burn.uncalled) : (takeWaiting s).burn.uncalled := by
  unfold takeWaiting
  dsimp only
  repeat' split
  · exact takeDark_uncalled (onBurn_uncalled _ rfl rfl rfl h)
  · exact takePress_uncalled (onBurn_uncalled _ rfl rfl rfl h)
  · exact onBurn_uncalled _ rfl rfl rfl h

theorem lockoutStoredDecides_uncalled (h : s.burn.uncalled) :
    (lockoutStoredDecides s).burn.uncalled := by
  unfold lockoutStoredDecides
  repeat' split
  · exact enterLatched_uncalled _ h
  · exact awaitMains_uncalled h
  · exact takeWaiting_uncalled (enterCooldown_uncalled h)

theorem resetRefused_uncalled (h : s.burn.uncalled) : (resetRefused s).burn.uncalled := by
  unfold resetRefused
  dsimp only
  split
  · exact enterHeld_uncalled _ (endResetTask_uncalled _ _ h)
  · exact takeDark_uncalled (onBurn_uncalled _ rfl rfl rfl
      (enterHeld_uncalled _ (endResetTask_uncalled _ _ h)))

/-! ## Answers -/

theorem lockoutStored_uncalled (h : s.burn.uncalled) : (lockoutStored s).burn.uncalled := by
  unfold lockoutStored
  dsimp only
  generalize ht : s.onBurn _ = t
  have h' : t.burn.uncalled := ht ▸ onBurn_uncalled _ rfl rfl rfl h
  repeat' split
  · exact lockoutStoredDecides_uncalled h'
  · exact lockoutStoredDecides_uncalled h'
  · exact enterLatched_uncalled _ h'
  · exact askAll_uncalled _ h'
  · exact h'

theorem lockoutRefused_uncalled (h : s.burn.uncalled) : (lockoutRefused s).burn.uncalled := by
  unfold lockoutRefused
  dsimp only
  generalize ht : s.onBurn _ = t
  have h' : t.burn.uncalled := ht ▸ onBurn_uncalled _ rfl rfl rfl h
  repeat' split
  · exact awaitMains_uncalled h'
  · exact takeWaiting_uncalled (enterHeld_uncalled _ (endResetTask_uncalled _ _
      (onBurn_uncalled _ rfl rfl rfl h')))
  · exact resetRefused_uncalled h'
  · exact h'

theorem resetStored_uncalled (o : Origin) (stamp : Nat) (h : s.burn.uncalled) :
    (resetStored o stamp s).burn.uncalled := by
  unfold resetStored
  dsimp only
  generalize ht : (if o.nonAttended = true then (s.onBurn _) else s) = t
  have h' : t.burn.uncalled := by
    subst ht
    split
    · exact onBurn_uncalled _ rfl rfl rfl h
    · exact h
  repeat' split
  · exact askAll_uncalled _ (onBurn_uncalled _ rfl rfl rfl h')
  · unfold resetStoredActs
    dsimp only
    split
    · exact postDemand_uncalled _ _ (onBurn_uncalled _ rfl rfl rfl (startProofLimit_uncalled h'))
    · exact resetSucceeds_uncalled (startProofLimit_uncalled h')
  · exact h'

theorem resetRecordRefused_uncalled (h : s.burn.uncalled) : (resetRecordRefused s).burn.uncalled := by
  unfold resetRecordRefused
  repeat' split
  · exact onBurn_uncalled _ rfl rfl rfl h
  · exact resetRefused_uncalled h
  · exact h

theorem ackStored_uncalled (h : s.burn.uncalled) : (ackStored s).burn.uncalled := by
  unfold ackStored
  dsimp only
  generalize ht : postNotice .latch (s.onBurn _) = t
  have h' : t.burn.uncalled := ht ▸ postNotice_uncalled _ (onBurn_uncalled _ rfl rfl rfl h)
  repeat' split
  · exact awaitMains_uncalled (onBurn_uncalled _ rfl rfl rfl h')
  · exact enterCooldown_uncalled (onBurn_uncalled _ rfl rfl rfl h')
  · exact goIdle_uncalled (onBurn_uncalled _ rfl rfl rfl h')
  · exact onBurn_uncalled _ rfl rfl rfl h

theorem ofNewest_uncalled (n : Nat) (f : State → State)
    (hf : s.burn.uncalled → (f s).burn.uncalled) (h : s.burn.uncalled) :
    (ofNewest n f s).burn.uncalled := by
  unfold ofNewest
  split
  · exact hf h
  · exact h

theorem refuseAsk_uncalled (a : Ask) (h : s.burn.uncalled) : (refuseAsk s a).burn.uncalled := by
  unfold refuseAsk
  split
  · exact ofNewest_uncalled _ _ lockoutRefused_uncalled h
  · exact onBurn_uncalled _ rfl rfl rfl h
  · exact onBurn_uncalled _ rfl rfl rfl h
  · exact resetRecordRefused_uncalled h
  · exact h
  · exact resetRecordRefused_uncalled h

theorem owedStored_uncalled (h : s.burn.uncalled) : (owedStored s).burn.uncalled := by
  unfold owedStored
  dsimp only
  split
  · exact foldl_uncalled _ (fun _ a => askNow_uncalled a) _
      (onBurn_uncalled _ rfl rfl rfl (onBurn_uncalled _ rfl rfl rfl h))
  · exact askOwed_uncalled (onBurn_uncalled _ rfl rfl rfl h)

theorem owedRefused_uncalled (h : s.burn.uncalled) : (owedRefused s).burn.uncalled :=
  foldl_uncalled _ (fun _ a => refuseAsk_uncalled a) _ (onBurn_uncalled _ rfl rfl rfl h)

theorem burnAnswer_uncalled (a : Answer) (h : s.burn.uncalled) : (burnAnswer a s).burn.uncalled := by
  unfold burnAnswer
  repeat' split
  · exact ofNewest_uncalled _ _ lockoutStored_uncalled h
  · exact ofNewest_uncalled _ _ lockoutRefused_uncalled h
  · exact resetStored_uncalled _ _ h
  · exact h
  · exact resetRecordRefused_uncalled h
  · exact h
  · exact onBurn_uncalled _ rfl rfl rfl h
  · exact owedStored_uncalled h
  · exact owedRefused_uncalled h
  · exact ackStored_uncalled h
  · exact onBurn_uncalled _ rfl rfl rfl h

/-- Whatever STORE answers, an uncalled burner is not called by it. -/
theorem settle_uncalled (h : s.burn.uncalled) : (settle s).burn.uncalled := by
  have turns : ∀ (n : Nat) (u : State), u.burn.uncalled → (takeAnswers n u).burn.uncalled := by
    intro n
    induction n with
    | zero => exact fun _ hu => hu
    | succ n ih =>
      intro u hu
      unfold takeAnswers
      split
      · exact hu
      · exact ih _ (burnAnswer_uncalled _ hu)
  exact turns answerTurns s h

/-! ## The hold before the derivation -/

/-- Before BURN has derived its state SUPPLY's telling waits (R154). -/
theorem tellBurn_before (stands : Bool) (act : State → State) (h : s.burnActive = false) :
    tellBurn stands act s = s.onInputs fun i => { i with held := i.held ++ [.hold stands] } := by
  simp [tellBurn, h]

/-- Once BURN has derived its state the hold it knows is SUPPLY's (log entry 83). -/
theorem burnHold_of_burnActive (h : s.burnActive = true) : s.burnHold = s.supply.hold := by
  unfold State.burnActive at h
  unfold State.burnHold
  cases hp : s.phase <;> simp_all

/-- The phase decides whether BURN is at work. -/
theorem burnActive_of_hide (F : List Block) (e : t.hide F = s.hide F) (hF : Block.phase ∉ F) :
    t.burnActive = s.burnActive := by
  have hp : t.phase = s.phase := by simpa [State.sameAt] using hide_eq_iff.1 e .phase hF
  simp [State.burnActive, hp]

/-- A hold that begins before the derivation leaves the burner uncalled (R79, R156). -/
theorem tellHoldBegins_uncalled (order : HoldOrder) (hb : s.burnActive = false)
    (h : s.burn.uncalled) : (tellHoldBegins order s).burn.uncalled := by
  have e : ((zonesHoldBegins (outHoldBegins s)).onGauge Gauge.holdBegins).hide
      [.out, .loop, .zone, .gauge, .posts] = s.hide [.out, .loop, .zone, .gauge, .posts] := by simp
  unfold tellHoldBegins
  rw [tellBurn_before _ _ ((burnActive_of_hide _ e (by decide)).trans hb)]
  exact settle_uncalled (onInputs_uncalled _ (uncalled_of_hide _ e (by decide) h))

/-- A hold that ends before the derivation leaves the burner uncalled (R79, R157). -/
theorem tellHoldEnds_uncalled (hb : s.burnActive = false) (h : s.burn.uncalled) :
    (tellHoldEnds s).burn.uncalled := by
  have e : (outHoldEnds s).hide [.out, .posts] = s.hide [.out, .posts] := by simp
  unfold tellHoldEnds
  rw [tellBurn_before _ _ ((burnActive_of_hide _ e (by decide)).trans hb)]
  exact settle_uncalled
    (uncalled_of_hide [.inputs, .out, .zone, .gauge, .store, .link, .sett, .posts] (by simp)
      (by decide) h)

end Sys2Proof.Machine
end

