-- ==== Sys2Proof/Laws/Store.lean ====
section
/-! SUPPORT. What the record area holds, as the statements say it: the records found, those the scan hands on,
and what joining the append queue leaves. -/

namespace Sys2Proof.Machine

/-- The good records of slots numbered from `n`: those whose stored number agrees with their position. -/
theorem mem_goodsFrom (r : Record) (n : Nat) (l : List Slot) :
    r ∈ goodsFrom n l ↔ ∃ k, l[k]? = some (.good r) ∧ r.seq = n + k := by
  induction l generalizing n with
  | nil => simp [goodsFrom]
  | cons x rest ih =>
    have step : (∃ k, (x :: rest)[k]? = some (.good r) ∧ r.seq = n + k) ↔
        (x = .good r ∧ r.seq = n) ∨ ∃ k, rest[k]? = some (.good r) ∧ r.seq = n + 1 + k := by
      constructor
      · rintro ⟨_ | k, h, e⟩
        · left; exact ⟨by simpa using h, by simpa using e⟩
        · right; exact ⟨k, by simpa using h, by omega⟩
      · rintro (⟨rfl, e⟩ | ⟨k, h, e⟩)
        · exact ⟨0, by simp, by simpa using e⟩
        · exact ⟨k + 1, by simpa using h, by omega⟩
    rw [step]
    cases x with
    | bad => simp [goodsFrom, ih]
    | good y =>
      by_cases hy : y.seq = n
      · simp only [goodsFrom, hy, if_true, List.mem_cons, ih, Slot.good.injEq]
        constructor
        · rintro (rfl | h)
          · exact .inl ⟨rfl, hy⟩
          · exact .inr h
        · rintro (⟨rfl, -⟩ | h)
          · exact .inl rfl
          · exact .inr h
      · simp only [goodsFrom, hy, if_false, ih, Slot.good.injEq]
        constructor
        · exact .inr
        · rintro (⟨rfl, e⟩ | h)
          · exact absurd e hy
          · exact h

/-- Inserting by sequence number keeps the members. -/
theorem mem_insertSeq (x r : Record) (l : List Record) : x ∈ insertSeq r l ↔ x = r ∨ x ∈ l := by
  induction l with
  | nil => simp [insertSeq]
  | cons y rest ih =>
    by_cases h : r.seq ≤ y.seq
    · simp [insertSeq, h]
    · simp only [insertSeq, h, if_false, List.mem_cons, ih]; tauto

/-- The good records of a VALID sector are those that lie in it (R140). -/
theorem mem_goods (st : Store) (i : Fin 4) (r : Record) : r ∈ st.sectors[i].goods ↔ st.lies i r := by
  unfold Store.lies Sector.goods Sector.firstSeq
  cases h : st.sectors[i].mark <;> simp [mem_goodsFrom]

/-- The records HISTORY_READ can deliver are the good records of the VALID sectors (R144, R146). -/
theorem mem_available (st : Store) (r : Record) : r ∈ st.available ↔ st.found r := by
  have ins : ∀ l : List Record, r ∈ l.foldr insertSeq [] ↔ r ∈ l := by
    intro l; induction l with
    | nil => simp
    | cons x rest ih => simp [mem_insertSeq, ih]
  have ex : st.found r ↔ ∃ i : Fin 4, st.lies i r := Iff.rfl
  rw [Store.available, ins, ex, List.mem_flatMap]
  simp only [mem_goods]
  constructor
  · rintro ⟨i, -, h⟩; exact ⟨i, h⟩
  · rintro ⟨i, h⟩; exact ⟨i, by fin_cases i <;> decide, h⟩

/-- Inserting by sequence number keeps the order. -/
theorem insertSeq_sorted (r : Record) (l : List Record) (h : l.Pairwise (fun x y => x.seq < y.seq))
    (hr : ∀ x ∈ l, x.seq ≠ r.seq) : (insertSeq r l).Pairwise (fun x y => x.seq < y.seq) := by
  induction l with
  | nil => simp [insertSeq]
  | cons y rest ih =>
    have hy := hr y (by simp)
    rw [List.pairwise_cons] at h
    by_cases hle : r.seq ≤ y.seq
    · simp only [insertSeq, hle, if_true, List.pairwise_cons]
      refine ⟨?_, h.1, h.2⟩
      intro x hx
      rcases List.mem_cons.1 hx with rfl | hx
      · omega
      · have := h.1 x hx; omega
    · simp only [insertSeq, hle, if_false, List.pairwise_cons]
      refine ⟨?_, ih h.2 fun x hx => hr x (by simp [hx])⟩
      intro x hx
      rcases (mem_insertSeq x r rest).1 hx with rfl | hx
      · omega
      · exact h.1 x hx

/-- Good records of one sector stand in ascending order of their numbers. -/
theorem goodsFrom_sorted (n : Nat) (l : List Slot) :
    (goodsFrom n l).Pairwise (fun x y => x.seq < y.seq) := by
  induction l generalizing n with
  | nil => simp [goodsFrom]
  | cons x rest ih =>
    cases x with
    | bad => simpa [goodsFrom] using ih (n + 1)
    | good y =>
      by_cases hy : y.seq = n
      · simp only [goodsFrom, hy, if_true, List.pairwise_cons]
        refine ⟨?_, ih _⟩
        intro r hr
        obtain ⟨k, -, e⟩ := (mem_goodsFrom r (n + 1) rest).1 hr
        omega
      · simpa [goodsFrom, hy] using ih (n + 1)

/-- Two VALID sectors hold no good record of one number (R140). -/
theorem lies_once (st : Store) (hn : st.numbered) (i j : Fin 4) (x y : Record) (hx : st.lies i x)
    (hy : st.lies j y) (e : x.seq = y.seq) : i = j := by
  obtain ⟨n, k, hm, hk, ek⟩ := hx
  obtain ⟨m, l, hm', hl, el⟩ := hy
  have hk' := (List.getElem?_eq_some_iff.1 hk).1
  have hl' := (List.getElem?_eq_some_iff.1 hl).1
  exact hn i j n m k l hm hm' hk' hl' (by omega)

/-- The available records stand in strictly ascending order of their numbers (R140, R146). -/
theorem available_sorted (st : Store) (hn : st.numbered) :
    st.available.Pairwise (fun x y => x.seq < y.seq) := by
  have key : ∀ l : List Record, (l.Pairwise fun x y => x.seq ≠ y.seq) →
      (l.foldr insertSeq []).Pairwise (fun x y => x.seq < y.seq)
        ∧ ∀ r, r ∈ l.foldr insertSeq [] ↔ r ∈ l := by
    intro l hl
    induction l with
    | nil => simp
    | cons x rest ih =>
      rw [List.pairwise_cons] at hl
      obtain ⟨h1, h2⟩ := ih hl.2
      refine ⟨insertSeq_sorted _ _ h1 ?_, ?_⟩
      · intro y hy
        exact (hl.1 y ((h2 y).1 hy)).symm
      · intro r; simp [mem_insertSeq, h2]
  refine (key _ ?_).1
  rw [List.pairwise_flatMap]
  refine ⟨fun i _ => ?_, ?_⟩
  · have : (st.sectors[i].goods).Pairwise (fun x y => x.seq < y.seq) := by
      unfold Sector.goods
      split
      · exact goodsFrom_sorted _ _
      · simp
    exact this.imp fun h => by omega
  · have d : allSectors.Pairwise (· ≠ ·) := by decide
    exact d.imp fun {i j} hij x hx y hy e => hij
      (lies_once st hn i j x y ((mem_goods st i x).1 hx) ((mem_goods st j y).1 hy) e)

/-- Inserting by original sequence into a strictly ascending list: the list stays so, and of equal ones the
original stands (R150 step 4). -/
theorem insertOrigin_sorted (r : Record) (l : List Record)
    (h : l.Pairwise (fun x y => x.origin < y.origin)) :
    (insertOrigin r l).Pairwise (fun x y => x.origin < y.origin)
      ∧ ∀ x, x ∈ insertOrigin r l ↔
        (x = r ∧ ∀ y ∈ l, y.origin = r.origin → r.seq < y.seq)
          ∨ (x ∈ l ∧ (x.origin = r.origin → ¬ r.seq < x.seq)) := by
  induction l with
  | nil => simp [insertOrigin]
  | cons y rest ih =>
    rw [List.pairwise_cons] at h
    obtain ⟨hy, hrest⟩ := h
    obtain ⟨ih1, ih2⟩ := ih hrest
    by_cases h1 : r.origin < y.origin
    · have far : ∀ x ∈ y :: rest, r.origin < x.origin := by
        intro x hx
        rcases List.mem_cons.1 hx with rfl | hx
        · exact h1
        · exact lt_trans h1 (hy x hx)
      simp only [insertOrigin, h1, if_true]
      refine ⟨List.pairwise_cons.2 ⟨far, List.pairwise_cons.2 ⟨hy, hrest⟩⟩, fun x => ?_⟩
      rw [List.mem_cons (a := x) (b := r)]
      constructor
      · rintro (rfl | hx)
        · exact .inl ⟨rfl, fun z hz e => absurd (far z hz) (by omega)⟩
        · exact .inr ⟨hx, fun e => absurd (far x hx) (by omega)⟩
      · rintro (⟨rfl, -⟩ | ⟨hx, -⟩)
        · exact .inl rfl
        · exact .inr hx
    · by_cases h2 : r.origin = y.origin
      · have far : ∀ x ∈ rest, r.origin < x.origin := fun x hx => h2 ▸ hy x hx
        by_cases h3 : r.seq < y.seq
        · simp only [insertOrigin, h2, lt_irrefl, if_false, if_true, h3]
          refine ⟨List.pairwise_cons.2 ⟨far, hrest⟩, fun x => ?_⟩
          rw [List.mem_cons]
          constructor
          · rintro (rfl | hx)
            · refine .inl ⟨rfl, fun z hz e => ?_⟩
              rcases List.mem_cons.1 hz with rfl | hz
              · exact h3
              · exact absurd (far z hz) (by omega)
            · exact .inr ⟨List.mem_cons_of_mem _ hx, fun e => absurd (far x hx) (by omega)⟩
          · rintro (⟨rfl, -⟩ | ⟨hx, hs⟩)
            · exact .inl rfl
            · rcases List.mem_cons.1 hx with rfl | hx
              · exact absurd h3 (hs rfl)
              · exact .inr hx
        · simp only [insertOrigin, h2, lt_irrefl, if_false, if_true, h3]
          refine ⟨List.pairwise_cons.2 ⟨hy, hrest⟩, fun x => ?_⟩
          constructor
          · intro hx
            refine .inr ⟨hx, fun e hs => ?_⟩
            rcases List.mem_cons.1 hx with rfl | hx
            · exact h3 hs
            · exact absurd (hy x hx) (by omega)
          · rintro (⟨rfl, hs⟩ | ⟨hx, -⟩)
            · exact absurd (hs y (by simp) rfl) h3
            · exact hx
      · simp only [insertOrigin, h1, h2, if_false]
        refine ⟨List.pairwise_cons.2 ⟨fun x hx => ?_, ih1⟩, fun x => ?_⟩
        · rcases (ih2 x).1 hx with ⟨rfl, -⟩ | ⟨hx, -⟩
          · omega
          · exact hy x hx
        · simp only [List.mem_cons, ih2]
          constructor
          · rintro (rfl | ⟨rfl, hs⟩ | ⟨hx, hs⟩)
            · exact .inr ⟨.inl rfl, fun e => absurd e.symm h2⟩
            · refine .inl ⟨rfl, fun z hz e => ?_⟩
              rcases hz with rfl | hz
              · exact absurd e.symm h2
              · exact hs z hz e
            · exact .inr ⟨.inr hx, hs⟩
          · rintro (⟨rfl, hs⟩ | ⟨rfl | hx, hs⟩)
            · exact .inr (.inl ⟨rfl, fun z hz e => hs z (.inr hz) e⟩)
            · exact .inl rfl
            · exact .inr (.inr ⟨hx, hs⟩)

/-- The history is the records the scan hands on, in ascending order by original sequence (R150 step 4). -/
theorem history_sorted (st : Store) (hn : st.numbered) :
    st.history.Pairwise (fun x y => x.origin < y.origin)
      ∧ ∀ r, r ∈ st.history ↔ st.keeps r := by
  have key : ∀ l : List Record, (l.Pairwise fun x y => x.seq ≠ y.seq) →
      (l.foldr insertOrigin []).Pairwise (fun x y => x.origin < y.origin)
        ∧ ∀ r, r ∈ l.foldr insertOrigin [] ↔
          r ∈ l ∧ ∀ x ∈ l, x.origin = r.origin → r.seq ≤ x.seq := by
    intro l hl
    induction l with
    | nil => simp
    | cons a rest ih =>
      rw [List.pairwise_cons] at hl
      obtain ⟨h1, h2⟩ := ih hl.2
      obtain ⟨h3, h4⟩ := insertOrigin_sorted a _ h1
      refine ⟨h3, fun r => ?_⟩
      rw [List.foldr_cons, h4]
      constructor
      · rintro (⟨rfl, hs⟩ | ⟨hr, hs⟩)
        · refine ⟨by simp, fun x hx e => ?_⟩
          rcases List.mem_cons.1 hx with rfl | hx
          · exact le_refl _
          · by_contra hlt
            have ⟨m, hm, he, hmin⟩ : ∃ m ∈ rest, m.origin = r.origin ∧
                ∀ y ∈ rest, y.origin = r.origin → m.seq ≤ y.seq := by
              obtain ⟨m, hm, hmin⟩ := Finset.exists_min_image
                (rest.filter fun y => decide (y.origin = r.origin)).toFinset Record.seq
                ⟨x, by simp [hx, e]⟩
              simp only [List.mem_toFinset, List.mem_filter, decide_eq_true_eq] at hm hmin
              exact ⟨m, hm.1, hm.2, fun y hy e => hmin y ⟨hy, e⟩⟩
            have hk := (h2 m).2 ⟨hm, fun y hy e' => hmin y hy (e'.trans he)⟩
            have := hs m hk he
            have := hmin x hx e
            omega
        · obtain ⟨hm, hmin⟩ := (h2 r).1 hr
          refine ⟨List.mem_cons_of_mem _ hm, fun x hx e => ?_⟩
          rcases List.mem_cons.1 hx with rfl | hx
          · have := hs e.symm; omega
          · exact hmin x hx e
      · rintro ⟨hr, hmin⟩
        rcases List.mem_cons.1 hr with rfl | hr
        · refine .inl ⟨rfl, fun y hy e => ?_⟩
          have hyr := ((h2 y).1 hy).1
          have := hmin y (List.mem_cons_of_mem _ hyr) e
          have := hl.1 y hyr
          omega
        · refine .inr ⟨(h2 r).2 ⟨hr, fun x hx e => hmin x (List.mem_cons_of_mem _ hx) e⟩, fun e => ?_⟩
          have := hmin a (by simp) e.symm
          omega
  have hs := available_sorted st hn
  obtain ⟨h1, h2⟩ := key st.available (hs.imp fun h => by omega)
  refine ⟨h1, fun r => ?_⟩
  rw [Store.history, h2]
  simp only [mem_available, Store.keeps]

/-- Safety-class entries alone are not displaced. -/
theorem dropNewestOrdinary_safe (l : List QueueEntry) (h : ∀ e ∈ l, e.payload.safety = true) :
    dropNewestOrdinary l = none := by
  induction l with
  | nil => rfl
  | cons e rest ih =>
    simp only [List.mem_cons, forall_eq_or_imp] at h
    simp [dropNewestOrdinary, ih h.2, h.1]

/-- The newest ordinary entry is the one displaced (Table 8-5). -/
theorem dropNewestOrdinary_split (a : List QueueEntry) (e : QueueEntry) (b : List QueueEntry)
    (he : e.payload.safety = false) (hb : ∀ x ∈ b, x.payload.safety = true) :
    dropNewestOrdinary (a ++ e :: b) = some (a ++ b) := by
  induction a with
  | nil => simp [dropNewestOrdinary, dropNewestOrdinary_safe b hb, he]
  | cons x rest ih => simp [dropNewestOrdinary, ih]

/-- The entry displaced, with the front one in flight or not (Table 8-5). -/
theorem displace_split (st : Store) (a : List QueueEntry) (e : QueueEntry) (b : List QueueEntry)
    (hq : st.queue = a ++ e :: b) (he : e.payload.safety = false)
    (hb : ∀ x ∈ b, x.payload.safety = true) :
    st.displace = if st.frontInFlight = true ∧ a = [] then none else some (a ++ b) := by
  unfold Store.displace
  cases a with
  | nil => cases h : st.frontInFlight <;> simp [hq, dropNewestOrdinary_safe b hb,
      dropNewestOrdinary, he]
  | cons x rest => cases h : st.frontInFlight <;> simp [hq,
      dropNewestOrdinary_split rest e b he hb, dropNewestOrdinary]

/-- Safety-class entries alone leave nothing to displace (Table 8-5). -/
theorem displace_safe (st : Store) (h : ∀ e ∈ st.queue, e.payload.safety = true) :
    st.displace = none := by
  unfold Store.displace
  cases hf : st.frontInFlight with
  | false => simpa using dropNewestOrdinary_safe _ h
  | true =>
    cases hq : st.queue with
    | nil => simp
    | cons e rest =>
      simp [dropNewestOrdinary_safe rest fun x hx => h x (by simp [hq, hx])]

/-- The entry at the front is in flight while its append's program runs, and at no other time (R141). -/
theorem frontInFlight_iff (st : Store) :
    st.frontInFlight = true ↔ ∃ r o, st.array = .programming (.append r o) := by
  unfold Store.frontInFlight
  split
  · rename_i h; simp [h]
  · rename_i h
    simp only [Bool.false_eq_true, false_iff, not_exists]
    exact h

/-- A record asked of STORE joins, displaces, is dropped or is refused as Table 8-5 says, and a refusal is
answered (R141). -/
theorem join_by_table (st : Store) (p : Payload) (tag : Option Tag) (u : Store) (refused : Bool)
    (h : st.joinedByTable p tag u refused) :
    st.join p tag = if refused then u.answerTo tag p none else u := by
  obtain ⟨h1, h2, h3⟩ := h
  unfold Store.join appendQueueMost
  by_cases hl : st.queue.length < 4
  · obtain ⟨rfl, rfl⟩ := h1 hl
    simp [hl]
  · have hl' : 4 ≤ st.queue.length := by omega
    rw [if_neg hl]
    cases hs : p.safety with
    | false => obtain ⟨rfl, rfl⟩ := h2 hl' hs; simp [Store.drop, Store.dropping]
    | true =>
      obtain ⟨h4, h5⟩ := h3 hl' hs
      by_cases hall : ∀ e ∈ st.queue, e.payload.safety = true
      · obtain ⟨hu, rfl⟩ := h5 hall
        simp [displace_safe st hall, hu]
      · obtain ⟨a, e, b, hq, he, hb⟩ : ∃ a e b, st.queue = a ++ e :: b ∧ e.payload.safety = false
            ∧ ∀ x ∈ b, x.payload.safety = true := by
          clear h1 h2 h3 h4 h5 hl hl'
          generalize st.queue = l at hall ⊢
          induction l with
          | nil => simp at hall
          | cons x rest ih =>
            by_cases hr : ∀ e ∈ rest, e.payload.safety = true
            · refine ⟨[], x, rest, rfl, ?_, hr⟩
              by_contra hx
              exact hall fun y hy => by
                rcases List.mem_cons.1 hy with rfl | hy
                · simpa using hx
                · exact hr y hy
            · obtain ⟨a, e, b, hq, he, hb⟩ := ih hr
              exact ⟨x :: a, e, b, by simp [hq], he, hb⟩
        obtain ⟨h6, h7⟩ := h4 a e b hq he hb
        rw [displace_split st a e b hq he hb]
        by_cases hf : st.frontInFlight = true ∧ a = []
        · obtain ⟨r, o, hro⟩ := (frontInFlight_iff st).1 hf.1
          obtain ⟨hu, rfl⟩ := h7 r o hf.2 hro
          simp [hf, hu]
        · obtain ⟨rfl, rfl⟩ := h6 (by
            by_cases ha : a = []
            · right; intro r o hro
              exact hf ⟨(frontInFlight_iff st).2 ⟨r, o, hro⟩, ha⟩
            · exact .inl ha)
          simp [hf, Store.drop, Store.dropping]

end Sys2Proof.Machine
end

