-- ==== Sys2Proof/Tests/Slice0.lean ====
section
/-! SUPPORT. Tests: the checks of WellFormed, a state and operands that meet the hypotheses of each
statement, and single steps whose results the manual's tables and worked sequences give. -/

namespace Sys2Proof.Machine.Tests

open Sys2Proof Sys2Proof.Machine

/-! ## Fixtures -/

/-- The state a command leaves. -/
def after (c : Instr) (s : State) : State :=
  match exec c s with
  | .next t => t
  | _ => s

/-- A running part with the mains present, an open head sector, one zone bound to node 1 and a known flow
temperature of 40.0 degrees. -/
def live : State :=
  { State.reset with
    phase := .running
    inputs := { Inputs.first with
      mainsOk := some true, lockout := some false, valve := some false, key := some false
      localReset := some false, ends := Vector.replicate 6 (some false) }
    scan := { Scan.first with passTimer := some 2000, flowTemp := ⟨some (2047, 400), .valid, false⟩ }
    out := { Out.first with mode := .run, cause := .resume }
    loop := { StatLoop.first with
      nodes := StatLoop.first.nodes.set 0 { Node.unbound with zone := some 0, polled := true }
      slot := .poll 0 false, lastPolled := some 0 }
    store := { Store.first with
      minutesSet := true, runMinute := 5000, sectors := Store.first.sectors.set 0 ⟨.valid 0, []⟩
      head := some 0 }
    fuel := { Fuel.first with periodTimer := 360, trendTimer := 60 }
    sett := { SetBlock.first with working := { factorySettings with
      zones := factorySettings.zones.set 0 { factoryZone with enabled := true, node := 1 } } } }

/-- With nothing due and nothing to send. -/
def quietLive : State :=
  { live with
    link := { live.link with notices := [], silence := some 5000 }
    store := { live.store with timebase := 100 } }

/-- A burner firing for an OPEN zone, with the channels driven for it. -/
def working : State :=
  { live with
    burn := { live.burn with state := .firing, heat := true, pump := true }
    zone := { live.zone with
      zones := live.zone.zones.set 0 { Zone.first with
        state := .opened, modeCall := true, call := true, sighted := .sighted }
      heatRequest := true, pumpDemand := true }
    out := { live.out with
      pumpProven := true
      channels := ((live.out.channels.set 0 { Channel.first with demand := true, effective := true }).set 2
        { Channel.first with demand := true, effective := true }).set 4
          { Channel.first with demand := true, effective := true } } }

/-- A record of an ordinary kind. -/
def aRecord : Record := { seq := 0, payload := .mains 4, stamp := 5000, wall := none, orig := none }

/-- Its program in flight. -/
def programming : State :=
  { live with store := { live.store with
    queue := [⟨.mains 4, none⟩], array := .programming (.append aRecord none) } }

/-- LOCKED, with its record in flight. -/
def recording : State :=
  { live with
    burn := { live.burn with state := .locked, lockoutAsked := true
                             newest := some ⟨.flameLoss, some .firing, .normal, false⟩ }
    store := { live.store with
      queue := [⟨.mains 4, some (.lockout 0)⟩], array := .programming (.append aRecord none) } }

/-- The scan over, with the level of MAINS_OK taken. -/
def scanned : State :=
  { State.reset with inputs := { Inputs.first with mainsOk := some true } }

/-- Before BURN's derivation, as the hand-over leaves it (test_hand_over_posts). -/
def underived : State :=
  { live with phase := .burnerWait, posts := { live.posts with stageBurn := [live.fuel.stage] } }

/-- A reply leaves TXD. -/
def replying : State :=
  { live with link := { live.link with tx := .reply, owed := some (replyBusy 0x05) } }

/-- A held buffer of three bytes. -/
def holding : State := { live with link := { live.link with buffer := .held, content := [1, 2, 3] } }

/-- A task in the slot. -/
def withTask (k : TaskKind) (s : State) : State := { s with link := { s.link with slot := some (k, 7) } }

/-- A self-test pass in flight under MEASURE_FAULT, two passes good, a task in it. -/
def refPass : State :=
  withTask .selftest { live with scan := { live.scan with
    inFlight := some true, measureFault := true, consecPass := 2, taskWait := .inPass } }

/-- A plain pass in flight, the fifteenth. -/
def plainPass : State :=
  { live with
    scan := { live.scan with inFlight := some false }
    gauge := { live.gauge with counter := 14 } }

/-- A demand for CH5 on its way. -/
def telling (v : Bool) : State :=
  { live with posts := { live.posts with demand := live.posts.demand.set 5 [v] } }

/-- CH4 tripped. -/
def tripped : State := live.onChan 4 fun c => { c with load := .tripped }

/-- Node 1 with two misses. -/
def missed : State := live.onNode 0 fun n => { n with miss := 2 }

/-- An entry for node 1. -/
def anEntry : WriteEntry := ⟨0, .oilLamp, 3, false, true, false⟩

/-- Its write slot open. -/
def writing (lost : Bool) : State :=
  { live with loop := { live.loop with queue := [anEntry], slot := .write 3 lost } }

/-- A full write queue. -/
def fullQueue : State :=
  { live with loop := { live.loop with queue := List.replicate 8 ⟨3, .oilLamp, 0, false, false, false⟩ } }

/-- Zone 1 blind under a duty. -/
def blind (duty : Nat) : State :=
  { live.onZone 0 fun z => { z with sighted := .blind } with
    sett := { live.sett with working := { live.sett.working with
      zones := live.sett.working.zones.set 0 { live.sett.working.zones[0] with duty := duty } } } }

/-- Zone 1 in a state with its timer. -/
def zoneIn (st : ZoneState) (t : ZoneTimer) : State :=
  live.onZone 0 fun z => { z with state := st, timer := t }

/-- Zone 1's end switch made. -/
def ended (s : State) : State :=
  { s with inputs := { s.inputs with ends := s.inputs.ends.set 0 (some true) } }

/-- A telling on every way. -/
def told : State :=
  { live with posts := { live.posts with
    overrun := [true], heat := [true], pump := [true]
    stageBurn := [.dry], stageZone := [.dry], stageLoop := [.dry] } }

/-- The burner in a state, its timers run out. -/
def burning (st : BurnState) : State :=
  { live with burn := { live.burn with
    state := st, stopTimer := some 0, antiCycle := some 0, noStart := some 0, cooldown := some 0
    inhibit := if st = .inhibited then { InhibitSet.empty with antiCycle := true, noStart := true }
      else InhibitSet.empty } }

/-- The oil valve open, firing time running. -/
def opened (s : State) : State :=
  { s with inputs := { s.inputs with valve := some true }, burn := { s.burn with accRunning := true } }

/-- In SUPPLY_HOLD, with the return timer run out. -/
def held (s : State) : State :=
  { s with
    inputs := { s.inputs with mainsOk := some false }
    supply := { s.supply with hold := true, returnTimer := some 0 } }

/-- CALLED at the end of the ignition window, with an overrun at its end. -/
def timed : State :=
  { burning .called with burn := { (burning .called).burn with
    ignitionTimer := some 0, overrun := true, overrunTimer := some 0 } }

/-- The lamp lit. -/
def lit (s : State) : State := { s with inputs := { s.inputs with lockout := some true } }

/-- RESETTING in a phase at its end. -/
def inPhase (p : ResetPhase) : State :=
  { burning .resetting with burn := { (burning .resetting).burn with
    resetPhase := p, resetOrigin := .host
    pulseTimer := if p = .pulse then some 0 else none
    checkTimer := if p = .check then some 0 else none } }

/-- FIRING at the end of the prove time, for a task at the end of its limit. -/
def proving : State :=
  withTask .burnerReset { opened (burning .firing) with burn := { (burning .firing).burn with
    proofPending := true, pendingOrigin := some .host, proveTimer := some 0
    task := some ⟨.host, .proving⟩, proofLimit := some 0, window := [3560, 3561] } }

/-- LATCHED, the button held for three seconds with the key turned. -/
def pressed : State :=
  { burning .latched with
    burn := { (burning .latched).burn with latchReason := some .relock }
    inputs := { live.inputs with localReset := some true, key := some true }
    svc := ⟨.timing, some 0⟩ }

/-- A due pass of a count, with four depths in the window. -/
def due (c : Nat) : State :=
  { live with gauge := { live.gauge with due := some (c, false), window := [600, 601, 599, 600] } }

/-- A load of two points, complete. -/
def aLoad : TableLoad :=
  { expected := 2, check := 21000, timer := some 60000
    slots := [some ⟨0, 0⟩, some ⟨1000, 20000⟩] ++ List.replicate 38 none }

/-- The load in the slot, with the key turned. -/
def loading : State :=
  withTask .tableLoad { live with
    inputs := { live.inputs with key := some true }, gauge := { live.gauge with load := some aLoad } }

/-- The end of a period in which 30,000 ml are unexplained, the second running. -/
def accounted : State :=
  { live with fuel := { live.fuel with
    periodTimer := 0, status := .good, refGood := true, awaiting := .none, reference := 20000
    value := 19700, leakCount := 1 } }

/-- Settling for sixty minutes. -/
def settlingLong : State :=
  { live with fuel := { live.fuel with settling := some ⟨3, 20000, 60⟩ } }

/-- A trend entry due, in follow mode. -/
def trending : State :=
  { live with
    fuel := { live.fuel with trendTimer := 0 }
    link := { live.link with follow := some ⟨1, 2, false⟩ } }

/-- Zone 1 at 20.0 degrees of its own sensor. -/
def sensed : State :=
  live.onZone 0 fun z => { z with sighted := .sighted, temp := some 200 }

/-- BURN latched by its derivation, node 1 bound and not yet polled; a LATCH record found missing or not. -/
def derived (missing : Bool) : State :=
  { live with
    phase := .derived
    loop := { live.loop with slot := .quiet, lastPolled := none }
    burn := { live.burn with state := .latched, latchReason := some .relock, latchMissing := missing } }

/-- The mains out. -/
def inHold (s : State) : State := { s with supply := { s.supply with hold := true } }

/-- A reading from number 0 on that waits for a program in flight. -/
def readingLater : State :=
  withTask .historyRead { programming with store := { programming.store with
    reading := some ⟨0, 15⟩ } }

/-- KEEP's erase in flight. -/
def keepErasing : State :=
  { live with store := { live.store with array := .erasing .settings 100, keep := .erasing } }

/-- Zone 1 a DIAL zone in COMFORT, its dial at `d`. -/
def dialled (d : Int) (g : FuelStage) : State :=
  { live with
    zone := { live.zone with
      zones := live.zone.zones.set 0 { Zone.first with hostMode := .comfort, dial := some d }, stage := g }
    sett := { live.sett with working := { factorySettings with
      zones := factorySettings.zones.set 0 { factoryZone with kind := .dial } } } }

/-- Two records stored. -/
def recorded : State :=
  { live with store := { live.store with
    nextSeq := 2
    sectors := live.store.sectors.set 0 ⟨.valid 0, [.good aRecord, .good { aRecord with seq := 1 }]⟩ } }

/-- A head of `n` programmed slots, with sector 1 after it marked `m`. -/
def headed (n : Nat) (m : SectorMark) : State :=
  { live with store := { live.store with
    nextSeq := n
    sectors := (live.store.sectors.set 0 ⟨.valid 0, List.replicate n .bad⟩).set 1 ⟨m, []⟩ } }

/-- A rotation's erase at its end: the head is full, and one record found no slot in it. -/
def rotating : State :=
  { headed 64 .retiring with store := { (headed 64 .retiring).store with
    array := .erasing (.sector 1) 0, rotation := .erasing, carryList := [aRecord] } }

/-- A rotation carrying its last copy but one into a head of `n` slots. -/
def carrying (n : Nat) (more : List Record) : State :=
  { headed n (.valid 64) with store := { (headed n (.valid 64)).store with
    array := .programming (.carry aRecord none), rotation := .carrying
    carryWork := aRecord :: more } }

/-- Four safety-class entries behind a program of a carried copy. -/
def packed (s : State) : State :=
  { s with store := { s.store with
    queue := List.replicate 4 ⟨.ack .relock, none⟩
    array := .programming (.carry aRecord none) } }

/-- Records of the kinds the hand-over reads (R102, R120, R135): a volume, a RESET without its outcome, a
LATCH, a LEAK and a failed reset. -/
def history : List Record :=
  [⟨0, .gauge 5000 0 5000 7, 4000, none, none⟩,
   ⟨1, .outcome .resetFailed 1 (some .auto), 4001, none, none⟩,
   ⟨2, .reset .auto false 1, 4002, none, none⟩, ⟨3, .latch .relock 2, 4003, none, none⟩,
   ⟨4, .leak true 900, 4004, none, none⟩]

/-- The scan over, with that history in sector 0. -/
def remembering : State :=
  { scanned with store := { Store.first with
    nextSeq := 5, head := some 0
    sectors := Store.first.sectors.set 0 ⟨.valid 0, history.map .good⟩ } }

/-- A STORE with nothing to do and a rotation needed: 60 slots of the head spent. -/
def crowded (hold : Bool) : State :=
  { headed 60 (.valid 64) with
    supply := { live.supply with hold := hold }
    store := { (headed 60 (.valid 64)).store with array := .programming (.append aRecord none) } }

/-- LATCHED, the ACK at the end of its three seconds. -/
def acking (s : State) : State :=
  { s with
    burn := { s.burn with state := .latched, latchReason := some .relock }
    inputs := { s.inputs with key := some true }
    svc := ⟨.timing, some 0⟩ }

/-- HELD with reason STORE, its newest LOCKOUT record owed or not. -/
def storeHeld (owed : Bool) : State :=
  { burning .held with burn := { (burning .held).burn with
    heldReason := .store, lockoutOwed := owed
    newest := some ⟨.flameLoss, some .firing, .normal, false⟩ } }

/-- The last block of a KEEP. -/
def lastBlock : State :=
  withTask .keep { live with store := { live.store with
    array := .programming (.keepBlock 63), keep := .programming factorySettings 63 true } }

/-- Counts of a pass with every current 0; the low reference reads `low`. -/
def counts (low : Count) : PassCounts :=
  { probe := 2458, tank := 2047, flow := 2047, cs := Vector.replicate 10 0, low := low, mid := 2048
    high := 3686 }

/-- A pass in flight with the channel `ch` driven and two low scans behind it. -/
def lowTwice (ch : Fin 10) : State :=
  plainPass.onChan ch fun c => { c with demand := true, effective := true, low := 2, settle := 0 }

/-- With the key turned. -/
def keyed : State := { live with inputs := { live.inputs with key := some true } }

/-! ## WellFormed -/

set_option maxRecDepth 8000 in
/-- A payload longer than a frame carries (R159). -/
theorem test_wf_long_payload : Instr.wellFormed (.status (List.replicate 121 0)) = false := by decide
set_option maxRecDepth 8000 in
/-- The longest payload a frame carries (R159). -/
theorem test_wf_longest_payload : Instr.wellFormed (.tableRows (List.replicate 120 0)) = true := by
  decide
/-- A kind the host may send is no unknown kind (R163, Table 10-2). -/
theorem test_wf_known_kind : Instr.wellFormed (.unknownKind 0x16 []) = false := by decide
/-- A reply's kind is unknown from the host (R163). -/
theorem test_wf_unknown_kind : Instr.wellFormed (.unknownKind 0x17 []) = true := by decide
/-- A fuel stage that reaches no block (R132). -/
theorem test_wf_stage_to_none : Instr.wellFormed (.fuelStage []) = false := by decide
/-- A fuel stage taken twice by a block (R132). -/
theorem test_wf_stage_twice : Instr.wellFormed (.fuelStage [.burn, .burn]) = false := by decide
/-- The table gives no row any bits. -/
theorem test_no_word_spells_a_command : Sys2Proof.decodeTableWord 8 1 = none := by decide

/-! ## Witnesses: the machine and its start -/

/-- StepRunsTheFrontCommand. -/
theorem witness_front : ({ live with pending := [.startByte, .keep []] } : State).pending
    = .startByte :: [.keep []] := rfl

/-- QuietStepPassesOneMillisecond. -/
theorem witness_quiet : quietLive.pending = [] ∧ dueCommands quietLive = []
    ∧ quietLive.canSend = false ∧ quietLive.phase ≠ .unpowered := by decide

/-- StartUpHearsNoHost: without supply, and during start-up. -/
theorem witness_no_host :
    ({ State.reset with phase := .unpowered } : State).phase = .unpowered
      ∧ (.keep [] : Instr) ≠ .powerOn ∧ (.keep [] : Instr) ≠ .lossOfSupply
      ∧ State.reset.phase ≠ .running ∧ Instr.isRequest (.status []) = true := by decide

/-- The invariants hold of a working part with a burner that calls, a zone that is OPEN and its channels
driven, and a step leads on from it. -/
theorem witness_invariants : working.outputsByTable ∧ working.callsUninhibited ∧ working.demandsTold
    ∧ working.plantFormed ∧ working.callsFormed ∧ working.oneHold := by
  unfold State.outputsByTable State.callsUninhibited State.demandsTold State.plantFormed
    State.callsFormed State.oneHold
  decide

/-- EveryStepKeepsBounds. -/
theorem witness_bounded : working.bounded ∧ ∃ t, step working = .next t := by
  refine ⟨?_, _, rfl⟩
  unfold State.bounded
  refine ⟨by decide, by decide, by decide, by decide, by decide, by decide, by decide, by decide, ?_⟩
  intro r h
  simp [working, live, Store.first] at h

/-- StartsAbandonAllWork: nothing programmed, and a program in flight. -/
theorem witness_starts : (∀ p, live.store.array ≠ .programming p) ∧ live.phase ≠ .unpowered
    ∧ programming.store.array = .programming (.append aRecord none) ∧ programming.store.head = some 0 := by
  refine ⟨?_, by decide, by decide, by decide⟩
  intro p h; simp [live, Store.first] at h

/-- ScanAndFirstLevels: with and without a level before. -/
theorem witness_scan : ({ live with phase := .released } : State).phase = .released
    ∧ State.reset.phase ≠ .unpowered ∧ State.reset.phase ≠ .released
    ∧ State.reset.inputs.level .localReset = none ∧ live.inputs.level .localReset ≠ none := by decide

/-- HandOverRestoresTheBlocks: with the level of MAINS_OK and without. -/
theorem witness_hand_over : State.reset.phase = .scanning ∧ State.reset.store.reErase = []
    ∧ State.reset.inputs.mainsOk = none ∧ State.reset.supply.hold = false
    ∧ scanned.phase = .scanning ∧ scanned.store.reErase = []
    ∧ scanned.inputs.mainsOk = some true ∧ scanned.supply.hold = false := by decide

/-- DerivationFindsTheBurner: a dark lamp, and a lit one. -/
theorem witness_derivation :
    (underived.phase = .burnerWait ∧ underived.inputs.lockout = some false
      ∧ underived.inputs.valve = some false ∧ underived.store.answers = []
      ∧ underived.posts.stageBurn = [.normal] ∧ underived.burn.heat = false
      ∧ underived.inputs.held = [])
    ∧ (∀ s : State, s = { underived with inputs := { underived.inputs with lockout := some true } } →
      s.phase = .burnerWait ∧ s.inputs.lockout = some true ∧ s.inputs.valve = some false
      ∧ s.supply.hold = false ∧ s.burn.latchReason = none ∧ s.burn.proofPending = false
      ∧ s.burn.owed = [] ∧ s.burn.asks = [] ∧ s.posts.stageBurn = [.normal] ∧ s.store.answers = []
      ∧ s.store.queue = [] ∧ s.store.array = .free ∧ s.store.reading = none
      ∧ s.store.carryWork = [] ∧ s.store.rotation = .none ∧ s.store.place = .inHead) := by
  refine ⟨by decide, ?_⟩
  intro s h; subst h; decide

/-- EndOfStartUpBeginsTheWork: without and with a LATCH record missing. -/
theorem witness_end_of_start : ∀ missing : Bool, (derived missing).phase = .derived
    ∧ (derived missing).ringRests ∧ (derived missing).store.answers = [] ∧ (derived missing).recordsClear
    ∧ (derived missing).burn.latchMissing = missing
    ∧ (derived missing).burn.latchReason = some .relock := by
  intro missing
  unfold State.ringRests State.recordsClear Store.ready
  cases missing <;> decide

/-! ## Witnesses: requests, scan and channels -/

/-- RequestsAreCheckedFirst: a reply owed, a wrong length, a busy slot, a held buffer. -/
theorem witness_requests : live.running = true ∧ replying.link.owed = some (replyBusy 0x05)
    ∧ live.link.owed = none ∧ Instr.fixedForm (.keep [0]) = some (0x05, 0)
    ∧ Instr.payload? (.keep [0]) = some [0] ∧ [(0 : Byte)].length ≠ 0
    ∧ Instr.startsTask (.keep []) = true
    ∧ (withTask .selftest live).link.slot = some (.selftest, 7)
    ∧ live.link.slot = none ∧ holding.link.buffer ≠ .empty ∧ holding.link.slot = none := by decide

/-- SelftestsRideOnPasses. -/
theorem witness_selftest : live.scan.inFlight = none ∧ live.running = true ∧ live.link.owed = none
    ∧ live.link.slot = none ∧ live.link.buffer = .empty := by decide

/-- The four statements about PASS_COMPLETION: with the REF slot under a fault two passes long, a waiting
task, and without the REF slot. -/
theorem witness_pass : refPass.running = true ∧ refPass.scan.inFlight = some true
    ∧ refPass.scan.measureFault = true ∧ 2 ≤ refPass.scan.consecPass
    ∧ refPass.scan.taskWait = .inPass ∧ refPass.link.slot = some (.selftest, 7)
    ∧ refPass.store.answers = [] ∧ refPass.link.buffer = .empty
    ∧ plainPass.running = true ∧ plainPass.scan.inFlight = some false
    ∧ plainPass.supply.hold = false ∧ 14 ≤ plainPass.gauge.counter := by decide

/-- DemandsAndExpiriesResolveTheirChannel: a change, a telling that changes nothing, an expiry. -/
theorem witness_demand : live.running = true
    ∧ (telling true).posts.demand[(5 : Fin 10)] = true :: []
    ∧ true ≠ (telling true).out.channels[(5 : Fin 10)].demand
    ∧ (telling false).posts.demand[(5 : Fin 10)]
      = (telling false).out.channels[(5 : Fin 10)].demand :: []
    ∧ (live.onChan 5 fun c => { c with override := some (true, 0) }).out.channels[(5 : Fin 10)].override
      = some (true, 0) := by decide

/-- ModeChangesReachChannelsAndZones, OverrideActsByItsTable, ZoneModeSetsTheHostMode. -/
theorem witness_modes : live.running = true ∧ live.link.owed = none ∧ OutMode.standby ≠ live.out.mode
    ∧ live.out.mode ≠ .failsafe
    ∧ ({ live with link := { live.link with silence := some 0 } } : State).link.silence = some 0
    ∧ (5 : Byte).toNat = (5 : Fin 10).val ∧ 2 ≤ (5 : Fin 10).val ∧ (1 : Byte).toNat ≤ 1
    ∧ (1 : Byte).toNat = (0 : Fin 6).val + 1 ∧ (3 : Byte).toNat = HeatMode.code .off
    ∧ live.out.mode = .run := by decide

/-- ClearTripActsByItsTable: a trip without MEASURE_FAULT on a channel without key, and one of CH0 with the
key not active. -/
theorem witness_clear_trip : tripped.running = true ∧ tripped.link.owed = none
    ∧ (4 : Byte).toNat = (4 : Fin 10).val ∧ 2 ≤ (4 : Fin 10).val
    ∧ tripped.out.channels[(4 : Fin 10)].load = .tripped ∧ tripped.scan.measureFault = false
    ∧ live.out.channels[(4 : Fin 10)].load ≠ .tripped
    ∧ (0 : Fin 10).val ≤ 1 ∧ tripped.inputs.key ≠ some true := by decide

/-! ## Witnesses: loop and zones -/

/-- PollReportReachesItsZone and PollMissesLoseTheNode: a good report, the last miss, a lost slot. -/
theorem witness_poll : live.running = true ∧ live.loop.slot = .poll 0 false
    ∧ live.loop.nodes[(0 : Fin 15)].zone = some 0
    ∧ missed.loop.slot = .poll 0 false ∧ missed.loop.nodes[(0 : Fin 15)].zone = some 0
    ∧ missed.loop.nodes[(0 : Fin 15)].statLost = false ∧ 2 ≤ missed.loop.nodes[(0 : Fin 15)].miss
    ∧ ({ live with loop := { live.loop with slot := .poll 3 true } } : State).loop.slot
      = .poll 3 true := by decide

/-- WriteSlotEndsByItsTable: an open slot, a lost one. -/
theorem witness_write_slot : (writing false).running = true
    ∧ (writing false).loop.queue = anEntry :: [] ∧ (writing false).loop.slot = .write 3 false
    ∧ (writing true).loop.queue = anEntry :: [] ∧ (writing true).loop.slot = .write 3 true := by decide

/-- StatWriteActsByItsTable: a bound node with room, and with the queue full. -/
theorem witness_stat_write : live.running = true ∧ live.link.owed = none
    ∧ (1 : Byte).toNat = (0 : Fin 15).val + 1 ∧ (0 : Byte).toNat = Item.code .shownSetpoint
    ∧ live.loop.nodes[(0 : Fin 15)].zone ≠ none
    ∧ (∀ e ∈ live.loop.queue, ¬ (e.node = 0 ∧ e.item = .shownSetpoint)) ∧ live.loop.queue.length < 8
    ∧ (∀ e ∈ fullQueue.loop.queue, ¬ (e.node = 0 ∧ e.item = .shownSetpoint))
    ∧ 8 ≤ fullQueue.loop.queue.length
    ∧ live.loop.nodes[(14 : Fin 15)].zone = none := by decide

/-- BlindDutyRunsTheModeCall: a duty below 100, and one of 100. -/
theorem witness_blind : (blind 30).running = true
    ∧ (blind 30).zone.zones[(0 : Fin 6)].sighted = .blind
    ∧ (blind 30).sett.working.zones[(0 : Fin 6)].duty < 100
    ∧ (blind 100).zone.zones[(0 : Fin 6)].sighted = .blind
    ∧ 100 ≤ (blind 100).sett.working.zones[(0 : Fin 6)].duty := by decide

/-- ValveSequenceFollowsItsEvents: OPENING and CLOSING at the end of their travel, the switch both ways,
a FAULT whose minutes are over. -/
theorem witness_valve : (zoneIn .opening (.travel 0)).running = true
    ∧ (zoneIn .opening (.travel 0)).supply.hold = false
    ∧ (zoneIn .opening (.travel 0)).inputs.ends[(0 : Fin 6)] = some false
    ∧ (zoneIn .opening (.travel 0)).zone.zones[(0 : Fin 6)].timer = .travel 0
    ∧ (zoneIn .opening (.travel 0)).zone.zones[(0 : Fin 6)].state = .opening
    ∧ (ended (zoneIn .closing (.travel 0))).inputs.ends[(0 : Fin 6)] = some true
    ∧ (ended (zoneIn .closing (.travel 0))).zone.zones[(0 : Fin 6)].state = .closing
    ∧ (zoneIn .fault (.retry 0)).zone.zones[(0 : Fin 6)].state = .fault
    ∧ (zoneIn .fault (.retry 0)).zone.zones[(0 : Fin 6)].timer = .retry 0 := by decide

/-- TellingsReachTheirTakers and CallConditionsCallAndWithdraw: something on every way. -/
theorem witness_tellings : told.running = true ∧ told.burnActive = true
    ∧ told.posts.overrun = true :: [] ∧ told.posts.heat = true :: [] ∧ told.posts.pump = true :: []
    ∧ told.posts.stageBurn = .dry :: [] ∧ told.posts.stageZone = .dry :: []
    ∧ told.posts.stageLoop = .dry :: [] ∧ told.burn.state = .idle
    ∧ told.burn.inhibit = InhibitSet.empty := by decide

/-! ## Witnesses: the burner -/

/-- OilValveOpening and FiringTimeIsPosted: in the hold and outside, closed and open. -/
theorem witness_oil_valve : (burning .called).burnActive = true
    ∧ (burning .called).inputs.valve = some false ∧ (burning .called).supply.hold = false
    ∧ (opened (burning .firing)).inputs.valve = some true
    ∧ (opened (burning .firing)).supply.hold = false
    ∧ (opened (burning .firing)).burn.accRunning = true
    ∧ (held (burning .inhibited)).inputs.valve = some false
    ∧ (held (burning .inhibited)).supply.hold = true := by decide

/-- BurnerTimersAct: the ignition window with a cool flow and with a hot one, the stop timer, the two timed
reasons and the overrun. -/
theorem witness_burner_timers : timed.burnActive = true ∧ timed.burn.state = .called
    ∧ timed.burn.ignitionTimer = some 0 ∧ timed.store.ready
    ∧ timed.flowKnown = some 400 ∧ (400 : Int) < timed.sett.working.satisfied
    ∧ (burning .stopping).burn.state = .stopping ∧ (burning .stopping).burn.stopTimer = some 0
    ∧ (burning .inhibited).burn.antiCycle = some 0
    ∧ (burning .inhibited).burn.inhibit.antiCycle = true
    ∧ (burning .inhibited).burn.noStart = some 0 ∧ (burning .inhibited).burn.inhibit.noStart = true
    ∧ timed.burn.overrunTimer = some 0 ∧ timed.burn.overrun = true := by
  unfold Store.ready; decide

/-- LampLighting and LampGoingDark: a normal state, COOLDOWN, RECORDING and CHECK. -/
theorem witness_lamp : (burning .firing).inputs.lockout = some false
    ∧ (burning .firing).burn.state.normal = true ∧ (burning .firing).recordsClear
    ∧ (lit (burning .cooldown)).inputs.lockout = some true
    ∧ (lit (burning .cooldown)).burn.state = .cooldown ∧ (lit (burning .cooldown)).recordsClear
    ∧ (lit (burning .cooldown)).store.answers = [] ∧ (lit (burning .cooldown)).supply.hold = false
    ∧ (burning .resetting).burn.resetPhase = .recording
    ∧ (lit (inPhase .check)).burn.resetPhase = .check := by
  unfold State.recordsClear Store.ready; decide

/-- LampLighting: a relock while a BURNER_RESET task waits on proof. -/
theorem witness_relock_task : proving.burnActive = true ∧ proving.inputs.lockout = some false
    ∧ proving.supply.hold = false ∧ proving.burn.state.normal = true ∧ proving.recordsClear
    ∧ proving.burn.proofPending = true ∧ proving.burn.task = some ⟨.host, .proving⟩
    ∧ proving.link.slot = some (.burnerReset, 7) := by
  unfold State.recordsClear Store.ready; decide

/-- It ends REJECTED with reason RELOCK (R84, Table 5-6). -/
theorem test_relock_ends_task : (after .lockoutSenseRise proving).link.lastEnd
      = some ⟨.burnerReset, 7, .rejected, .relock, 0⟩
    ∧ (after .lockoutSenseRise proving).burn.task = none := by decide

/-- CooldownExpiryDecides, and a task that waits. -/
theorem witness_cooldown : (lit (burning .cooldown)).burnActive = true
    ∧ (lit (burning .cooldown)).burn.cooldown = some 0 ∧ (lit (burning .cooldown)).recordsClear
    ∧ (lit (burning .cooldown)).burn.lockoutOwed = false
    ∧ (lit (burning .cooldown)).burn.task = none ∧ (lit (burning .cooldown)).burn.attendedOwed = false
    ∧ (lit (burning .cooldown)).burn.window.length < (burning .cooldown).sett.working.budget := by
  unfold State.recordsClear Store.ready; decide

/-- ResetPulseAndCheck and ProofAndItsLimits. -/
theorem witness_reset : (inPhase .pulse).burnActive = true ∧ (inPhase .pulse).burn.state = .resetting
    ∧ (inPhase .pulse).burn.pulseTimer = some 0 ∧ (inPhase .pulse).store.answers = []
    ∧ (inPhase .check).burn.checkTimer = some 0 ∧ (inPhase .check).burn.pulseTimer = none
    ∧ (inPhase .check).recordsClear
    ∧ proving.burn.state = .firing ∧ proving.burn.proofPending = true
    ∧ proving.burn.proveTimer = some 0 ∧ proving.recordsClear
    ∧ proving.burn.task = some ⟨.host, .proving⟩ ∧ proving.burn.proofLimit = some 0
    ∧ proving.link.slot = some (.burnerReset, 7)
    ∧ proving.burn.window = 3560 :: [3561] ∧ 1440 ≤ proving.store.runMinute - 3560
    ∧ (∀ x ∈ [3561], proving.store.runMinute - x < 1440) := by
  unfold State.recordsClear Store.ready; decide

/-- BurnerResetActsByItsTable and PanelFollowsItsTable. -/
theorem witness_burner_reset : (burning .held).running = true ∧ (burning .held).link.owed = none
    ∧ (burning .held).link.slot = none ∧ (burning .held).supply.hold = false
    ∧ (burning .held).inputs.key ≠ some true ∧ (burning .held).sett.working.authority ≠ .attended
    ∧ (burning .held).burn.window.length < (burning .held).sett.working.budget
    ∧ (burning .latched).burn.state = .latched
    ∧ pressed.inputs.localReset = some true ∧ pressed.svc.press = .timing
    ∧ pressed.svc.holdTimer = some 0 ∧ pressed.burn.state = .latched
    ∧ pressed.burn.latchReason = some .relock ∧ pressed.inputs.key = some true
    ∧ pressed.burn.ackAwaited = false ∧ pressed.recordsClear := by
  unfold State.recordsClear Store.ready; decide

/-! ## Witnesses: gauge, fuel and store -/

/-- DuePassTakesTheSample: the sample that fills the window, at both ends of the counts. -/
theorem witness_due_pass : (due 2458).running = true ∧ (due 2458).gauge.due = some (2458, false)
    ∧ (due 2458).gauge.window.length ≤ 5 ∧ 4 ≤ (due 2458).gauge.window.length
    ∧ (due 2458).sett.working.zeroCount ≤ 2458 + 100 ∧ 2458 ≤ 4090
    ∧ 718 + 100 < (due 718).sett.working.zeroCount ∧ 719 + 100 = (due 719).sett.working.zeroCount
    ∧ 4090 < 4091 := by decide

/-- TableLoadFollowsItsTables: a complete load, in order and with its check value. -/
theorem witness_table_load : loading.running = true ∧ loading.link.owed = none
    ∧ loading.link.slot = some (.tableLoad, 7) ∧ loading.gauge.load = some aLoad
    ∧ aLoad.expected ≤ aLoad.slots.length
    ∧ aLoad.slots.take aLoad.expected = [(⟨0, 0⟩ : Point), ⟨1000, 20000⟩].map some
    ∧ ([(⟨0, 0⟩ : Point), ⟨1000, 20000⟩].map fun p => p.depth + p.volume).sum % 65536 = aLoad.check
    ∧ live.inputs.key ≠ some true ∧ loading.inputs.key = some true ∧ live.link.slot = none := by decide

/-- FuelAccountIsKept: a gauged end over the threshold, and sixty settling minutes. -/
theorem witness_fuel : accounted.running = true ∧ accounted.store.ready
    ∧ accounted.fuel.periodTimer = 0 ∧ accounted.fuel.deferred = false
    ∧ accounted.fuel.settling = none ∧ accounted.fuel.ungauged = false
    ∧ accounted.fuel.awaiting = .none ∧ accounted.fuel.refGood = true
    ∧ accounted.fuel.status = .good ∧ accounted.sett.working.leak ≠ 0
    ∧ (1000 : Int) * accounted.sett.working.leak
      < ((accounted.fuel.reference : Int) - accounted.fuel.value) * 100 - accounted.fuel.meter
    ∧ accounted.fuel.leakCount ≠ 0
    ∧ settlingLong.fuel.settling = some ⟨3, 20000, 60⟩ ∧ accounted.link.owed = none := by
  unfold Store.ready; decide

/-- TrendIsKeptAndRead. -/
theorem witness_trend : trending.running = true ∧ trending.fuel.trendTimer = 0
    ∧ trending.link.owed = none ∧ trending.link.buffer = .empty
    ∧ trending.link.follow = some ⟨1, 2, false⟩ ∧ (47 : Byte).toNat ≤ 47
    ∧ (48 : Byte).toNat ≤ 48 := by
  decide

/-- RunMinuteMovesEveryCount: with the counter set, and HELD with room for a reset. -/
theorem witness_run_minute : (burning .held).store.minutesSet = true
    ∧ (burning .held).phase ≠ .unpowered ∧ (burning .held).burnActive = true
    ∧ (burning .held).recordsClear ∧ (burning .held).burn.heldReason ≠ .store
    ∧ (burning .held).sett.working.authority = .openToAll ∧ (burning .held).supply.hold = false
    ∧ (burning .held).burn.lockoutOwed = false ∧ (burning .held).store.quiet
    ∧ State.reset.store.minutesSet = false := by
  unfold State.recordsClear Store.ready Store.quiet Store.alone; decide

/-- ClockAndHistory: a quiet STORE with two records. -/
theorem witness_history : recorded.takes ∧ recorded.link.slot = none ∧ recorded.link.buffer = .empty
    ∧ recorded.store.quiet ∧ recorded.store.available.length = 2
    ∧ recorded.store.available.Pairwise (fun x y => x.seq < y.seq) := by
  unfold State.takes Store.quiet Store.alone; decide

/-- AppendCompletesAndAnswers: an ordinary entry, and LOCKED with its record in flight. -/
theorem witness_append : programming.storeActive = true
    ∧ programming.store.array = .programming (.append aRecord none)
    ∧ programming.store.head = some 0 ∧ programming.store.queue = ⟨aRecord.payload, none⟩ :: []
    ∧ programming.store.alone ∧ programming.store.keep = .none
    ∧ programming.store.sectors[(0 : Fin 4)].slots.length < 55
    ∧ recording.store.queue = ⟨aRecord.payload, some (.lockout recording.burn.lockouts)⟩ :: []
    ∧ recording.store.alone
    ∧ recording.burn.state = .locked ∧ recording.burnActive = true ∧ recording.burn.owed = []
    ∧ recording.burn.asks = [] := by
  unfold Store.alone; decide

/-- ErasesAndKeepRunTheirCourse: taken, a rotation's erase, and the last block. -/
theorem witness_keep : live.takes ∧ live.link.slot = none ∧ live.store.alone
    ∧ live.store.keep = .none ∧ live.store.array = .free ∧ live.supply.hold = false
    ∧ rotating.store.array = .erasing (.sector 1) 0 ∧ rotating.store.queue = []
    ∧ rotating.store.carryList = [aRecord] ∧ rotating.store.head = some 0
    ∧ rotating.store.sectors[(0 : Fin 4)].slots.length = 64
    ∧ lastBlock.storeActive = true ∧ lastBlock.store.alone ∧ lastBlock.store.queue = []
    ∧ lastBlock.store.array = .programming (.keepBlock 63)
    ∧ lastBlock.store.keep = .programming factorySettings 63 true
    ∧ lastBlock.store.rotationNeeded = false ∧ lastBlock.link.slot = some (.keep, 7)
    ∧ lastBlock.store.place = .inHead := by
  unfold State.takes Store.alone; decide

/-! ## Witnesses: mains, settings and link -/

/-- MainsFallsAndRises and SupplyHoldEnds. -/
theorem witness_mains : live.supplyActive = true ∧ live.inputs.mainsOk = some true
    ∧ live.supply.hold = false ∧ live.store.answers = []
    ∧ (held live).supplyActive = true ∧ (held live).supply.hold = true
    ∧ (held live).inputs.mainsOk = some false
    ∧ (held live).supply.returnTimer = some 0 ∧ (held live).store.ready := by
  unfold Store.ready; decide

/-- GetReportsWhatItNames and SetFollowsItsSteps: a change that is stored, and one of each refusal. -/
theorem witness_settings : live.takes ∧ paramOf 4 0 7 = some (.burner .budget)
    ∧ paramOf 7 0 1 = none ∧ Param.decode (.burner .budget) [3] = some 3
    ∧ Param.keyed (.burner .budget) = true ∧ live.inputs.key ≠ some true
    ∧ keyed.takes ∧ keyed.inputs.key = some true ∧ Param.codeOk 3 (.burner .budget) = true
    ∧ Param.orderOk (Param.store keyed.sett.working 3 (.burner .budget)) (.burner .budget) = true
    ∧ Param.value keyed.sett.working (.burner .budget) ≠ 3
    ∧ Param.codeOk 3 (.burner .authority) = false
    ∧ Param.orderOk (Param.store keyed.sett.working 4095 (.tank .zero)) (.tank .zero) = false := by
  unfold State.takes; decide

/-- FetchAndAbort and LinkLinesGoOn: a held buffer, a task of each kind, a reply and a notice leaving. -/
theorem witness_link : holding.takes ∧ holding.link.buffer = .held
    ∧ (withTask .historyRead live).link.slot = some (.historyRead, 7)
    ∧ replying.running = true ∧ replying.link.tx = .reply
    ∧ replying.link.owed = some (replyBusy 0x05)
    ∧ ({ live with link := { live.link with tx := .notice .mode [] } } : State).link.tx
      = .notice .mode [] ∧ live.link.owed = none := by
  unfold State.takes; decide

/-! ## Witnesses: the clauses at their boundaries -/

/-- StartUpHearsNoHost: an abandoned frame; StartsAbandonAllWork: programs that open a sector and copies. -/
theorem witness_start_clauses :
    (∃ bs, (.abandonedFrame [0] : Instr) = .abandonedFrame bs)
    ∧ (carrying 3 []).store.array = .programming (.carry aRecord none)
    ∧ (carrying 3 []).store.head = some 0
    ∧ ({ live.store with array := .programming (.append aRecord (some 0)) } : Store).array
      = .programming (.append aRecord (some 0)) := ⟨⟨_, rfl⟩, rfl, rfl, rfl⟩

/-- A slot of sector 0 is the only kind the history's part holds. -/
theorem remembering_mark (i : Fin 4) (n : Nat) (h : remembering.store.sectors[i].mark = .valid n) :
    i = 0 ∧ n = 0 := by
  revert h
  fin_cases i <;> simp [remembering, scanned, State.reset, Store.first, Sector.blank, eq_comm]

/-- The history is what is found in it. -/
theorem remembering_found (r : Record) : remembering.store.found r ↔ r ∈ history := by
  constructor
  · rintro ⟨i, n, k, hm, hk, -⟩
    obtain ⟨rfl, rfl⟩ := remembering_mark i n hm
    have h : (history.map Slot.good)[k]? = some (.good r) := hk
    rw [List.getElem?_map] at h
    obtain ⟨x, hx, e⟩ := Option.map_eq_some_iff.1 h
    obtain rfl : x = r := by simpa using e
    exact List.mem_of_getElem? hx
  · intro h
    have all : ∀ x ∈ history, (history.map Slot.good)[x.seq]? = some (.good x) := by decide
    exact ⟨0, 0, r.seq, rfl, all r h, by omega⟩

/-- Each of its records is handed on. -/
theorem remembering_keeps (r : Record) : remembering.store.keeps r ↔ r ∈ history := by
  unfold Store.keeps
  simp only [remembering_found]
  refine ⟨And.left, fun h => ⟨h, ?_⟩⟩
  have all : ∀ y ∈ history, ∀ x ∈ history, x.origin = y.origin → y.seq ≤ x.seq := by decide
  exact all r h

/-- HandOverRestoresTheBlocks: a history with a newest volume, RESET, LATCH and LEAK and one failure. -/
theorem witness_restored : remembering.store.numbered
    ∧ (∃ r, remembering.store.newestOf Record.isGauge r ∧ r.payload = .gauge 5000 0 5000 7)
    ∧ (∃ r, remembering.store.newestOf Record.isReset r ∧ r.payload = .reset .auto false 1
      ∧ ¬ remembering.store.followed Record.isOutcome r)
    ∧ (∃ r, remembering.store.newestOf Record.isLatch r ∧ r.payload = .latch .relock 2
      ∧ ¬ remembering.store.followed Record.isAck r)
    ∧ (∃ r, remembering.store.newestOf Record.isLeak r ∧ r.isSuspect = true
      ∧ ¬ remembering.store.followed Record.isDelivery r)
    ∧ ∃ r, remembering.store.failing r := by
  refine ⟨?_, ?_⟩
  · intro i j n m k l hi hj _ _ _
    exact (remembering_mark i n hi).1.trans (remembering_mark j m hj).1.symm
  · simp only [Store.newestOf, Store.followed, Store.failing, remembering_keeps]
    exact ⟨⟨history[0], by decide⟩, ⟨history[2], by decide⟩, ⟨history[3], by decide⟩,
      ⟨history[4], by decide⟩, ⟨history[1], by decide⟩⟩

/-- The hand-over of that history, by R102, R120, R135 and R137: volume 5000, the counter one above the
highest stamp, one failure, the reset pending, latched, the leak flag set. -/
theorem test_hand_over :
    (after .handOver remembering).fuel.value = 5000
    ∧ (after .handOver remembering).store.runMinute = 4005
    ∧ (after .handOver remembering).burn.relock = 1
    ∧ (after .handOver remembering).burn.window = [4002]
    ∧ (after .handOver remembering).burn.pendingOrigin = some .auto
    ∧ (after .handOver remembering).burn.latchReason = some .relock
    ∧ (after .handOver remembering).fuel.leakFlag = true := by decide

/-- The hand-over posts the stage it restores: an empty tank is DRY. -/
theorem test_hand_over_posts : (after .handOver scanned).phase = .burnerWait
    ∧ (after .handOver scanned).posts.stageBurn = [.dry] := by decide

/-- HandOverRestoresTheBlocks: its other clauses, an edge held either way and a level taken late. -/
theorem witness_hand_over_clauses :
    (∀ s : State, s = { scanned with phase := .supplyWait, inputs := { scanned.inputs with
      held := [.edge .mainsOk false] } } → s.phase = .supplyWait ∧ s.inputs.mainsOk = some true)
    ∧ (∀ s : State, s = { scanned with inputs := { scanned.inputs with
      mainsOk := some false, held := [.edge .mainsOk true] } } → s.inputs.mainsOk = some false)
    ∧ (∀ r, ¬ scanned.store.found r) := by
  refine ⟨by rintro s rfl; decide, by rintro s rfl; decide, ?_⟩
  rintro r ⟨i, n, k, h, -⟩
  revert h
  fin_cases i <;> simp [scanned, State.reset, Store.first, Sector.blank]

/-- DerivationFindsTheBurner: a relock with the reset's proof pending, and each edge held (R84, R153). -/
theorem test_derivation_relock :
    (after .burnerDerivation { lit underived with burn := { underived.burn with
      proofPending := true, pendingOrigin := some .host } }).burn.relock = 1
    ∧ (after .burnerDerivation { underived with inputs := { underived.inputs with
      held := [.edge .valveSense true] } }).burn.runaway = true := by decide

/-- DerivationFindsTheBurner: a hold begun, or ended, between step 3 and the derivation comes after it. -/
theorem witness_derivation_hold : ∀ (now lamp : Bool) (s : State), s = { underived with
      supply := { live.supply with hold := now }
      inputs := { underived.inputs with lockout := some lamp, held := [.hold now] } } →
    s.phase = .burnerWait ∧ s.burnRests ∧ s.posts.stageBurn = [.normal]
    ∧ s.inputs.lockout = some lamp ∧ s.inputs.valve = some false ∧ s.store.answers = []
    ∧ s.burn.latchReason = none ∧ s.burn.proofPending = false ∧ s.recordsClear := by
  unfold State.burnRests Burn.uncalled State.recordsClear Store.ready
  rintro (_ | _) (_ | _) s rfl <;> decide

/-- A lamp lit before a hold that began after step 3 is found with the start-up marking; one seen first at the
end of the hold of step 3 leaves INHIBITED (R79, R80, R154). -/
theorem test_derivation_hold : ∀ now : Bool,
    (after .burnerDerivation { lit underived with
      supply := { live.supply with hold := now }
      inputs := { (lit underived).inputs with held := [.hold now] } }).burn.newest.map Lockout.left
    = some (if now then none else some .inhibited) := by decide

/-- A hold that begins before the derivation waits for BURN (R154). -/
theorem test_hold_waits :
    (after (.mainsOkFall .supplyFirst) underived).inputs.held = [.hold true]
    ∧ (after (.mainsOkFall .supplyFirst) underived).burn.inhibit.supply = false := by decide +kernel

/-- The two invariants of the start hold of a part at work. -/
theorem witness_start_invariants : underived.stagePosted ∧ remembering.numbersOnce := by
  refine ⟨⟨by decide, by decide⟩, ?_, ?_, ?_, ?_⟩
  · exact witness_restored.1
  · intro i n h
    obtain ⟨rfl, rfl⟩ := remembering_mark i n h
    decide
  · intro _
    refine ⟨fun i n h => ?_, fun h n hh hm => ?_⟩
    · obtain ⟨rfl, rfl⟩ := remembering_mark i n h
      decide
    · obtain ⟨rfl, rfl⟩ := remembering_mark h n hm
      decide
  · rintro ⟨p, h⟩
    simp [remembering, scanned, State.reset, Store.first] at h

/-- RequestsAreCheckedFirst: a payload of 121 bytes. -/
theorem witness_long_payload : Instr.payload? (.tableRows (List.replicate 121 0))
    = some (List.replicate 121 0) ∧ 120 < (List.replicate 121 (0 : Byte)).length := by
  refine ⟨rfl, ?_⟩; rw [List.length_replicate]; decide

/-- PassCompletionUpdatesTheScan: the REF windows at their ends (R8). -/
theorem test_ref_windows :
    (∀ x ∈ [(370, 2008, 3646), (450, 2088, 3726)], refsPass x.1 x.2.1 x.2.2 = true)
    ∧ ∀ x ∈ [(369, 2048, 3686), (451, 2048, 3686), (410, 2007, 3686), (410, 2089, 3686),
      (410, 2048, 3645), (410, 2048, 3727)], refsPass x.1 x.2.1 x.2.2 = false := by decide

/-- PassCompletionJudgesTheLoads: a third low scan is OPEN_LOAD, and CH4's is zone 1's FAULT CHANNEL, CH2's
the reason PUMP (R28, R32, R56). -/
theorem test_open_load :
    (after (.passCompletion (counts 410)) (lowTwice 4)).out.channels[(4 : Fin 10)].load = .openLoad
    ∧ (after (.passCompletion (counts 410)) (lowTwice 4)).zone.zones[(0 : Fin 6)].cause = .channel
    ∧ (after (.passCompletion (counts 410)) (lowTwice 2)).burn.inhibit.pump = true := by decide +kernel

/-- PassCompletionReachesTheJobs: a self-test that fails is GAUGE_FAULT with cause MEASURE (R10, R113). -/
theorem test_measure_fault : (after (.passCompletion (counts 369))
      { plainPass with scan := { plainPass.scan with inFlight := some true } }).gauge.cause = .measure := by
  decide

/-- DerivationFindsTheBurner: a dark lamp with each edge held that its clauses name. -/
theorem witness_derivation_edges :
    (∀ s : State, s = { underived with inputs := { underived.inputs with
        held := [.edge .lockoutSense true] } } → s.inputs.lockout = some false ∧ s.recordsClear
        ∧ s.burn.proofPending = false ∧ s.supply.hold = false ∧ s.burn.latchReason = none)
    ∧ (∀ s : State, s = { lit underived with inputs := { (lit underived).inputs with
        held := [.edge .lockoutSense false] } } → s.inputs.lockout = some true ∧ s.recordsClear)
    ∧ (∀ s : State, s = { underived with inputs := { underived.inputs with
        held := [.edge .valveSense true] } } → s.inputs.valve = some false ∧ s.recordsClear) := by
  unfold State.recordsClear Store.ready
  refine ⟨?_, ?_, ?_⟩ <;> · rintro s rfl; decide

/-- DuePassTakesTheSample: settling's tenth steady value confirms, its ninth goes on (R129, R130). -/
theorem test_settling : ∀ s : State, s = { due 2458 with fuel := { live.fuel with
      awaiting := .none, refGood := true, settling := some ⟨9, 12500, 5⟩ } } →
    (after .duePass s).fuel.reference = 12500
    ∧ (after .duePass { s with fuel := { s.fuel with settling := some ⟨8, 12500, 5⟩ } }).fuel.settling
      = some ⟨9, 12500, 5⟩ := by
  rintro s rfl; decide

/-- WriteSlotEndsByItsTable: a merged entry and one that failed once (Table 3-4). -/
theorem witness_write_entries :
    ({ anEntry with merged := true } : WriteEntry).merged = true
    ∧ ({ anEntry with failedOnce := true } : WriteEntry).merged = false
    ∧ ({ anEntry with failedOnce := true } : WriteEntry).failedOnce = true
    ∧ (writing false).takes ∧ anEntry.inSlot = true ∧ anEntry.node = 0
    ∧ (writing false).loop.nodes[(0 : Fin 15)].zone ≠ none := by
  unfold State.takes; decide

/-- A merge into the entry in the slot leaves the value the slot carries (R42). -/
theorem test_merge_in_slot : (after (.statWrite [1, 1, 2, 0]) (writing false)).loop.slot = .write 3 false
    ∧ (after (.statWrite [1, 1, 2, 0]) (writing false)).loop.queue
      = [{ anEntry with value := 2, merged := true }] := by decide

/-- StatWriteActsByItsTable: setpoints at the bounds of their range, and the value that blanks the display
(R43). -/
theorem test_setpoint_bounds :
    (after (.statWrite [1, 0, 30, 0]) live).loop.queue.map WriteEntry.value = [30]
    ∧ (after (.statWrite [1, 0, 29, 0]) live).loop.queue.map WriteEntry.value = [30]
    ∧ (after (.statWrite [1, 0, 0x2C, 0x01]) live).loop.queue.map WriteEntry.value = [300]
    ∧ (after (.statWrite [1, 0, 0x36, 0x01]) live).loop.queue.map WriteEntry.value = [300]
    ∧ (after (.statWrite [1, 0, 0xFF, 0xFF]) live).loop.queue.map WriteEntry.value = [65535] := by decide

/-- BlindDutyRunsTheModeCall: a duty of 0 never calls (R51). -/
theorem test_duty_zero :
    (after (.blindCycleStart 0) (blind 0)).zone.zones[(0 : Fin 6)].modeCall = false
    ∧ (after (.blindCycleStart 0) (blind 1)).zone.zones[(0 : Fin 6)].modeCall = true := by decide

/-- CallConditionsCallAndWithdraw, OilValveOpening, LampLighting: an edge together with the withdrawal that
left STOPPING. -/
theorem witness_stopping_left :
    (∀ s : State, s = { burning .idle with burn := { (burning .idle).burn with stoppingLeft := true } } →
      s.burn.met = .stopping ∧ s.burnActive = true) := by rintro s rfl; decide

/-- LampLighting, CooldownExpiryDecides, ResetPulseAndCheck: STORE has no place for a safety-class record. -/
theorem witness_packed : (packed (burning .firing)).store.packed
    ∧ (packed (lit (burning .cooldown))).store.packed
    ∧ (packed (lit (burning .cooldown))).burn.cooldown = some 0
    ∧ (packed (inPhase .check)).store.packed := by
  unfold Store.packed Store.busy
  refine ⟨⟨⟨rfl, _, rfl⟩, by decide, by decide⟩, ⟨⟨rfl, _, rfl⟩, by decide, by decide⟩, rfl,
    ⟨rfl, _, rfl⟩, by decide, by decide⟩

/-- LampGoingDark, RunMinuteMovesEveryCount, SupplyHoldEnds: HELD with reason STORE, its record owed and
not. -/
theorem witness_store_held : (storeHeld true).burn.lockoutOwed = true
    ∧ (storeHeld true).burn.lockoutAsked = false ∧ (storeHeld true).store.quiet
    ∧ (storeHeld true).burn.newest = some ⟨.flameLoss, some .firing, .normal, false⟩
    ∧ (storeHeld false).burn.lockoutOwed = false ∧ (storeHeld false).recordsClear
    ∧ (lit (storeHeld true)).recordsClear ∧ (lit (storeHeld true)).store.answers = []
    ∧ (held (lit (storeHeld true))).store.ready
    ∧ (held (lit (storeHeld true))).supply.returnTimer = some 0 := by
  unfold State.recordsClear Store.ready Store.quiet Store.alone; decide

/-- RunMinuteMovesEveryCount: records owed, and a rotation needed, in the hold and outside. -/
theorem witness_rotation :
    (∀ s : State, s = { burning .idle with burn := { (burning .idle).burn with
      owed := [.ack .relock, .latch .relock 2] } } →
      s.burn.owed = .ack .relock :: [.latch .relock 2] ∧ s.store.ready ∧ s.store.quiet)
    ∧ (crowded true).storeActive = true
    ∧ (∃ p, (crowded true).store.array = .programming p)
    ∧ (crowded true).store.rotation.started = false ∧ (crowded true).store.head = some 0
    ∧ 56 ≤ (crowded true).store.sectors[(0 : Fin 4)].slots.length
    ∧ (crowded true).store.sectors[(1 : Fin 4)].mark ≠ .erased
    ∧ (after .runMinute (crowded true)).store.rotation = .byHold
    ∧ (after .runMinute (crowded false)).store.rotation = .carrying := by
  refine ⟨?_, by decide, ⟨_, rfl⟩, by decide, by decide, by decide, by decide, by decide, by decide⟩
  rintro s rfl
  unfold Store.ready Store.quiet Store.alone; decide

/-- HandOverRestoresTheBlocks, DerivationFindsTheBurner, ZoneModeSetsTheHostMode: the invariants they rest on,
of the start and of a zone at work. -/
theorem witness_unreached : scanned.storeWaits ∧ scanned.zonesRest ∧ remembering.storeWaits
    ∧ remembering.zonesRest ∧ ({ scanned with phase := .supplyWait } : State).storeWaits
    ∧ ({ scanned with phase := .supplyWait } : State).zonesRest ∧ underived.burnRests
    ∧ underived.sightedByReport ∧ live.sightedByReport ∧ sensed.sightedByReport
    ∧ sensed.zone.zones[(0 : Fin 6)].sighted = .sighted := by
  refine ⟨fun _ => ⟨rfl, rfl, rfl, rfl, rfl, rfl, rfl, .inl rfl⟩, ?_,
    fun _ => ⟨rfl, rfl, rfl, rfl, rfl, rfl, rfl, .inl rfl⟩, ?_,
    fun _ => ⟨rfl, rfl, rfl, rfl, rfl, rfl, rfl, .inl rfl⟩, ?_, ?_, ?_, ?_, ?_, by decide⟩ <;>
  first
    | (unfold State.zonesRest; decide)
    | (unfold State.burnRests Burn.uncalled; decide)
    | (unfold State.sightedByReport; decide)

/-- LinkLinesGoOn: notices pending, the lowest first; ValveSequenceFollowsItsEvents: a switch in the hold;
DemandsAndExpiriesResolveTheirChannel: CH2, whose effective state changes. -/
theorem witness_more :
    ({ live with link := { live.link with notices := [.lockout, .mode, .measure] } } : State).noticesOnce
    ∧ live.noticesOnce ∧ (inHold live).running = true ∧ (inHold live).supply.hold = true
    ∧ (inHold live).inputs.ends[(0 : Fin 6)] = some false
    ∧ (ended (inHold live)).inputs.ends[(0 : Fin 6)] = some true
    ∧ (after (.jobDemandChange 2) { live with posts := { live.posts with
        demand := live.posts.demand.set 2 [true] } }).out.channels[(2 : Fin 10)].effective = true
    ∧ live.out.channels[(2 : Fin 10)].effective = false := by
  unfold State.noticesOnce; decide

/-- ClockAndHistory: a reading that waits for a program, one that an erase gives way to, and what stands
when the program is over. -/
theorem witness_reading : programming.takes ∧ programming.link.slot = none
    ∧ programming.link.buffer = .empty ∧ programming.store.answers = []
    ∧ keepErasing.store.erasesAlone ∧ keepErasing.takes
    ∧ readingLater.storeActive = true
    ∧ readingLater.store.array = .programming (.append aRecord none)
    ∧ readingLater.store.queue = ⟨.mains 4, none⟩ :: []
    ∧ ({ readingLater.store with reading := none } : Store).alone
    ∧ readingLater.store.reading = some ⟨0, 15⟩ ∧ readingLater.store.keep = .none
    ∧ readingLater.store.sectors[(0 : Fin 4)].slots.length < 55
    ∧ readingLater.link.slot = some (.historyRead, 7)
    ∧ (after (.programCompletion true) readingLater).link.content.length = 40 := by
  unfold State.takes Store.alone Store.erasesAlone
  refine ⟨by decide, by decide, by decide, by decide, ⟨⟨_, _, rfl⟩, by decide, by decide, by decide,
    by decide, by decide, by decide, ?_, by decide⟩, by decide, by decide, by decide, by decide, by decide,
    by decide, by decide, by decide, by decide, by decide⟩
  intro w n ok h
  simp [keepErasing] at h

/-- AppendCompletesAndAnswers: dark waiting at the LOCKOUT record's answer, the lamp dark and lit again. -/
theorem witness_dark_waiting :
    (∀ s : State, s = { recording with burn := { recording.burn with darkWaiting := true } } →
      s.inputs.lockout ≠ some true ∧ s.burn.darkWaiting = true
      ∧ (after (.programCompletion true) s).burn.pendingOrigin = some .external)
    ∧ (∀ s : State, s = { lit recording with burn := { recording.burn with darkWaiting := true } } →
      s.inputs.lockout = some true
      ∧ (after (.programCompletion true) s).burn.state = .cooldown) := by
  refine ⟨?_, ?_⟩ <;> · rintro s rfl; decide

/-- AppendCompletesAndAnswers: every sector within its 64 slots, a full head among them. -/
theorem witness_fits : (headed 64 .erased).store.fits ∧ (headed 64 (.valid 64)).store.fits
    ∧ (headed 60 (.valid 64)).store.fits ∧ (acking (headed 3 .erased)).store.fits
    ∧ (packed (acking live)).store.fits := by
  refine ⟨⟨by decide, ?_⟩, ⟨by decide, ?_⟩, ⟨by decide, ?_⟩, ⟨by decide, ?_⟩, by decide, ?_⟩
  all_goals
    intro r h hh hp
    obtain rfl := Option.some.inj hh
    first
      | decide
      | simp [headed, live, Store.first] at hp

/-- AppendCompletesAndAnswers: STORE busy, and resting with a head of 3, 60 and 64 slots, with the next sector
erased and not; an ACK asked. -/
theorem witness_joining :
    (packed (acking live)).store.busy ∧ (acking live).burn.state = .latched
    ∧ (headed 3 .erased).store.resting ∧ (headed 60 (.valid 64)).store.resting
    ∧ (headed 64 .erased).store.resting ∧ (headed 64 (.valid 64)).store.resting
    ∧ (headed 64 .erased).store.sectors[(0 : Fin 4)].slots.length = 64
    ∧ (headed 64 .erased).store.sectors[(1 : Fin 4)].mark = .erased
    ∧ (headed 64 (.valid 64)).store.sectors[(1 : Fin 4)].mark ≠ .erased := by
  unfold Store.resting Store.busy
  exact ⟨⟨rfl, _, rfl⟩, by decide, by decide, by decide, by decide, by decide, by decide, by decide,
    by decide⟩

/-- A full head with the next sector erased opens it; without it an ordinary record is dropped and counted,
and an ACK refused (R141, R142). -/
theorem test_full_head :
    (∀ s : State, s = { headed 64 .erased with fuel := { live.fuel with leakFlag := true } } →
      (after (.clearLeak []) s).store.array
        = .programming (.append (s.store.recordOf (.leak false 0)) (some 1)))
    ∧ (∀ s : State, s = { headed 64 (.valid 64) with fuel := { live.fuel with leakFlag := true } } →
      (after (.clearLeak []) s).store.dropped = 1)
    ∧ (after .holdTimerExpiry (acking (headed 64 (.valid 64)))).burn.ackAwaited = false := by
  refine ⟨?_, ?_, by decide⟩ <;> · rintro s rfl; decide

/-- AppendCompletesAndAnswers: a record that opens a sector, an older lockout's, and a task in the slot. -/
theorem witness_append_clauses :
    (∀ s : State, s = { headed 64 .erased with store := { (headed 64 .erased).store with
      queue := [⟨.mains 4, none⟩], array := .programming (.append aRecord (some 1)) } } →
      s.store.array = .programming (.append aRecord (some 1)) ∧ s.store.alone
        ∧ (after (.programCompletion true) s).store.head = some 1)
    ∧ (∀ s : State, s = { recording with burn := { recording.burn with lockouts := 2 } } →
      (0 : Nat) ≠ s.burn.lockouts)
    ∧ (∀ s : State, s = { withTask .burnerReset recording with burn := { recording.burn with
        state := .resetting, task := some ⟨.host, .serving⟩ } } → s.burn.task ≠ none)
    ∧ (∀ l : Lockout, l = ⟨.flameLoss, some .firing, .normal, true⟩ →
      l.cause ≠ .starvation ∧ l.wasPending = true)
    ∧ (∀ l : Lockout, l = ⟨.starvation, none, .dry, false⟩ → l.cause = .starvation) := by
  refine ⟨?_, ?_, ?_, ?_, ?_⟩ <;> rintro s rfl <;> try unfold Store.alone
  all_goals decide

/-- ErasesAndKeepRunTheirCourse: copies into a head with room and into its last slot, in the hold and
outside. -/
theorem witness_carrying :
    (carrying 3 [aRecord]).store.carryWork = aRecord :: [aRecord]
    ∧ (carrying 3 [aRecord]).store.sectors[(0 : Fin 4)].slots.length < 63
    ∧ (carrying 63 [aRecord]).store.sectors[(0 : Fin 4)].slots.length = 63
    ∧ (carrying 63 [aRecord]).store.sectors[(1 : Fin 4)].mark ≠ .erased
    ∧ (carrying 63 [aRecord]).store.rotation = .carrying
    ∧ (held (carrying 63 [aRecord])).supply.hold = true
    ∧ (carrying 63 [aRecord]).supply.hold = false
    ∧ (after (.programCompletion true) (carrying 63 [aRecord])).store.carryList = [aRecord]
    ∧ (after (.programCompletion true) (held (carrying 63 [aRecord]))).store.rotation = .eraseDue := by
  decide

/-- The first carried copy opens the sector the rotation has freed (R145). -/
theorem test_carry_opens : (after .eraseCompletion rotating).store.array
    = .programming (.carry { aRecord with seq := 64, orig := some 0 } (some 1)) := by decide

/-- SetFollowsItsSteps: the wax threshold takes two bytes, two's complement (11.2, R177). -/
theorem test_set_wax : (after (.setParam [6, 0, 8, 0xFB, 0xFF]) live).sett.working.wax = -5
    ∧ (after (.setParam [6, 0, 8, 5]) live).link.owed = some (replyRefused 0x04 .badLength)
    ∧ (after (.setParam [6, 0, 8, 0xF5, 0xFF]) live).link.owed
      = some (replyClamped 0x04 [0xF6, 0xFF]) := by decide

/-- LinkLinesGoOn: a length of 0, one of 122, and a failing checksum abandon the frame (R159). -/
theorem witness_abandoned : (((0 : Byte) = 0 ∨ 121 < (0 : Byte).toNat) ∧ ([] : List Byte) = [])
    ∧ 121 < (122 : Byte).toNat
    ∧ ((1 : Byte) ≠ 0 ∧ [(0x01 : Byte), 0x00].length = (1 : Byte).toNat + 1
      ∧ ((1 : Byte).toNat + ([(0x01 : Byte), 0x00].map BitVec.toNat).sum) % 256 ≠ 0)
    ∧ ((1 : Byte).toNat + ([(0x01 : Byte), 0xFE].map BitVec.toNat).sum) % 256 = 0 := by decide

/-- A second start byte stands in the length's place and abandons the frame (R159). -/
theorem test_second_start_byte :
    (after .startByte (after .startByte live)).link.receiver = .hunting := by decide

/-! ## Single steps: measurement and channels -/

/-- A count of 2,047 is 40.0 degrees (R3: round(2,047 × 1,600 / 4,095) − 400 = 400). -/
theorem test_temperature_count : convertTemp 2047 = 400 ∧ convertTemp 0 = -400
    ∧ convertTemp 4095 = 1200 ∧ convertTemp 16 = -394 ∧ convertTemp 4079 = 1194 := by decide

/-- The bounds of SENSOR_FAULT (R4). -/
theorem test_sensor_fault_bounds : tempStateOf 15 = .sensorFault ∧ tempStateOf 16 = .valid
    ∧ tempStateOf 4079 = .valid ∧ tempStateOf 4080 = .sensorFault := by decide

/-- SCAN_PASS_START restarts the pass timer (R1). -/
theorem test_scan_pass_start : (after .scanPassStart live).scan.inFlight = some false
    ∧ (after .scanPassStart live).scan.passTimer = some 2000 := by decide

/-- OVERRIDE of 250 minutes is clamped to 240 (Table 2-5). -/
theorem test_override_clamps :
    (after (.override [5, 0, 250]) live).out.channels[(5 : Fin 10)].override = some (true, 240)
    ∧ (after (.override [5, 0, 250]) live).out.channels[(5 : Fin 10)].effective = true := by decide

/-- OVERRIDE of BURNER_CALL is refused (Table 2-5). -/
theorem test_override_burner_refused :
    (after (.override [0, 0, 10]) live).link.owed = some (replyRefused 0x08 .badValue) := by decide

/-- RESUME of a code other than RUN and STANDBY is refused (R20). -/
theorem test_resume_bad : (after (.resume [2]) live).link.owed = some (replyRefused 0x06 .badValue) := by
  decide

/-- CLEAR_TRIP of BURNER_CALL needs the key (Table 2-8). -/
theorem test_clear_trip_key :
    (after (.clearTrip [0]) live).link.owed = some (replyRefused 0x09 .keyRequired) := by decide

/-! ## Single steps: loop and zones -/

/-- The third miss is STAT_LOST, and the zone is blind (R40). -/
theorem test_third_miss : (after (.pollSlotEnd none) missed).loop.nodes[(0 : Fin 15)].statLost = true
    ∧ (after (.pollSlotEnd none) missed).zone.zones[(0 : Fin 6)].sighted = .blind := by decide

/-- A valve that is not proven open in its travel time faults with NO_OPEN and fifteen minutes (R53, R56). -/
theorem test_valve_no_open :
    (after (.travelTimerExpiry 0) (zoneIn .opening (.travel 0))).zone.zones[(0 : Fin 6)].cause = .noOpen
    ∧ (after (.travelTimerExpiry 0) (zoneIn .opening (.travel 0))).zone.zones[(0 : Fin 6)].timer
      = .retry 15 := by decide

/-- ZONE_MODE of zone 7 is refused (R47). -/
theorem test_zone_mode_bad : (after (.zoneMode [7, 0]) live).link.owed
    = some (replyRefused 0x0A .badValue) := by decide

/-! ## Single steps: the burner -/

/-- The oil valve opens in CALLED: FIRING, and one start (R68, R78). -/
theorem test_valve_opens : (after .valveSenseRise (burning .called)).burn.state = .firing
    ∧ (after .valveSenseRise (burning .called)).burn.starts = 1 := by decide

/-- The oil valve closes in FIRING: SATISFIED (R70). -/
theorem test_valve_closes : (after .valveSenseFall (opened (burning .firing))).burn.state = .satisfied := by
  decide

/-- The lamp lights in FIRING: FLAME_LOSS (Table 4-4). -/
theorem test_flame_loss : (after .lockoutSenseRise (burning .firing)).burn.newest
    = some ⟨.flameLoss, some .firing, .normal, false⟩ := by decide

/-- A failed reset after an earlier failure latches (R90). -/
theorem test_second_failure_latches : (after .checkTimerExpiry
      { lit (inPhase .check) with burn := { (inPhase .check).burn with relock := 1 } }).burn.state
    = .latched := by decide

/-- BURNER_RESET without budget room is refused (Table 5-5). -/
theorem test_burner_reset_budget : (after (.burnerReset [])
      { burning .held with burn := { (burning .held).burn with window := [4000, 4100] } }).link.owed
    = some (replyRefused 0x0C .budget) := by decide

/-! ## Single steps: gauge and fuel -/

/-- A count of 2,458 with Z 819, F 4,095, Dfull 1,200 is 600 mm: round(1,639 × 1,200 / 3,276) (R107). -/
theorem test_depth : depthOf 819 4095 1200 2458 = 600 := by decide

/-- The factory table gives 12,500 dl at 600 mm (R110). -/
theorem test_volume : volumeAt factoryTable 600 = 12500 := by decide

/-- V15 at 15 degrees is V, and 12,500 dl at 25 degrees under k 840 lose 105 dl (R111). -/
theorem test_compensation : compensate 12500 840 15 = 12500 ∧ compensate 12500 840 25 = 12395 := by
  decide

/-- The probe of an open cable is FAULTY, and the third such sample is the fault (R107, R108). -/
theorem test_faulty_sample : (after .duePass (due 0)).gauge.faulty = 1
    ∧ (after .duePass (due 0)).gauge.fault = false := by decide

/-- TABLE_BEGIN needs the key (Table 6-7). -/
theorem test_table_begin_key : (after (.tableBegin [5, 0, 0]) live).link.owed
    = some (replyRefused 0x0E .keyRequired) := by decide

/-- Sixty seconds at 2,500 ml an hour are 41 ml with 2,400 left over (R123). -/
theorem test_meter : (after .accumulatorFull (opened (burning .firing))).fuel.meter = 41
    ∧ (after .accumulatorFull (opened (burning .firing))).fuel.remainder = 2400 := by decide

/-- The accumulator running with VALVE_SENSE low, as a fall in the hold leaves it, posts nothing (R77, R80). -/
theorem test_meter_low :
    let s := { opened (burning .inhibited) with inputs := (burning .inhibited).inputs }
    s.burn.accRunning = true ∧ s.inputs.valve = some false
      ∧ (after .accumulatorFull s).burn.totalSeconds = 0
      ∧ (after .accumulatorFull s).fuel.meter = 0 := by decide

/-- A minimum off time that has run out ends what came together with the withdrawal: the next rise is RUNAWAY
(R73). -/
theorem test_after_anti_cycle :
    let s := (burning .inhibited).onBurn fun b => { b with stoppingLeft := true }
    (after .valveSenseRise s).burn.runaway = false
      ∧ (after .valveSenseRise (after .antiCycleExpiry s)).burn.runaway = true := by decide

/-- RunMinuteMovesEveryCount: while the hand-over waits for MAINS_OK, a run minute begins no rotation (R151). -/
theorem test_minute_waits :
    let s := { headed 64 (.valid 64) with phase := .supplyWait }
    (after .runMinute s).store.rotation = .none ∧ s.store.answers = [] ∧ s.store.minutesSet = true
      ∧ (after .runMinute (headed 64 (.valid 64))).store.rotation ≠ .none := by decide

/-- ZONE 1 to 6 come before ZONE 0 among the items of the image (Table 11-1). -/
theorem test_item_order : allParams[1]? = some (.zone 0 .enabled) ∧ allParams[61]? = some .sink := by
  decide

/-- A loss over the threshold in two periods running is LEAK_SUSPECT (R127, R128). -/
theorem test_leak : (after .periodEnd accounted).fuel.leakFlag = true
    ∧ (after .periodEnd accounted).fuel.lastD = some 30000 := by decide

/-! ## Single steps: store, settings and link -/

/-- SET_CLOCK of 0xFFFFFFFF is refused (R138). -/
theorem test_set_clock_unset : (after (.setClock [0xFF, 0xFF, 0xFF, 0xFF]) live).link.owed
    = some (replyRefused 0x07 .badValue) := by decide

/-- A slot that fails its check is spent all the same (R140). -/
theorem test_bad_slot : (after (.programCompletion false) programming).store.nextSeq = 1
    ∧ (after (.programCompletion false) programming).store.sectors[(0 : Fin 4)].slots = [.bad] := by
  decide

/-- KEEP's erase starts at once, and the stored image is void (R148, R175). -/
theorem test_keep : (after (.keep []) live).store.array = .erasing .settings 300
    ∧ (after (.keep []) live).store.settings = .invalid := by decide

/-- A dial below 50 and above 300 is clamped, and RESERVE gives the economy setpoint, whose default is 170
(R48, Table 3-7). -/
theorem test_target_dial : (dialled 49 .low).targetOf 0 = some 50 ∧ (dialled 301 .low).targetOf 0 = some 300
    ∧ (dialled 215 .low).targetOf 0 = some 215 ∧ (dialled 215 .reserve).targetOf 0 = some 170 := by decide

/-- The end of start-up takes the demand posted last (R35). -/
theorem test_posted_demand : ∀ s : State, s = { derived false with posts := { live.posts with
      demand := live.posts.demand.set 1 [false, true] } } →
    (after .endOfStartUp s).out.channels[(1 : Fin 10)].demand = true
    ∧ (after (.jobDemandChange 1) s).posts.demand[(1 : Fin 10)] = [false, true] := by
  rintro s rfl; decide +kernel

set_option maxRecDepth 8000 in
/-- The end of start-up asks the LATCH record that was missing (R102) and polls the lowest bound address
(R45). -/
theorem test_end_of_start :
    (after .endOfStartUp (derived true)).store.queue = [⟨.latch .relock 0, some .closing⟩]
    ∧ (after .endOfStartUp (derived true)).burn.latchMissing = false
    ∧ (after .endOfStartUp (derived true)).loop.slot = .poll 0 false := by decide

set_option maxRecDepth 8000 in
/-- The hold begins: every relay off, the burner INHIBITED (R36, R80). -/
theorem test_hold_begins : (after (.mainsOkFall .supplyFirst) (burning .called)).burn.state = .inhibited
    ∧ (after (.mainsOkFall .supplyFirst) (burning .called)).supply.holdStart = 5000 := by decide

/-- A leak threshold of 3 is stored as 5 (R177 step 4). -/
theorem test_set_leak : (after (.setParam [6, 0, 3, 3]) live).sett.working.leak = 5
    ∧ (after (.setParam [6, 0, 3, 3]) live).link.owed = some (replyClamped 0x04 [5]) := by decide

/-- A SET of Z above F − 100 is refused with ORDER (R177 step 5). -/
theorem test_set_order : (after (.setParam [5, 0, 1, 0xFF, 0x0F]) keyed).link.owed
    = some (replyRefused 0x04 .order) := by decide

/-- GET of the restart item reads 0 (R176). -/
theorem test_get_restart : (after (.getParam [1, 0, 2]) live).link.owed
    = some (replyOk 0x03 [1, 0, 2, 0]) := by decide

/-- FETCH of nothing held (Table 10-5a). -/
theorem test_fetch_empty : (after (.fetch [0, 0, 96, 0]) live).link.owed
    = some (replyRefused 0x14 .nothingHeld) := by decide

/-- ABORT without a task (R167). -/
theorem test_abort_no_task : (after (.abort []) live).link.owed
    = some (replyRefused 0x15 .noTask) := by decide

/-- After each reset the MODE notice is pending, and it begins as soon as TXD is free (R165, R174). -/
theorem test_reset_notice : live.link.notices = [.mode]
    ∧ (after .transmitComplete replying).link.notices = [] := by decide

end Sys2Proof.Machine.Tests
end

section
/-! PROOF. The nine bounds of `State.bounded` through every step (O11).

Each operation of the model has a lemma of its name in the namespace `State.bounded`: the bounds
hold after it when they hold before. An operation composed of others is proved by the composition
of their lemmas, in the order in which the model runs them; `id` stands where an update of a block
leaves the size alone. The content is in the lemmas before them, about the lists and counts that
grow. -/

namespace Sys2Proof.Machine

/-! ## The bounds under a change of one block -/

namespace State.bounded

variable {s t : State}

section Updates
variable (h : s.bounded)
include h

theorem onScan {f : Scan → Scan}
    (hf : s.scan.passCounter ≤ 449 → (f s.scan).passCounter ≤ 449) :
    (s.onScan f).bounded := by
  obtain ⟨h1, h2, h3, h4, h5, hpass, rest⟩ := h
  exact ⟨h1, h2, h3, h4, h5, hf hpass, rest⟩

theorem onLoop {f : StatLoop → StatLoop}
    (hf : s.loop.queue.length ≤ 8 → (f s.loop).queue.length ≤ 8) :
    (s.onLoop f).bounded := by
  obtain ⟨h1, hqueue, rest⟩ := h
  exact ⟨h1, hf hqueue, rest⟩

theorem onBurn {f : Burn → Burn}
    (hf : s.burn.relock ≤ 2 → (f s.burn).relock ≤ 2) : (s.onBurn f).bounded := by
  obtain ⟨h1, h2, h3, h4, hrelock, rest⟩ := h
  exact ⟨h1, h2, h3, h4, hf hrelock, rest⟩

theorem onGauge {f : Gauge → Gauge}
    (hf : s.gauge.window.length ≤ 5 → (f s.gauge).window.length ≤ 5) :
    (s.onGauge f).bounded := by
  obtain ⟨h1, h2, h3, hwindow, rest⟩ := h
  exact ⟨h1, h2, h3, hf hwindow, rest⟩

theorem onFuel {f : Fuel → Fuel}
    (hf : s.fuel.trend.length ≤ 48 → (f s.fuel).trend.length ≤ 48) :
    (s.onFuel f).bounded := by
  obtain ⟨h1, h2, htrend, rest⟩ := h
  exact ⟨h1, h2, hf htrend, rest⟩

theorem onStore {f : Store → Store}
    (hq : s.store.queue.length ≤ 4 → (f s.store).queue.length ≤ 4)
    (hr : (∀ r, s.store.reading = some r → r.count ≤ 15) →
      ∀ r, (f s.store).reading = some r → r.count ≤ 15) :
    (s.onStore f).bounded := by
  obtain ⟨hqueue, h2, h3, h4, h5, h6, h7, h8, hread⟩ := h
  exact ⟨hq hqueue, h2, h3, h4, h5, h6, h7, h8, hr hread⟩

theorem onLink {f : Link → Link}
    (hs : s.link.serial < 65536 → (f s.link).serial < 65536)
    (hc : s.link.content.length ≤ 512 → (f s.link).content.length ≤ 512) :
    (s.onLink f).bounded := by
  obtain ⟨h1, h2, h3, h4, h5, h6, hserial, hcontent, h9⟩ := h
  exact ⟨h1, h2, h3, h4, h5, h6, hs hserial, hc hcontent, h9⟩

theorem onInputs {f : Inputs → Inputs} : (s.onInputs f).bounded := h
theorem onOut {f : Out → Out} : (s.onOut f).bounded := h
theorem onZoneBlock {f : ZoneBlock → ZoneBlock} : (s.onZoneBlock f).bounded := h
theorem onSupply {f : Supply → Supply} : (s.onSupply f).bounded := h
theorem onSett {f : SetBlock → SetBlock} : (s.onSett f).bounded := h
theorem onSvc {f : Svc → Svc} : (s.onSvc f).bounded := h
theorem onPosts {f : Posts → Posts} : (s.onPosts f).bounded := h
theorem withPhase {p : Phase} : (s.withPhase p).bounded := h
theorem withPending {q : List Instr} : (s.withPending q).bounded := h
theorem drawFree : s.drawFree.bounded := h

/-! ## Operations that run others -/

theorem ite {c : Prop} [Decidable c] (ht : t.bounded) : (if c then s else t).bounded := by
  split
  · exact h
  · exact ht

omit h in
theorem iteFst {c : Prop} [Decidable c] {a b : State × Reply} (ha : a.1.bounded)
    (hb : b.1.bounded) : (if c then a else b).1.bounded := by
  split
  · exact ha
  · exact hb

theorem foldl {α : Type} {f : State → α → State} {l : List α}
    (hf : ∀ t a, t.bounded → (f t a).bounded) : (l.foldl f s).bounded := by
  induction l generalizing s with
  | nil => exact h
  | cons a rest ih => exact ih (hf s a h)

theorem eachZone {f : Fin 6 → State → State} (hf : ∀ z t, t.bounded → (f z t).bounded) :
    (eachZone f s).bounded := h.foldl fun t z => hf z t

theorem eachChannel {f : Fin 10 → State → State}
    (hf : ∀ ch t, t.bounded → (f ch t).bounded) : (eachChannel f s).bounded :=
  h.foldl fun t ch => hf ch t

theorem takeHeld {p : Held → Bool} {f : State → Held → State}
    (hf : ∀ t x, t.bounded → (f t x).bounded) : (takeHeld p f s).bounded := h.onInputs.foldl hf

section Conditional
variable {f : State → State} (hf : ∀ t, t.bounded → (f t).bounded)
include hf

theorem whenRunning : (whenRunning f s).bounded := ite (hf s h) h
theorem ifBurning : (ifBurning f s).bounded := ite (hf s h) h
theorem outsideHold : (outsideHold f s).bounded := ite h (hf s h)
theorem ofNewest {n : Nat} : (ofNewest n f s).bounded := ite (hf s h) h
theorem tellBurn {stands : Bool} : (tellBurn stands f s).bounded := ite (hf s h) h.onInputs
theorem edge {x : Input} {v : Bool} : (edge x v f s).bounded :=
  ite (ite h.onInputs h) (ite (hf _ h.onInputs) h)

end Conditional

section Requests
variable {f : State → State × Reply} (hf : ∀ t, t.bounded → (f t).1.bounded)
include hf

theorem unlessBusy {kind : Byte} : (unlessBusy kind f s).1.bounded := iteFst (b := f s) h (hf s h)
theorem unlessHeld {kind : Byte} : (unlessHeld kind f s).1.bounded := iteFst (a := f s) (hf s h) h

end Requests

end Updates

end State.bounded

/-! ## STORE's queue and reading -/

theorem length_dropNewestOrdinary {q kept : List QueueEntry}
    (h : dropNewestOrdinary q = some kept) : kept.length + 1 = q.length := by
  induction q generalizing kept with
  | nil => cases h
  | cons e rest ih =>
    simp only [dropNewestOrdinary] at h
    split at h
    · next left hleft => cases h; simp [ih hleft]
    · split at h
      · cases h
      · cases h; rfl

theorem length_displace {st : Store} {q : List QueueEntry} (h : st.displace = some q) :
    q.length + 1 = st.queue.length := by
  unfold Store.displace at h
  split at h
  · split at h
    · cases h
    · next e rest hrest =>
      obtain ⟨kept, hkept, rfl⟩ := Option.map_eq_some_iff.mp h
      simp [hrest, length_dropNewestOrdinary hkept]
  · exact length_dropNewestOrdinary h

@[simp] theorem answerTo_queue (tag : Option Tag) (p : Payload) (a : Option (Nat × Nat))
    (st : Store) : (Store.answerTo tag p a st).queue = st.queue := by cases tag <;> rfl
@[simp] theorem answerTo_reading (tag : Option Tag) (p : Payload) (a : Option (Nat × Nat))
    (st : Store) : (Store.answerTo tag p a st).reading = st.reading := by cases tag <;> rfl
@[simp] theorem writeSlot_reading (slot : Slot) (opens : Option (Fin 4)) (st : Store) :
    (st.writeSlot slot opens).reading = st.reading := by
  unfold Store.writeSlot
  split <;> rfl
@[simp] theorem writeSlot_queue (slot : Slot) (opens : Option (Fin 4)) (st : Store) :
    (st.writeSlot slot opens).queue = st.queue := by
  unfold Store.writeSlot
  split <;> rfl

/-- A displaced entry makes room for the one that joins (Table 8-5). -/
theorem join_queue_le {p : Payload} {tag : Option Tag} {st : Store} (h : st.queue.length ≤ 4) :
    (Store.join p tag st).queue.length ≤ 4 := by
  unfold Store.join
  split
  · next hroom => simpa [appendQueueMost] using hroom
  · split
    · split
      · next q hq => simpa [length_displace hq] using h
      · simpa using h
    · exact h

@[simp] theorem join_reading (p : Payload) (tag : Option Tag) (st : Store) :
    (Store.join p tag st).reading = st.reading := by
  unfold Store.join
  (repeat' split) <;> simp [Store.drop]

/-- From `st` to `st'` no append has joined the queue, and the reading is the same. -/
def Store.queuesNoMore (st st' : Store) : Prop :=
  st'.queue.length ≤ st.queue.length ∧ st'.reading = st.reading

section QueuesNoMore
variable {st st' : Store}

theorem queuesNoMore_lookRotation {hold : Bool} : st.queuesNoMore (st.lookRotation hold) := by
  unfold Store.lookRotation
  (repeat' split) <;> exact ⟨le_rfl, rfl⟩

theorem queuesNoMore_appendDone {good : Bool} {r : Record} {opens : Option (Fin 4)} :
    st.queuesNoMore (st.appendDone good r opens) := by
  unfold Store.appendDone
  dsimp only
  split <;> simp [Store.queuesNoMore]

theorem queuesNoMore_carryDone {good : Bool} {r : Record} {opens : Option (Fin 4)} :
    st.queuesNoMore (st.carryDone good r opens) := by
  simp [Store.carryDone, Store.queuesNoMore]

theorem queuesNoMore_cutProgram {tears : Bool} {opens : Option (Fin 4)} :
    st.queuesNoMore (st.cutProgram tears opens) := by
  unfold Store.cutProgram
  (repeat' split) <;> exact ⟨le_rfl, rfl⟩

theorem queuesNoMore_scanRecords : st.queuesNoMore st.scanRecords := ⟨le_rfl, rfl⟩

theorem queuesNoMore_startScan : st.queuesNoMore st.startScan := by
  unfold Store.startScan
  split <;> exact ⟨le_rfl, rfl⟩

theorem queuesNoMore_scanErased : st.queuesNoMore st.scanErased := by
  unfold Store.scanErased
  (repeat' split) <;> exact ⟨le_rfl, rfl⟩

theorem queuesNoMore_serveCarry (h : st.serveCarry = some st') : st.queuesNoMore st' := by
  unfold Store.serveCarry at h
  repeat' split at h
  all_goals cases h
  all_goals exact ⟨le_rfl, rfl⟩

theorem queuesNoMore_serveAppend (h : st.serveAppend = some st') : st.queuesNoMore st' := by
  unfold Store.serveAppend at h
  split at h
  · cases h
  · next e rest hrest =>
    repeat' split at h
    all_goals cases h
    all_goals simp [Store.queuesNoMore, Store.drop, Store.programOf, hrest]

theorem queuesNoMore_serveKeep (h : st.serveKeep = some st') : st.queuesNoMore st' := by
  unfold Store.serveKeep at h
  split at h <;> cases h
  exact ⟨le_rfl, rfl⟩

theorem queuesNoMore_serveSuspended (h : st.serveSuspended = some st') :
    st.queuesNoMore st' := by
  unfold Store.serveSuspended at h
  split at h <;> cases h
  exact ⟨le_rfl, rfl⟩

theorem queuesNoMore_serveInner (h : st.serveInner = some st') : st.queuesNoMore st' := by
  unfold Store.serveInner at h
  split at h
  · next hcarry => cases h; exact queuesNoMore_serveCarry hcarry
  · split at h
    · next happend => cases h; exact queuesNoMore_serveAppend happend
    · split at h
      · next hkeep => cases h; exact queuesNoMore_serveKeep hkeep
      · exact queuesNoMore_serveSuspended h

end QueuesNoMore

/-! ## What fills the result buffer -/

/-- No kind's fields fill the 14 bytes of Table 8-3. -/
theorem length_fields_le (p : Payload) : p.fields.length ≤ 14 := by
  cases p with
  | noStart w f g => cases f <;> simp [Payload.fields, byte8, byte16, signed16]
  | _ => simp [Payload.fields, byte8, byte16, byte32, signed32, flag]

/-- A stored record has 32 bytes (Table 8-2). -/
theorem length_recordBytes (r : Record) : r.bytes.length = 32 := by
  have hfields := length_fields_le r.payload
  simp only [Record.bytes, Record.body, Record.payloadBytes, byte32, byte8, List.length_append,
    List.length_replicate, List.length_cons, List.length_nil]
  omega

/-- A result of at most 15 records fits the buffer (R146). -/
theorem length_readResult_le {r : ReadTask} (hr : r.count ≤ 15) (st : Store) :
    (st.readResult r).length ≤ 512 := by
  have hcount : (st.delivered r).length ≤ 15 := by
    refine le_trans ?_ hr
    simp [Store.delivered]
  have hbytes : ((st.delivered r).map Record.bytes).flatten.length
      = 32 * (st.delivered r).length := by
    rw [List.length_flatten, List.map_map]
    simp [Function.comp_def, length_recordBytes, Nat.mul_comm]
  simp only [Store.readResult, List.length_append, hbytes, byte32, byte16, List.length_cons,
    List.length_nil]
  omega

/-- Of a ring of at most 48 entries at most 48 are copied, which fit the buffer (R170). -/
theorem length_trendContent_le {ring : List TrendEntry} (h : ring.length ≤ 48) (start count : Nat)
    (wrap : Bool) : (trendContent ring start count wrap).length ≤ 512 := by
  have hcopy : (trendCopy ring start count wrap).length ≤ 48 := by
    refine le_trans ?_ h
    unfold trendCopy
    dsimp only
    split
    all_goals simp
    omega
  have hbytes : ((trendCopy ring start count wrap).map TrendEntry.bytes).flatten.length
      = 10 * (trendCopy ring start count wrap).length := by
    rw [List.length_flatten, List.map_map]
    simp [Function.comp_def, TrendEntry.bytes, byte32, byte16, Nat.mul_comm]
  simp only [trendContent, List.length_append, hbytes, byte8, flag, List.length_cons,
    List.length_nil]
  omega

/-! ## The other sizes -/

theorem length_pushTrend_le {ring : List TrendEntry} {e : TrendEntry} (h : ring.length ≤ 48) :
    (pushTrend ring e).length ≤ 48 := by
  unfold pushTrend trendMost
  split <;> (simp; omega)

theorem length_pushDepth_le {window : List Nat} {d : Nat} (h : window.length ≤ 5) :
    (pushDepth window d).length ≤ 5 := by
  unfold pushDepth
  split <;> (simp; omega)

theorem fixRead_count_le {start : Option Nat} {count : Nat} {st : Store} :
    (st.fixRead start count).count ≤ 15 := by
  have hmost : min count 15 ≤ 15 := min_le_right _ _
  unfold Store.fixRead
  dsimp only
  (repeat' split) <;> simp only [historyMost, hmost, Nat.zero_le]

theorem followMoves_serial (full : Bool) (l : Link) : (followMoves full l).serial = l.serial := by
  cases full <;> rfl

theorem followMoves_content (full : Bool) (l : Link) :
    (followMoves full l).content = l.content := by
  cases full <;> rfl

theorem holdBegins_window_le (g : Gauge) (h : g.window.length ≤ 5) :
    g.holdBegins.window.length ≤ 5 := h

theorem holdEnds_window_le (g : Gauge) (h : g.window.length ≤ 5) :
    g.holdEnds.window.length ≤ 5 := h

theorem length_queueWrite_le {n : Fin 15} {i : Item} {v : Nat} {q q' : List WriteEntry}
    (h : q.length ≤ 8) (e : queueWrite n i v q = some q') : q'.length ≤ 8 := by
  unfold queueWrite writeQueueMost at e
  split at e
  · cases e; simpa using h
  · split at e <;> cases e
    simpa using ‹_›

namespace State.bounded

variable {s t : State} (h : s.bounded)
include h

theorem relock_le : s.burn.relock ≤ 2 := by
  obtain ⟨-, -, -, -, hrelock, -⟩ := h; exact hrelock

theorem loopQueue_le : s.loop.queue.length ≤ 8 := by
  obtain ⟨-, hqueue, -⟩ := h; exact hqueue

theorem trend_le : s.fuel.trend.length ≤ 48 := by
  obtain ⟨-, -, htrend, -⟩ := h; exact htrend

theorem readCount_le {r : ReadTask} (hr : s.store.reading = some r) : r.count ≤ 15 := by
  obtain ⟨-, -, -, -, -, -, -, -, hread⟩ := h; exact hread r hr

theorem onStoreNoMore {f : Store → Store} (hf : s.store.queuesNoMore (f s.store)) :
    (s.onStore f).bounded := by
  obtain ⟨hqueue, hreading⟩ := hf
  exact h.onStore hqueue.trans (by rw [hreading]; exact id)

end State.bounded

/-! ## The bounds through every operation -/

namespace State.bounded

variable {s t : State} (h : s.bounded)
include h

/-! ## LINK's and STORE's shared operations -/

theorem fillBuffer {content : List Byte} (hcontent : content.length ≤ 512) :
    (fillBuffer content s).bounded := h.onLink id fun _ => hcontent

theorem startTask {k : TaskKind} : (startTask k s).bounded :=
  h.onLink (fun _ => Nat.mod_lt _ (by decide)) id

theorem postNotice {n : Notice} : (postNotice n s).bounded := h.onLink id id

theorem endTask {o r size} : (endTask o r size s).bounded := by
  unfold Machine.endTask
  split
  · exact h
  · exact postNotice (h.onLink id id)

theorem dropReading : (s.onStore fun st => { st with reading := none }).bounded :=
  h.onStore id fun _ _ hnone => nomatch hnone

theorem endReading {r : ReadTask} (hr : r.count ≤ 15) : (endReading r s).bounded := by
  exact (ite (h.dropReading.fillBuffer (length_readResult_le hr _)).endTask
    h.dropReading.endTask).onStoreNoMore queuesNoMore_lookRotation

theorem startErase (e : startErase s = some t) : t.bounded := by
  unfold Machine.startErase at e
  repeat' split at e
  all_goals cases e
  · exact h.onStore id id
  · exact onSett (h.onStore id id)

theorem serveOnce (e : serveOnce s = some t) : t.bounded := by
  unfold Machine.serveOnce at e
  split at e
  · next r hreading =>
    cases e
    exact h.endReading (h.readCount_le hreading)
  · split at e
    · next st' hst =>
      cases e
      exact h.onStoreNoMore (queuesNoMore_serveInner hst)
    · exact h.startErase e

theorem serve {n} : (serve n s).bounded := by
  induction n generalizing s with
  | zero => exact h
  | succ n ih =>
    unfold Machine.serve
    split
    · split
      · next hserve => exact ih (h.serveOnce hserve)
      · exact h
    · exact h

theorem kick : (kick s).bounded := by
  unfold Machine.kick
  split
  · exact h.serve
  · exact ite (serve (h.onStore id id)) h
  · exact h

theorem appendRecord {p tag} : (appendRecord p tag s).bounded :=
  kick (h.onStore join_queue_le (by rw [join_reading]; exact id))

theorem takeAnswers {n} (hanswer : ∀ t a, t.bounded → (burnAnswer a t).bounded) :
    (takeAnswers n s).bounded := by
  induction n generalizing s with
  | zero => exact h
  | succ n ih =>
    unfold Machine.takeAnswers
    split
    · exact h
    · exact ih (hanswer _ _ (h.onStore id id))

theorem onNode {n f} : (State.onNode s n f).bounded := h.onLoop id

theorem postPump {v} : (postPump v s).bounded := h.onPosts

theorem postStage {g} : (postStage g s).bounded := h.onPosts

theorem postHeat {v} : (postHeat v s).bounded := h.onPosts

theorem onZone {z f} : (State.onZone s z f).bounded := h.onZoneBlock

theorem postDemand {ch v} : (postDemand ch v s).bounded := h.onPosts

theorem onChan {ch f} : (State.onChan s ch f).bounded := h.onOut

theorem postOverrun {v} : (postOverrun v s).bounded := h.onPosts

theorem lookAtRotation : (lookAtRotation s).bounded :=
  (h.onStoreNoMore queuesNoMore_lookRotation).kick

theorem cutArray : (cutArray s).bounded := by
  unfold Machine.cutArray
  dsimp only
  split
  · exact (h.onStoreNoMore queuesNoMore_cutProgram).drawFree
  · exact (h.onStoreNoMore queuesNoMore_cutProgram).drawFree
  · exact h.onStoreNoMore queuesNoMore_cutProgram
  · exact h.onStoreNoMore queuesNoMore_cutProgram
  · exact h

theorem keepVerified {image good} : (keepVerified image good s).bounded :=
  ite (appendRecord (endTask (ite (postNotice (onSett (onStore (h.onStore id id) id id))) (onSett
    (onStore (h.onStore id id) id id))))) (kick (endTask (onSett (h.onStore id id))))

theorem keepBlockDone {good} : (keepBlockDone good s).bounded := by
  unfold Machine.keepBlockDone
  dsimp only
  split
  · split
    · exact kick (onStoreNoMore (h.onStore id id) (f := fun st => Store.lookRotation _ { st with
        keep := _ }) queuesNoMore_lookRotation)
    · exact keepVerified (onStoreNoMore (h.onStore id id) queuesNoMore_lookRotation)
  · exact kick (h.onStore id id)

theorem settingsErased : (settingsErased s).bounded := onSett (h.onStore id id)

theorem eraseDone : (eraseDone s).bounded := by
  unfold Machine.eraseDone
  split
  · exact kick (h.onStore id id)
  · exact h.settingsErased.kick
  · exact h

theorem programDone {good} : (programDone good s).bounded := by
  unfold Machine.programDone
  split
  · exact (h.onStoreNoMore queuesNoMore_appendDone).lookAtRotation
  · exact (h.onStoreNoMore queuesNoMore_carryDone).lookAtRotation
  · exact h.keepBlockDone
  · exact h

theorem internalWrite {n i v} : (internalWrite n i v s).bounded := by
  unfold Machine.internalWrite
  split
  · next hq => exact h.onLoop fun hle => length_queueWrite_le hle hq
  · exact h.onNode

theorem loopTakesStage {g} : (loopTakesStage g s).bounded :=
  foldl (h.onLoop id) fun _ _ h1 => ite h1.internalWrite h1

theorem markWriteFailed {n v} : (markWriteFailed n v s).bounded := by
  unfold Machine.markWriteFailed
  split
  · exact h.onZone
  · exact h

theorem writeToZoneNode {z i v} : (writeToZoneNode z i v s).bounded := by
  unfold Machine.writeToZoneNode
  split
  · exact h.internalWrite
  · exact h

theorem queueStale {n z i} : (queueStale n z i s).bounded := by
  unfold Machine.queueStale
  split
  · split
    · next hq => exact onNode (h.onLoop fun hle => length_queueWrite_le hle hq)
    · exact h
  · exact h

theorem writeOutcome {acknowledged} : (writeOutcome acknowledged s).bounded := by
  unfold Machine.writeOutcome
  split
  · exact h
  · next e rest hq =>
    have hlength : rest.length + 1 ≤ 8 := by simpa [hq] using h.loopQueue_le
    have hrest : rest.length ≤ 8 := Nat.le_of_succ_le hlength
    split
    · refine (h.onLoop fun _ => ?_).markWriteFailed
      dsimp only
      split <;> simp only [List.length_cons, *]
    · split
      · exact h.onLoop fun _ => hlength
      · split
        · exact markWriteFailed (h.onLoop fun _ => hrest)
        · exact h.onLoop fun _ => hlength

theorem unbindNode {n} : (unbindNode n s).bounded :=
  have hfilter : (s.loop.queue.filter fun e => e.node != n).length ≤ 8 :=
    (List.length_filter_le _ _).trans h.loopQueue_le
  have hloop := h.onLoop fun _ => hfilter
  ite hloop.onNode.postNotice hloop.onNode

theorem bindNode {n z} : (bindNode n z s).bounded := h.onNode

theorem rebindNode {n} : (rebindNode n s).bounded := by
  unfold Machine.rebindNode
  dsimp only
  split
  · exact h
  · split
    · exact (h.unbindNode.ite h).bindNode
    · exact h.unbindNode.ite h

theorem openPollSlot : (openPollSlot s).bounded := by
  unfold Machine.openPollSlot
  split <;> exact h.onLoop id

theorem slotAfterPoll : (slotAfterPoll s).bounded := by
  unfold Machine.slotAfterPoll
  split
  · exact h.openPollSlot
  · next hq => exact h.onLoop fun hle => by rwa [hq] at hle

theorem queueStaleItems {n z} : (queueStaleItems n z s).bounded :=
  h.queueStale.queueStale.queueStale

theorem rebindNodes : (rebindNodes s).bounded := by
  have hfold := h.foldl (l := allNodes) (f := fun t n => Machine.rebindNode n t)
    fun _ _ ht => ht.rebindNode
  unfold Machine.rebindNodes
  dsimp only
  split
  · exact hfold.openPollSlot
  · exact hfold

theorem beginReply : (beginReply s).bounded := by
  unfold Machine.beginReply
  split
  · exact h.onLink id id
  · exact h

theorem hunt : (hunt s).bounded := h.onLink id id

theorem zoneTo {z st timer} : (zoneTo z st timer s).bounded := h.onZone.ite h.onZone.postDemand

theorem formPump : (formPump s).bounded := h.ite h.onZoneBlock.postDemand

theorem formHeat : (formHeat s).bounded := h.ite h.onZoneBlock.postHeat

theorem formOutputs : (formOutputs s).bounded := h.formHeat.formPump

theorem enterOpening {z} : (enterOpening z s).bounded := h.zoneTo.zoneTo.ite h.zoneTo

theorem enterIdle {z} : (enterIdle z s).bounded := h.zoneTo.enterOpening.ite h.zoneTo

theorem enterClosing {z} : (enterClosing z s).bounded := h.zoneTo.ite h.zoneTo.enterIdle

theorem closeHolds : (closeHolds s).bounded := h.foldl (fun _ _ h1 => h1.enterClosing.ite h1)

theorem zonesTakeOverrun {v} : (zonesTakeOverrun v s).bounded :=
  (h.onZoneBlock.ite h.onZoneBlock.closeHolds).formOutputs

theorem zoneHoldBegins {z} : (zoneHoldBegins z s).bounded := h.zoneTo.writeToZoneNode.ite h.zoneTo

theorem enterFault {z cause} : (enterFault z cause s).bounded :=
  h.zoneTo.onZone.postNotice.writeToZoneNode

theorem callRises {z} : (callRises z s).bounded := by
  unfold Machine.callRises
  split
  · exact h.ite h.enterOpening
  · exact h.zoneTo
  · exact h

theorem closeOtherHolds {z} : (closeOtherHolds z s).bounded :=
  h.foldl (fun _ _ h1 => h1.enterClosing.ite h1)

theorem callFalls {z} : (callFalls z s).bounded := by
  unfold Machine.callFalls
  split
  · exact h.enterClosing
  · exact h.enterClosing.ite h.closeOtherHolds.zoneTo
  · exact h

theorem formCall {z} : (formCall z s).bounded :=
  h.ite ((h.onZone.callRises.ite h.onZone.callFalls).formOutputs)

theorem evaluateCall {z} : (evaluateCall z s).bounded := h.onZone.formCall

theorem deriveTarget {z} : (deriveTarget z s).bounded := h.ite h.onZone.writeToZoneNode.evaluateCall

theorem zoneHoldEnds {z} : (zoneHoldEnds z s).bounded := h.enterOpening.ite h

theorem zonesHoldEnds : (zonesHoldEnds s).bounded :=
  (h.eachZone (fun _ _ h1 => h1.zoneHoldEnds)).formOutputs

theorem resetView {z} : (resetView z s).bounded := h.onZone

theorem driveSink {z v} : (driveSink z v s).bounded := h.onZone.formCall

theorem evaluateBoilerFrost : (evaluateBoilerFrost s).bounded :=
  h.ite h.onZoneBlock.driveSink.formOutputs

theorem modeChanged {z} : (modeChanged z s).bounded := h.deriveTarget.evaluateCall

theorem zonesTakeMode : (zonesTakeMode s).bounded :=
  (h.eachZone (fun _ _ h1 => h1.modeChanged)).formOutputs

theorem zoneLosesNode {z} : (zoneLosesNode z s).bounded :=
  h.onZone.deriveTarget.evaluateCall.formOutputs

theorem zoneHasNoReport {z} : (zoneHasNoReport z s).bounded :=
  h.onZone.evaluateCall.formOutputs.ite h

theorem zonesHoldBegins : (zonesHoldBegins s).bounded :=
  (h.eachZone (fun _ _ h1 => h1.zoneHoldBegins)).formOutputs

theorem zonesTakeStage {g} : (zonesTakeStage g s).bounded :=
  (h.onZoneBlock.eachZone (fun _ _ h1 => h1.deriveTarget)).formOutputs

theorem zoneTakesReport {z r} : (zoneTakesReport z r s).bounded :=
  h.onZone.deriveTarget.evaluateCall.formOutputs

theorem zoneChannelFault {z} : (zoneChannelFault z s).bounded := h.ite h.enterFault.formOutputs

theorem clearLeakFlag : (clearLeakFlag s).bounded := ite (postNotice (h.onFuel id)) h

theorem evaluateLineHeat : (evaluateLineHeat s).bounded := ite h (postDemand (h.onFuel id))

theorem restartPeriod : (restartPeriod s).bounded := h.onFuel id

theorem ungaugedEnd : (ungaugedEnd s).bounded := restartPeriod (h.onFuel id)

theorem takeDeferred : (takeDeferred s).bounded := h.ungaugedEnd.ite h

theorem dropSettling : (dropSettling s).bounded := takeDeferred (h.onFuel id)

theorem raiseLeak {d} : (raiseLeak d s).bounded := postNotice (appendRecord (h.onFuel id))

theorem judgeLoss : (judgeLoss s).bounded :=
  ite (onFuel (h.onFuel id) id) (ite (onFuel (h.onFuel id) id) (raiseLeak (h.onFuel id)))

theorem setReference {v} : (setReference v s).bounded := h.onFuel id

theorem reconcile : (reconcile s).bounded := h.judgeLoss.appendRecord.setReference.restartPeriod

theorem setStage {g} : (setStage g s).bounded := ite h (postNotice (postStage (h.onFuel id)))

theorem fuelFaultEntered : (fuelFaultEntered s).bounded :=
  ite (dropSettling (h.onFuel id)) (h.onFuel id)

theorem fuelTableReplaced : (fuelTableReplaced s).bounded :=
  ite (dropSettling (h.onFuel id)) (h.onFuel id)

theorem rebase {v} : (rebase v s).bounded := restartPeriod (h.setReference.onFuel id)

theorem startSettling {v} : (startSettling v s).bounded := h.onFuel id

theorem confirmDelivery {final} : (confirmDelivery final s).bounded :=
  takeDeferred (postNotice (onFuel (setStage (clearLeakFlag (onFuel (setReference (appendRecord
    (h.onFuel id))) id))) id))

theorem finishSettling {final} : (finishSettling final s).bounded :=
  h.confirmDelivery.ite h.dropSettling

theorem settleValue {v x} : (settleValue v x s).bounded :=
  ite (finishSettling (h.onFuel id)) (h.onFuel id)

theorem actOnGood {v} : (actOnGood v s).bounded := by
  unfold Machine.actOnGood
  split
  · exact h.rebase
  · exact ite (startSettling (h.onFuel id)) h.rebase
  · split
    · exact h.settleValue
    · exact h.startSettling.ite h

theorem restoreFuel : (restoreFuel s).bounded := postStage (h.onFuel id)

theorem fuelMeters {sec} : (fuelMeters sec s).bounded := onGauge (h.onFuel id) id

theorem computeStage {v} : (computeStage v s).bounded := h.setStage

theorem fuelTakesValue {v st} : (fuelTakesValue v st s).bounded :=
  ite (actOnGood (computeStage (h.onFuel id))) (computeStage (h.onFuel id))

theorem addTrendEntry : (addTrendEntry s).bounded := h.onFuel length_pushTrend_le

theorem periodEnds : (periodEnds s).bounded := ite (h.onFuel id) (ite h.reconcile h.ungaugedEnd)

theorem computeVolumes {depth} : (computeVolumes depth s).bounded := h.onGauge id

theorem handValue {v st} : (handValue v st s).bounded :=
  fuelTakesValue (h.onGauge (by split <;> exact id))

theorem replaceTable {ps} : (replaceTable ps s).bounded := by
  unfold Machine.replaceTable
  dsimp only
  split
  · exact h.onSett.fuelTableReplaced.computeVolumes.handValue
  · exact h.onSett.fuelTableReplaced.onGauge id

theorem handEstimate : (handEstimate s).bounded := h.handValue

theorem beginLoad {n check} : (beginLoad n check s).bounded := h.onGauge id

theorem handFiltered : (handFiltered s).bounded := h.computeVolumes.handValue

theorem leaveGaugeFault : (leaveGaugeFault s).bounded := postNotice (handFiltered (h.onGauge id))

theorem takeGood {c d} : (takeGood c d s).bounded :=
  have hpush := h.onGauge length_pushDepth_le
  ite hpush (ite hpush.leaveGaugeFault hpush.handFiltered)

theorem enterGaugeFault {cause} : (enterGaugeFault cause s).bounded :=
  postNotice (handEstimate (fuelFaultEntered (h.onGauge (by simp [Gauge.emptyWindow]))))

theorem takeFaulty {c} : (takeFaulty c s).bounded :=
  ite (onGauge (h.onGauge id) (by simp))
    (ite (enterGaugeFault (h.onGauge id)) (onGauge (h.onGauge id) id))

theorem takeSample {c} : (takeSample c s).bounded := h.takeFaulty.ite h.takeGood

theorem takeDue {c measureFault} : (takeDue c measureFault s).bounded :=
  ((h.ite h.takeSample).handEstimate).ite (h.ite h.takeSample)

theorem gaugeTakesMeasureFault : (gaugeTakesMeasureFault s).bounded :=
  ite (h.onGauge (by simp [Gauge.emptyWindow])) h.enterGaugeFault

theorem endLoad {o r} : (endLoad o r s).bounded := endTask (h.onGauge id)

theorem gaugeTakesPass : (gaugeTakesPass s).bounded :=
  h.onGauge fun hw => by dsimp only; (repeat' split) <;> exact hw

theorem restoreGauge : (restoreGauge s).bounded := h.onGauge id

theorem runOverrun : (runOverrun s).bounded := ite (h.onBurn id) (postOverrun (h.onBurn id))

theorem burnTo {st} : (burnTo st s).bounded := ite (h.onBurn id) (postDemand (h.onBurn id))

theorem stopOverrun : (stopOverrun s).bounded := ite (postOverrun (h.onBurn id)) h

theorem askOverrun : (askOverrun s).bounded := h.stopOverrun.ite h.runOverrun

theorem addAntiCycle : (addAntiCycle s).bounded := ite h (h.onBurn id)

theorem afterFiring : (afterFiring s).bounded := h.addAntiCycle.askOverrun

theorem enterFiring : (enterFiring s).bounded := h.burnTo.onBurn id

theorem enterCalled : (enterCalled s).bounded :=
  ite (enterFiring (stopOverrun (h.burnTo.onBurn id))) (stopOverrun (h.burnTo.onBurn id))

theorem lookCall : (lookCall s).bounded := h.enterCalled.ite h

theorem goIdle : (goIdle s).bounded := h.burnTo.lookCall.ite h.burnTo

theorem endTogether : (endTogether s).bounded := h.onBurn id

theorem withdraw : (withdraw s).bounded :=
  ite (ite (afterFiring (h.burnTo.onBurn id)) (h.burnTo.onBurn id)) (onBurn (goIdle (onBurn (ite
    (afterFiring (h.burnTo.onBurn id)) (h.burnTo.onBurn id)) id)) id)

theorem findStopping : (findStopping s).bounded := ite (h.burnTo.onBurn id) h

theorem addReason {r} : (addReason r s).bounded := by
  unfold Machine.addReason
  dsimp only
  split
  · exact h
  · split
    · exact burnTo (h.onBurn id)
    · exact withdraw (h.onBurn id)
    · exact withdraw (h.onBurn id)
    · exact withdraw (h.onBurn id)
    · exact h.onBurn id

theorem removeReason {r} : (removeReason r s).bounded :=
  ite (ite (goIdle (h.onBurn id)) (h.onBurn id)) h

theorem setReason {r v} : (setReason r v s).bounded := h.addReason.ite h.removeReason

theorem runAccumulator {v} : (runAccumulator v s).bounded := h.onBurn id

theorem endNoStart : (endNoStart s).bounded := postNotice (appendRecord (withdraw (h.onBurn id)))

theorem windowExpires : (windowExpires s).bounded := by
  unfold Machine.windowExpires
  split
  · exact ite (h.burnTo.onBurn id) h.endNoStart
  · exact h.endNoStart

theorem setRunaway {v} : (setRunaway v s).bounded := ite h (postNotice (h.onBurn id))

theorem runawayIfIdle : (runawayIfIdle s).bounded := h.setRunaway.ite h

theorem burnTakesPump {v} : (burnTakesPump v s).bounded :=
  ite h (ite (ite (lookCall (h.onBurn id)) (h.onBurn id)) (ite (withdraw (h.onBurn id)) (h.onBurn
    id)))

theorem countStart : (countStart s).bounded := h.onBurn id

theorem evaluateOverheat : (evaluateOverheat s).bounded := by
  unfold Machine.evaluateOverheat
  split
  · exact h
  · exact h.addReason.ite (h.removeReason.ite h)

theorem burnTakesFlow : (burnTakesFlow s).bounded :=
  h.evaluateOverheat.stopOverrun.ite h.evaluateOverheat

theorem burnTakesHeat {v} : (burnTakesHeat v s).bounded :=
  ite h (ite (ite (lookCall (h.onBurn id)) (h.onBurn id)) (postOverrun (ite (withdraw (h.onBurn id))
    (h.onBurn id))))

theorem burnValveFall : (burnValveFall s).bounded := by
  unfold Machine.burnValveFall
  split
  · exact h.burnTo
  · exact goIdle (h.onBurn id)
  · exact h

theorem postFiring : (postFiring s).bounded := ite (h.onBurn id) (fuelMeters (h.onBurn id))

theorem valveRiseIn : (valveRiseIn s).bounded := by
  unfold Machine.valveRiseIn
  dsimp only
  split
  · exact h.enterFiring.countStart
  · exact h.enterFiring.countStart
  · exact ite h.countStart (afterFiring (h.countStart.onBurn id))
  · exact h.setRunaway
  · exact h.setRunaway
  · exact h

theorem burnValveRise : (burnValveRise s).bounded := h.findStopping.valveRiseIn

theorem valveRises : (valveRises s).bounded := h.runAccumulator.burnValveRise

theorem valveFalls : (valveFalls s).bounded := h.setRunaway.runAccumulator.postFiring.burnValveFall

theorem burnTakesStage {g} : (burnTakesStage g s).bounded := setReason (h.onBurn id)

theorem askStore {tag p} : (askStore tag p s).bounded := appendRecord (ite (h.onBurn id) h)

theorem enterHeld {r} : (enterHeld r s).bounded := postNotice (h.burnTo.onBurn id)

theorem endResetTask {o r} : (endResetTask o r s).bounded := ite (endTask (h.onBurn id)) h

theorem askResetRecord : (askResetRecord s).bounded :=
  ((h.askStore.ite h.endResetTask.enterHeld).ite h.askStore).ite h

theorem askNow {a} : (askNow s a).bounded := by
  unfold Machine.askNow
  split
  · exact h.askStore
  · exact h.askResetRecord

theorem askOwed : (askOwed s).bounded := by
  unfold Machine.askOwed
  split
  · exact ite h (askStore (h.onBurn id))
  · exact h

theorem askAll {l} : (askAll l s).bounded :=
  ite (h.foldl fun _ _ ht => ht.askNow) (askOwed (h.onBurn id))

theorem askLockout : (askLockout s).bounded := by
  unfold Machine.askLockout
  split
  · exact ite h (askAll (h.onBurn id))
  · exact h

theorem beginReset {o} : (beginReset o s).bounded :=
  ite (askLockout (h.burnTo.onBurn id)) (askAll (h.burnTo.onBurn id))

theorem evaluateUntasked : (evaluateUntasked s).bounded :=
  (h.beginReset.ite h.enterHeld).ite h.enterHeld

theorem owedStored : (owedStored s).bounded :=
  ite (foldl (onBurn (h.onBurn id) id) fun _ _ ht => ht.askNow) (askOwed (h.onBurn id))

theorem endPulse : (endPulse s).bounded := ite (postDemand (h.onBurn id)) (h.onBurn id)

theorem enterLatched {r} : (enterLatched r s).bounded :=
  endResetTask (postNotice (askAll (endPulse (h.burnTo.onBurn id))))

theorem startProofLimit : (startProofLimit s).bounded := ite (h.onBurn id) h

theorem takeDark : (takeDark s).bounded := by
  unfold Machine.takeDark
  dsimp only
  split
  · exact h.askLockout.enterLatched
  · exact goIdle (startProofLimit (onBurn (askAll (onBurn (ite h.askLockout h) id)) id))

theorem takePress : (takePress s).bounded := by
  unfold Machine.takePress
  split
  · exact h.beginReset
  · exact h.ite h.beginReset
  · exact ite (h.onBurn id) h
  · exact h

theorem takeWaiting : (takeWaiting s).bounded :=
  ite (takeDark (h.onBurn id)) (ite (takePress (h.onBurn id)) (h.onBurn id))

theorem awaitMains : (awaitMains s).bounded := h.burnTo.onBurn id

theorem resetRefused : (resetRefused s).bounded :=
  ite h.endResetTask.enterHeld (takeDark (h.endResetTask.enterHeld.onBurn id))

theorem lockoutRefused : (lockoutRefused s).bounded := by
  unfold Machine.lockoutRefused
  dsimp only
  split
  · exact ite (awaitMains (h.onBurn id))
      (takeWaiting (enterHeld (endResetTask (onBurn (h.onBurn id) id))))
  · exact resetRefused (h.onBurn id)
  · exact h.onBurn id

theorem enterCooldown : (enterCooldown s).bounded := h.burnTo.onBurn id

theorem lockedHoldEnds : (lockedHoldEnds s).bounded := by
  unfold Machine.lockedHoldEnds
  split
  · split
    · exact h.enterCooldown
    · exact enterHeld (h.onBurn id)
    · exact h.onBurn id
  · exact h.goIdle

theorem retryHeld : (retryHeld s).bounded := (h.askLockout.ite (h.ite h.evaluateUntasked)).ite h

theorem setHeldReason {r} : (setHeldReason r s).bounded := ite h (postNotice (h.onBurn id))

theorem evaluateHeld : (evaluateHeld s).bounded :=
  (((h.ite h.beginReset).ite h.setHeldReason).ite h.setHeldReason).ite h

theorem heldMinute : (heldMinute s).bounded := h.retryHeld.ite h.evaluateHeld

theorem raiseRelock : (raiseRelock s).bounded := h.onBurn fun _ => min_le_right _ _

theorem enterLocked {cause left} : (enterLocked cause left s).bounded :=
  askAll (onBurn (ite (ite (endResetTask (raiseRelock (onBurn (postNotice (onBurn (ite (askOverrun
    (h.burnTo.onBurn id)) (h.burnTo.onBurn id)) id)) id))) (raiseRelock (onBurn (postNotice (onBurn
    (ite (askOverrun (h.burnTo.onBurn id)) (h.burnTo.onBurn id)) id)) id))) (postNotice (onBurn (ite
    (askOverrun (h.burnTo.onBurn id)) (h.burnTo.onBurn id)) id))) id)

theorem burnStateHoldEnds : (burnStateHoldEnds s).bounded := by
  unfold Machine.burnStateHoldEnds
  split
  · exact h.lockedHoldEnds.ite h
  · exact h.heldMinute.ite h.takeDark
  · exact (h.enterLocked.ite (h.goIdle.ite h)).ite h

theorem resetSucceeds : (resetSucceeds s).bounded := goIdle (h.onBurn id)

theorem burnLampFall : (burnLampFall s).bounded := by
  unfold Machine.burnLampFall
  split
  · exact h.takeDark
  · exact h.takeDark
  · exact ite (h.onBurn id) h
  · split
    · exact h.onBurn id
    · exact h
    · exact h.resetSucceeds
  · exact h

theorem abandonReset : (abandonReset s).bounded :=
  ite (askAll (awaitMains (h.endPulse.onBurn id))) (awaitMains (h.endPulse.onBurn id))

theorem askMissingLatch : (askMissingLatch s).bounded := by
  unfold Machine.askMissingLatch
  split
  · exact askAll (h.onBurn id)
  · exact h

theorem lockoutStoredDecides : (lockoutStoredDecides s).bounded := by
  unfold Machine.lockoutStoredDecides
  split
  · exact h.enterLatched
  · exact h.awaitMains.ite h.enterCooldown.takeWaiting

theorem lockoutStored : (lockoutStored s).bounded := by
  unfold Machine.lockoutStored
  dsimp only
  split
  · exact lockoutStoredDecides (h.onBurn id)
  · exact lockoutStoredDecides (h.onBurn id)
  · split
    · exact enterLatched (h.onBurn id)
    · exact askAll (h.onBurn id)
  · exact h.onBurn id

theorem resetStoredActs : (resetStoredActs s).bounded :=
  ite (postDemand (h.startProofLimit.onBurn id)) h.startProofLimit.resetSucceeds

theorem resetStored {o stamp} : (resetStored o stamp s).bounded := by
  unfold Machine.resetStored
  dsimp only
  split
  · exact askAll (onBurn (ite (h.onBurn id) h) id)
  · exact ite (resetStoredActs (ite (h.onBurn id) h)) (ite (h.onBurn id) h)

theorem resetRecordRefused : (resetRecordRefused s).bounded :=
  ite (h.onBurn id) (ite h.resetRefused h)

theorem becomesOwed {p} : (becomesOwed p s).bounded := h.onBurn id

theorem refuseAsk {a} : (refuseAsk s a).bounded := by
  unfold Machine.refuseAsk
  split
  · exact h.ofNewest fun _ ht => ht.lockoutRefused
  · exact h.becomesOwed
  · exact h.onBurn id
  · exact h.resetRecordRefused
  · exact h
  · exact h.resetRecordRefused

theorem owedRefused : (owedRefused s).bounded := foldl (h.onBurn id) fun _ _ ht => ht.refuseAsk

theorem clearLatch : (Machine.postNotice .latch (s.onBurn fun b =>
    { b with ackAwaited := false, relock := 0, latchReason := none })).bounded :=
  postNotice (h.onBurn fun _ => Nat.zero_le 2)

theorem ackStored : (ackStored s).bounded :=
  ite (ite (awaitMains (h.clearLatch.onBurn id))
    (ite (enterCooldown (h.clearLatch.onBurn id)) (goIdle (h.clearLatch.onBurn id)))) (h.onBurn id)

theorem burnAnswer {a} : (burnAnswer a s).bounded := by
  unfold Machine.burnAnswer
  split
  · exact h.ofNewest (fun _ h1 => h1.lockoutStored)
  · exact h.ofNewest (fun _ h1 => h1.lockoutRefused)
  · split
    · exact h.resetStored
    · exact h
  · exact h.resetRecordRefused
  · exact h
  · exact h.becomesOwed
  · exact h.owedStored
  · exact h.owedRefused
  · exact h.ackStored
  · exact h.onBurn id

theorem burnHoldBegins : (burnHoldBegins s).bounded := by
  unfold Machine.burnHoldBegins
  lift_lets
  intro t u
  have ht : t.bounded := h.postFiring.runAccumulator.onBurn id
  have hu : u.bounded := by
    dsimp only [u]
    split
    case h_6 => exact awaitMains (ht.onBurn id)
    case h_7 => exact ht.abandonReset
    case h_8 => exact ht
    all_goals exact ht.burnTo
  exact endResetTask (stopOverrun (hu.onBurn id))

theorem burnMinute : (burnMinute s).bounded := heldMinute (askOwed (h.onBurn id))

theorem burnSeesValve : (burnSeesValve s).bounded :=
  h.runAccumulator.runawayIfIdle.ite h.runAccumulator

theorem proveExpires : (proveExpires s).bounded :=
  ite (endResetTask (postNotice (askAll (h.onBurn fun _ => Nat.zero_le 2))))
    (postNotice (askAll (h.onBurn fun _ => Nat.zero_le 2)))

theorem settle : (settle s).bounded := h.takeAnswers fun _ _ ht => ht.burnAnswer

theorem deriveBurner : (deriveBurner s).bounded :=
  burnSeesValve (ite (postNotice (burnTo (h.onPosts.onBurn id))) (ite (enterLocked (h.onPosts.onBurn
    id)) (goIdle (h.onPosts.onBurn id))))

theorem lampRiseIn : (lampRiseIn s).bounded := by
  unfold Machine.lampRiseIn
  split
  · exact ite (h.onBurn id) h
  · exact ite (h.onBurn id) h
  · exact h.enterLocked.ite h

theorem burnLampRise : (burnLampRise s).bounded := h.findStopping.lampRiseIn

theorem pulseExpires : (pulseExpires s).bounded :=
  ite (h.endPulse.onBurn id) h.endPulse.resetSucceeds

theorem burnHoldEnds : (burnHoldEnds s).bounded := burnSeesValve (burnStateHoldEnds (h.onBurn id))

theorem takeAck : (takeAck s).bounded := by
  unfold Machine.takeAck
  split
  · exact ite h (askAll (h.onBurn id))
  · exact h

theorem cooldownExpires : (cooldownExpires s).bounded := by
  unfold Machine.cooldownExpires
  lift_lets
  intro t
  have ht : t.bounded := h.onBurn id
  split
  · exact ht.beginReset
  · split
    · exact ht.beginReset.ite (ht.endResetTask.evaluateUntasked.ite
        (ht.beginReset.ite ht.endResetTask.evaluateUntasked))
    · exact ht.evaluateUntasked

theorem restoreBurn : (restoreBurn s).bounded := h.onBurn fun _ => min_le_right _ _

theorem checkExpires : (checkExpires s).bounded :=
  ite (enterLatched (endResetTask (askAll (raiseRelock (h.onBurn id))))) (enterCooldown
    (endResetTask (askAll (raiseRelock (h.onBurn id)))))

theorem evaluatePump : (evaluatePump s).bounded := h.ite h.onOut.postPump

theorem resolveChannel {ch} : (resolveChannel ch s).bounded :=
  h.ite (h.onChan.evaluatePump.ite h.onChan)

theorem tellLoad {ch new} : (tellLoad ch new s).bounded := by
  unfold Machine.tellLoad
  split
  · exact h.zoneChannelFault.ite h
  · exact ite h.setReason (ite (h.onBurn id) h)

theorem setLoad {ch new} : (setLoad ch new s).bounded :=
  h.ite (h.onChan.postNotice.tellLoad.evaluatePump.ite h.onChan.postNotice.tellLoad)

theorem judgeHigh {ch} : (judgeHigh ch s).bounded := h.onChan.setLoad.resolveChannel.ite h.onChan

theorem judgeLeaking {ch} : (judgeLeaking ch s).bounded := h.onChan.setLoad.ite h.onChan

theorem resolveAll : (resolveAll s).bounded := h.eachChannel (fun _ _ h1 => h1.resolveChannel)

theorem outHoldEnds : (outHoldEnds s).bounded :=
  (h.eachChannel (fun _ _ h1 => h1.onChan)).resolveAll

theorem clearAllCounts : (clearAllCounts s).bounded := h.eachChannel (fun _ _ h1 => h1.onChan)

theorem outTakesMeasureFault {set} : (outTakesMeasureFault set s).bounded :=
  h.clearAllCounts.evaluatePump.ite h.clearAllCounts

theorem judgeLow {ch} : (judgeLow ch s).bounded := by
  unfold Machine.judgeLow
  split
  · exact h.onChan.setLoad.ite h.onChan
  · exact h.onChan

theorem judgeWithin {ch} : (judgeWithin ch s).bounded := h.onChan.setLoad.ite h.onChan

theorem judgeQuiet {ch} : (judgeQuiet ch s).bounded := h.onChan.setLoad.ite h.onChan

theorem judge {ch ma} : (judge ch ma s).bounded :=
  (h.judgeLow.ite (h.judgeHigh.ite h.judgeWithin)).ite (h.judgeLeaking.ite h.judgeQuiet)

theorem countOverrides : (countOverrides s).bounded := h.eachChannel (fun _ _ h1 => h1.onChan)

theorem setOverride {ch o} : (setOverride ch o s).bounded := h.onChan.resolveChannel

theorem takeCurrent {ch ma} : (takeCurrent ch ma s).bounded := h.ite (h.onChan.ite (h.ite h.judge))

theorem outTakesPass : (outTakesPass s).bounded :=
  (h.eachChannel (fun _ _ h1 => h1.takeCurrent)).evaluatePump

theorem outHoldBegins : (outHoldBegins s).bounded := h.resolveAll.clearAllCounts

theorem setMode {m cause} : (setMode m cause s).bounded :=
  h.ite h.onOut.postNotice.zonesTakeMode.resolveAll

theorem takeDemand {ch v} : (takeDemand ch v s).bounded := h.ite h.onChan.resolveChannel

theorem clearTrip {ch} : (clearTrip ch s).bounded := h.onChan.setLoad.resolveChannel

theorem tellMeasureFault {v} : (tellMeasureFault v s).bounded :=
  postNotice (evaluateBoilerFrost (evaluateOverheat (ite (gaugeTakesMeasureFault
    (outTakesMeasureFault (h.onScan id))) (outTakesMeasureFault (h.onScan id)))))

theorem writeRecords {p} : (writeRecords p s).bounded :=
  ite (postNotice (h.onScan id)) (h.onScan id)

theorem settleVerdict {pass} : (settleVerdict pass s).bounded :=
  ite (ite (ite (tellMeasureFault (h.onScan id)) (h.onScan id)) (h.onScan id)) (ite (h.onScan id)
    (tellMeasureFault (h.onScan id)))

theorem settleTest {ref p} : (settleTest ref p s).bounded :=
  ite (settleVerdict (h.onScan fun _ => Nat.zero_le 449)) (h.onScan fun _ => min_le_right _ _)

theorem endSelfTest : (endSelfTest s).bounded := by
  unfold Machine.endSelfTest
  dsimp only
  split
  · split
    · next r _ _ =>
      exact endTask (fillBuffer (h.onScan id) (by simp [selfTestResult, byte16, byte32, byte8,
        flag]))
    · exact endTask (h.onScan id)
  · exact h

theorem offerPass : (offerPass s).bounded :=
  h.outTakesPass.gaugeTakesPass.evaluateLineHeat.burnTakesFlow.evaluateBoilerFrost

theorem completePass {p} : (completePass p s).bounded := by
  unfold Machine.completePass
  split
  · exact settle (endSelfTest (offerPass (writeRecords (settleTest (h.onScan id)))))
  · exact h

theorem startPass : (startPass s).bounded := h.onScan id

theorem tellHoldEnds : (tellHoldEnds s).bounded :=
  (lookAtRotation ((zonesHoldEnds (h.outHoldEnds.tellBurn fun _ ht => ht.burnHoldEnds)).onGauge
    (holdEnds_window_le _))).settle

theorem endHold : (endHold s).bounded := h.onSupply.appendRecord.postNotice.tellHoldEnds

theorem drainHeat : (drainHeat s).bounded := h.onPosts.foldl (fun _ _ h1 => h1.burnTakesHeat)

theorem drainPump : (drainPump s).bounded := h.onPosts.foldl (fun _ _ h1 => h1.burnTakesPump)

theorem drainFirst {order} : (drainFirst order s).bounded := by
  unfold Machine.drainFirst
  split
  · exact h
  · exact h.drainHeat
  · exact h.drainPump

theorem burnTakesHold {order} : (burnTakesHold order s).bounded := h.drainFirst.burnHoldBegins

theorem tellHoldBegins {order} : (tellHoldBegins order s).bounded :=
  settle (tellBurn (h.outHoldBegins.zonesHoldBegins.onGauge (holdBegins_window_le _)) fun _ ht =>
    ht.burnTakesHold)

theorem beginHold {order} : (beginHold order s).bounded := h.onSupply.postNotice.tellHoldBegins

theorem mainsFalls {order} : (mainsFalls order s).bounded := (h.onSupply.ite h.beginHold).ite h

theorem mainsRises : (mainsRises s).bounded := h.onSupply.ite h

theorem clearFresh {g} : (Reading.clearFresh g s).bounded := by
  unfold Machine.Reading.clearFresh
  dsimp only
  split
  · exact h.onScan id
  · exact h.onScan id
  · exact h.onScan id
  · exact h.onScan id
  · exact h
  · exact h
  · exact h
  · exact h

theorem bindingChanged {z} : (bindingChanged z s).bounded :=
  h.resetView.rebindNodes.deriveTarget.evaluateCall.formOutputs

theorem loadSettings : (loadSettings s).bounded := by
  unfold Machine.loadSettings
  split
  · exact h.onSett
  · exact h.onSett.postNotice

theorem reloadSilence : (reloadSilence s).bounded := ite (h.onLink id id) h

theorem sinkChanged {old} : (sinkChanged old s).bounded := h.driveSink.driveSink.formOutputs.ite h

theorem targetsChanged {z} : (targetsChanged z s).bounded := h.deriveTarget.evaluateCall.formOutputs

theorem changeEffect {old p} : (changeEffect old p s).bounded := by
  unfold Machine.changeEffect
  split
  · exact h.reloadSilence
  · exact h
  · exact h.sinkChanged
  · exact h.bindingChanged
  · exact h.bindingChanged
  · exact h.bindingChanged
  · exact h.targetsChanged
  · exact h.targetsChanged
  · exact h.targetsChanged
  · exact h.targetsChanged
  · exact h.targetsChanged
  · exact h
  · exact h.modeChanged.formOutputs.ite h
  · exact h.resolveChannel
  · exact h.resolveChannel
  · exact h.onChan
  · exact h.onChan
  · exact h.evaluateHeld.settle
  · exact h.evaluateHeld.settle
  · exact h
  · exact h.onGauge fun _ => Nat.zero_le 5
  · exact h.onGauge fun _ => Nat.zero_le 5
  · exact h.onGauge fun _ => Nat.zero_le 5
  · exact h
  · exact h
  · exact h.restartPeriod
  · exact h.computeStage
  · exact h.computeStage
  · exact h.computeStage
  · exact h
  · exact h
  · exact h

theorem beforeChange {p} : (beforeChange p s).bounded := h.postFiring.ite h

theorem storeWorking {w} : (storeWorking w s).bounded := h.onSett

theorem storeParam {p v} : (storeParam p v s).bounded :=
  h.ite h.beforeChange.storeWorking.changeEffect

theorem storeChecked {p v} : (storeChecked p v s).1.bounded := iteFst h.storeParam h

theorem setValue {p v} : (setValue p v s).1.bounded := iteFst h (iteFst h (iteFst h h.storeChecked))

theorem setRequest {payload} : (setRequest payload s).1.bounded := by
  unfold Machine.setRequest
  split
  · split
    · exact h
    · split
      · exact h
      · exact h.setValue
  · exact h

theorem getRequest {payload} : (getRequest payload s).1.bounded := by
  unfold Machine.getRequest
  split
  · split
    · exact h.clearFresh
    · split <;> exact h
  · exact h

theorem setLevel {x v} : (setLevel x v s).bounded := h.onInputs

theorem zonesBegin : (zonesBegin s).bounded :=
  (h.eachZone (fun _ _ h1 => ((h1.onZone.ite h1).onZone).evaluateCall)).formOutputs

theorem handSupply {mains} : (handSupply mains s).bounded := h.onSupply

theorem supplyBegins : (supplyBegins s).bounded := h.postNotice.ite h

theorem linkBegins : (linkBegins s).bounded := h.onLink id id

theorem fuelBegins : (fuelBegins s).bounded := h.restartPeriod.onFuel id

theorem takeLastDemand {ch} : (takeLastDemand ch s).bounded := by
  unfold Machine.takeLastDemand
  split
  · exact h.onChan.onPosts
  · exact h

theorem outBegins : (outBegins s).bounded :=
  (h.eachChannel (fun _ _ h1 => h1.takeLastDemand)).resolveAll

theorem beginWork : (beginWork s).bounded :=
  settle <| askMissingLatch <| supplyBegins <| linkBegins <| fuelBegins <| openPollSlot <|
    zonesBegin <| outBegins <| startPass h.withPhase

theorem beginScan : (beginScan s).bounded :=
  h.withPhase.onStoreNoMore queuesNoMore_startScan

theorem handSettings : (handSettings s).bounded := by
  refine h.loadSettings.foldl fun t n ht => ?_
  split
  · exact ht.bindNode
  · exact ht

theorem holdEdge {x v} : (holdEdge x v s).bounded := h.onInputs.ite h

theorem handHistory : (handHistory s).bounded := h.restoreGauge.restoreFuel.restoreBurn

theorem supplyTakesHeld {x} : (supplyTakesHeld s x).bounded := by
  unfold Machine.supplyTakesHeld
  split
  · exact h.setLevel.mainsRises.ite h.setLevel.mainsFalls
  · exact h

theorem handMains : (handMains s).bounded := h.takeHeld (fun _ _ h1 => h1.supplyTakesHeld)

theorem handRest : (handRest s).bounded := by
  unfold Machine.handRest
  split
  · exact h.handSupply.handHistory.withPhase.lookAtRotation.handMains
  · exact h.withPhase

theorem handTime : (handTime s).bounded := ite h (h.onStore id id)

theorem handOver : (handOver s).bounded := h.handTime.handSettings.handRest.ite (h.handRest.ite h)

theorem burnTakesHeld {x} : (burnTakesHeld s x).bounded := by
  unfold Machine.burnTakesHeld
  split
  · exact h.setLevel.outsideHold fun _ ht => (ite ht.burnLampRise ht.burnLampFall).settle
  · exact h.setLevel.outsideHold fun _ ht => ite ht.valveRises ht.valveFalls
  · exact h
  · exact (ite h.burnHoldBegins h.burnHoldEnds).settle

theorem deriveAndFollow : (deriveAndFollow s).bounded :=
  (h.deriveBurner.settle.takeHeld (fun _ _ h1 => h1.burnTakesHeld)).withPhase

theorem takeFirstLevel {x v} : (takeFirstLevel x v s).bounded := h.setLevel.onSvc.ite h.setLevel

theorem resumeRequest {payload} : (resumeRequest payload s).1.bounded := by
  unfold Machine.resumeRequest
  split
  · split
    · exact h.setMode
    · exact h
  · exact h

theorem overrideExpires {ch} : (overrideExpires ch s).bounded := by
  unfold Machine.overrideExpires
  split
  · exact h.setOverride
  · exact h

theorem deliverDemand {ch} : (deliverDemand ch s).bounded := by
  unfold Machine.deliverDemand
  split
  · exact h
  · exact h.onPosts.takeDemand

theorem takeOverride {ch v m} : (takeOverride ch v m s).1.bounded := h.setOverride

theorem overrideChannel {ch v m} : (overrideChannel ch v m s).1.bounded := by
  unfold Machine.overrideChannel
  split
  · exact h
  · split
    · exact h.takeOverride
    · exact h.takeOverride
    · exact h.setOverride
    · exact h

theorem overrideRequest {payload} : (overrideRequest payload s).1.bounded := by
  unfold Machine.overrideRequest
  split
  · split
    · exact h.overrideChannel
    · exact h
  · exact h

theorem takeSelftest : (takeSelftest s).1.bounded := onLink (h.startTask.onScan id) id id

theorem selftestRequest {payload} : (selftestRequest payload s).1.bounded := by
  unfold Machine.selftestRequest
  split
  · exact h.unlessBusy fun _ h1 => h1.unlessHeld fun _ h2 => h2.takeSelftest
  · exact h

theorem clearTripChannel {ch} : (clearTripChannel ch s).1.bounded :=
  iteFst h (iteFst h (iteFst h h.clearTrip))

theorem silenceExpires : (silenceExpires s).bounded := ite (setMode (h.onLink id id)) h

theorem clearTripRequest {payload} : (clearTripRequest payload s).1.bounded := by
  unfold Machine.clearTripRequest
  split
  · split
    · exact h.clearTripChannel
    · exact h
  · exact h

theorem takeMiss {n z} : (takeMiss n z s).bounded :=
  h.onNode.ite (h.onNode.onNode.postNotice.zoneLosesNode.ite
    (h.onNode.onNode.ite h.onNode.onNode.zoneHasNoReport))

theorem endBreaks {z} : (endBreaks z s).bounded := by
  unfold Machine.endBreaks
  split
  · exact h
  · split
    · exact h.enterIdle.formOutputs
    · exact h.enterFault.formOutputs
    · exact h.enterFault.formOutputs
    · exact h

theorem endMakes {z} : (endMakes z s).bounded := h.ite (h.zoneTo.formOutputs.ite h)

theorem travelExpires {z} : (travelExpires z s).bounded := by
  unfold Machine.travelExpires
  split
  · exact h.enterFault.formOutputs
  · exact h.enterFault.formOutputs
  · exact h

theorem hostWrite {n i v} : (hostWrite n i v s).1.bounded := by
  unfold Machine.hostWrite
  split
  · exact h
  · split
    · next hq => exact h.onLoop fun hle => length_queueWrite_le hle hq
    · exact h

theorem setHostMode {z m} : (setHostMode z m s).bounded :=
  h.onZone.modeChanged.formOutputs.ite h.onZone

theorem zoneModeRequest {payload} : (zoneModeRequest payload s).1.bounded := by
  unfold Machine.zoneModeRequest
  split
  · split
    · exact h.setHostMode
    · exact h
  · exact h

theorem writeEnds {acknowledged} : (writeEnds acknowledged s).bounded := by
  unfold Machine.writeEnds
  split
  · exact (h.ite h.writeOutcome).openPollSlot
  · exact h

theorem goodReport {n z r} : (goodReport n z r s).bounded :=
  ((h.onNode.postNotice.ite h.onNode).zoneTakesReport).queueStaleItems

theorem pollResult {n ans} : (pollResult n ans s).bounded := by
  unfold Machine.pollResult
  split
  · exact h
  · exact h.goodReport
  · exact h.takeMiss

theorem blindAt {z p} : (blindAt z p s).bounded := h.onZone.evaluateCall.formOutputs

theorem statWriteRequest {payload} : (statWriteRequest payload s).1.bounded := by
  unfold Machine.statWriteRequest
  split
  · split
    · exact iteFst h.hostWrite h
    · exact h
  · exact h

theorem deliverOverrun : (deliverOverrun s).bounded := by
  unfold Machine.deliverOverrun
  split
  · exact h
  · exact h.onPosts.zonesTakeOverrun

theorem pollEnds {ans} : (pollEnds ans s).bounded := by
  unfold Machine.pollEnds
  split
  · exact (h.ite h.pollResult).slotAfterPoll
  · exact h

theorem retryExpires {z} : (retryExpires z s).bounded := by
  unfold Machine.retryExpires
  dsimp only
  split
  · exact (ite h.zoneTo.postNotice.writeToZoneNode.enterOpening
      h.zoneTo.postNotice.writeToZoneNode).formOutputs
  · exact h

theorem deliverStage {who} : (deliverStage who s).bounded := by
  unfold Machine.deliverStage
  split
  · split
    · exact h
    · exact h.onPosts.burnTakesStage
  · split
    · exact h
    · exact h.onPosts.zonesTakeStage
  · split
    · exact h
    · exact h.onPosts.loopTakesStage

theorem stopExpires : (stopExpires s).bounded :=
  goIdle (ite (setRunaway (h.onBurn id)) (h.onBurn id))

theorem pressEdge : (pressEdge s).bounded := h.onSvc.ite h

theorem holdExpires : (holdExpires s).bounded :=
  (h.onSvc.ifBurning (fun _ h1 => h1.takeAck.settle)).ite h.onSvc

theorem takeBurnerReset {o} : (takeBurnerReset o s).1.bounded :=
  ite (settle (beginReset (h.startTask.onBurn id))) (h.startTask.onBurn id)

theorem burnerResetAnswer : (burnerResetAnswer s).1.bounded :=
  iteFst h <| iteFst h <| iteFst h <| iteFst h <| iteFst h.takeBurnerReset <|
    iteFst h <| iteFst h h.takeBurnerReset

theorem releaseEdge : (releaseEdge s).bounded :=
  (h.onSvc.ifBurning (fun _ h1 => h1.takePress.settle)).ite h.onSvc

theorem deliverHeat : (deliverHeat s).bounded := by
  unfold Machine.deliverHeat
  split
  · exact h
  · exact h.onPosts.burnTakesHeat

theorem deliverPump : (deliverPump s).bounded := by
  unfold Machine.deliverPump
  split
  · exact h
  · exact h.onPosts.burnTakesPump

theorem windowExpires1440 : (windowExpires1440 s).bounded :=
  ite h (settle (evaluateHeld (h.onBurn id)))

theorem burnerResetRequest {payload} : (burnerResetRequest payload s).1.bounded := by
  unfold Machine.burnerResetRequest
  split
  · exact h.unlessBusy fun _ ht => ht.burnerResetAnswer
  · exact h

theorem clearLeakAnswer : (clearLeakAnswer s).1.bounded :=
  iteFst (appendRecord (clearLeakFlag (h.onFuel id))) h

theorem clearLeakRequest {payload} : (clearLeakRequest payload s).1.bounded := by
  unfold Machine.clearLeakRequest
  split
  · exact h.clearLeakAnswer
  · exact h

theorem tableBeginAnswer {n check} : (tableBeginAnswer n check s).1.bounded :=
  iteFst h (iteFst h (iteFst h.beginLoad h.startTask.beginLoad))

theorem tableBeginRequest {payload} : (tableBeginRequest payload s).1.bounded := by
  unfold Machine.tableBeginRequest
  split
  · exact iteFst h.tableBeginAnswer (h.unlessBusy fun _ ht => ht.tableBeginAnswer)
  · exact h

theorem settlingTimesOut : (settlingTimesOut s).bounded := by
  unfold Machine.settlingTimesOut
  split
  · exact h.finishSettling.ite h
  · exact h

theorem takeTrendEntry : (takeTrendEntry s).bounded :=
  ite (h.addTrendEntry.onLink (by rw [followMoves_serial]; exact id)
    (by rw [followMoves_content]; exact id)) h

theorem tableRowsAnswer {first ps} : (tableRowsAnswer first ps s).1.bounded := by
  unfold Machine.tableRowsAnswer
  split
  · exact iteFst h (iteFst h (iteFst h (h.onGauge id)))
  · exact h

theorem takePeriodEnd : (takePeriodEnd s).bounded := h.periodEnds.ite h

theorem tableRowsRequest {payload} : (tableRowsRequest payload s).1.bounded := by
  unfold Machine.tableRowsRequest
  split
  · split
    · exact h.tableRowsAnswer
    · exact h
  · exact h

theorem takeDuePass : (takeDuePass s).bounded := by
  unfold Machine.takeDuePass
  split
  · exact takeDue (h.onGauge id)
  · exact h

theorem finishLoad {l} : (finishLoad l s).bounded := by
  unfold Machine.finishLoad
  split
  · exact h.replaceTable.endLoad
  · exact h.endLoad

theorem tableEndRequest {payload} : (tableEndRequest payload s).1.bounded := by
  unfold Machine.tableEndRequest
  split
  · split
    · exact h.finishLoad
    · exact h
  · exact h

theorem takeHistoryRead {start count} : (takeHistoryRead start count s).1.bounded :=
  settle (kick (onStore (h.startTask.onLink id id) id fun _ _ hr => by cases hr; exact
    fixRead_count_le))

theorem historyAnswer {start count} : (historyAnswer start count s).1.bounded :=
  iteFst h h.takeHistoryRead

theorem historyRequest {payload} : (historyRequest payload s).1.bounded := by
  unfold Machine.historyRequest
  split
  · exact h.unlessBusy fun _ h1 => h1.unlessHeld fun _ h2 => h2.historyAnswer
  · exact h

theorem setClockRequest {payload} : (setClockRequest payload s).1.bounded := by
  unfold Machine.setClockRequest
  split
  · exact iteFst h (h.onStore id id)
  · exact h

theorem takeKeep : (takeKeep s).1.bounded := settle (kick (h.startTask.onStore id id))

theorem keepRequest {payload} : (keepRequest payload s).1.bounded := by
  unfold Machine.keepRequest
  split
  · exact h.unlessBusy fun _ ht => ht.takeKeep
  · exact h

theorem zonesMinute : (zonesMinute s).bounded := h.eachZone (fun _ _ h1 => h1.onZone)

theorem blocksMinute : (blocksMinute s).bounded :=
  settle (whenRunning (ifBurning (whenRunning (ite h.lookAtRotation h) fun _ ht =>
    ht.countOverrides.zonesMinute) fun _ ht => ht.burnMinute) fun _ ht => ht.onFuel id)

theorem beginNotice : (beginNotice s).bounded := by
  unfold Machine.beginNotice
  split
  · exact h.onLink id id
  · exact h

theorem sendNext : (sendNext s).bounded := h.beginReply.beginNotice

theorem releaseBuffer : (releaseBuffer s).bounded := h.onLink id fun _ => Nat.zero_le 512

theorem statusClears : (statusClears s).bounded := onStore (h.onLink id id) id id

theorem statusRequest {payload} : (statusRequest payload s).1.bounded := by
  unfold Machine.statusRequest
  split
  · exact h.statusClears
  · exact h

theorem trendFill {start count wrap follow} : (trendFill start count wrap follow s).bounded :=
  onLink (h.fillBuffer (length_trendContent_le h.trend_le _ _ _)) id id

theorem nextAnswer {f} : (nextAnswer f s).1.bounded := h.trendFill

theorem nextRequest {payload} : (nextRequest payload s).1.bounded := by
  unfold Machine.nextRequest
  split
  · split
    · exact h.unlessHeld fun _ ht => ht.nextAnswer
    · exact h
  · exact h

theorem dropTask {k} : (dropTask k s).bounded := by
  unfold Machine.dropTask
  split
  · exact h.onScan id
  · exact h.onBurn id
  · exact h.onGauge id
  · exact h.dropReading.lookAtRotation
  · exact h.onStore id id

theorem trendAnswer {start count wrap follow} : (trendAnswer start count wrap follow s).1.bounded :=
  h.trendFill

theorem trendRequest {payload} : (trendRequest payload s).1.bounded := by
  unfold Machine.trendRequest
  split
  · exact iteFst (h.unlessHeld fun _ ht => ht.trendAnswer) h
  · exact h

theorem fetchAnswer {offset size release} : (fetchAnswer offset size release s).1.bounded := by
  unfold Machine.fetchAnswer
  split
  · exact h
  · split <;> exact h

theorem fetchRequest {payload} : (fetchRequest payload s).1.bounded := by
  unfold Machine.fetchRequest
  split
  · exact h.fetchAnswer
  · exact h

theorem abortAnswer : (abortAnswer s).1.bounded := by
  unfold Machine.abortAnswer
  split
  · exact h
  · exact iteFst h h.dropTask.endTask

theorem abortRequest {payload} : (abortRequest payload s).1.bounded := by
  unfold Machine.abortRequest
  split
  · exact h.abortAnswer
  · exact h

theorem identRequest {payload} : (identRequest payload s).1.bounded := by
  unfold Machine.identRequest
  split <;> exact h

theorem abandonFrame : (abandonFrame s).bounded := h.hunt.ite h

theorem startFrame : (startFrame s).bounded := ite (h.onLink id id) h.abandonFrame

theorem failFrame {bytes} : (failFrame bytes s).bounded := h.abandonFrame.ite h

theorem passMillisecond : (passMillisecond s).bounded :=
  ite h (onSvc (onLink (onSupply (onStore (onGauge (onBurn (onZoneBlock (h.onScan id)) id) id) id
    id)) id id))

theorem quiet : (quiet s).bounded := h.sendNext.ite h.passMillisecond

/-! ## Starts, frames and the transmit line -/

omit h in
/-- The sizes after a reset, whatever stood before. -/
theorem abandonAll {p} : (abandonAll p s).bounded :=
  ⟨Nat.zero_le 4, Nat.zero_le 8, Nat.zero_le 48, Nat.zero_le 5, Nat.zero_le 2, Nat.zero_le 449,
    Nat.zero_lt_succ _, Nat.zero_le 512, fun _ hnone => nomatch hnone⟩

omit h in
theorem loseSupply : (loseSupply s).bounded := abandonAll.onStore id id

omit h in
theorem beginRestart : (beginRestart s).bounded := abandonAll

omit h in
theorem orderedRestart : (orderedRestart s).bounded := beginRestart.beginScan

theorem takeFrame {f} (hf : ∀ t, t.bounded → (f t).1.bounded) : (takeFrame f s).bounded :=
  ite (onLink (h.onLink id id) id id) (beginReply (onLink (hf _ (h.onLink id id)) id id))

theorem request {payload f} (hf : ∀ t, t.bounded → (f payload t).1.bounded) :
    (request payload f s).bounded := ite (ite (h.takeFrame hf) h.hunt) h

theorem replySent {r} : (replySent r s).bounded :=
  ite orderedRestart (sendNext (ite (releaseBuffer (h.onLink id id)) (h.onLink id id)))

theorem transmitDone : (transmitDone s).bounded := by
  unfold Machine.transmitDone
  split
  · exact h.replySent
  · exact sendNext (h.onLink id id)

/-! ## Commands and steps -/

theorem exec (c : Instr) : ∃ t, exec c s = .next t ∧ t.bounded := by
  cases c with
  | powerOn => exact ⟨_, rfl, loseSupply.beginScan⟩
  | restart => exact ⟨_, rfl, ite h beginRestart⟩
  | resetNRelease => exact ⟨_, rfl, ite h.beginScan h⟩
  | firstLevel input high => exact ⟨_, rfl, ite h.takeFirstLevel h⟩
  | handOver => exact ⟨_, rfl, h.handOver⟩
  | burnerDerivation => exact ⟨_, rfl, ite h.deriveAndFollow h⟩
  | endOfStartUp => exact ⟨_, rfl, ite h.beginWork h⟩
  | scanPassStart => exact ⟨_, rfl, h.whenRunning fun _ ht => ite ht ht.startPass⟩
  | passCompletion counts => exact ⟨_, rfl, h.whenRunning fun _ ht => ht.completePass⟩
  | selftest payload => exact ⟨_, rfl, h.request fun _ ht => ht.selftestRequest⟩
  | jobDemandChange ch => exact ⟨_, rfl, h.whenRunning fun _ ht => ht.deliverDemand⟩
  | resume payload => exact ⟨_, rfl, h.request fun _ ht => ht.resumeRequest⟩
  | silenceTimerExpiry => exact ⟨_, rfl, h.whenRunning fun _ ht => ht.silenceExpires⟩
  | override payload => exact ⟨_, rfl, h.request fun _ ht => ht.overrideRequest⟩
  | overrideExpiry ch => exact ⟨_, rfl, h.whenRunning fun _ ht => ht.overrideExpires⟩
  | clearTrip payload => exact ⟨_, rfl, h.request fun _ ht => ht.clearTripRequest⟩
  | runMinute => exact ⟨_, rfl, ite (blocksMinute (h.onStore id id)) h⟩
  | windowStampExpiry => exact ⟨_, rfl, h.ifBurning fun _ ht => ht.windowExpires1440⟩
  | pollSlotEnd answer => exact ⟨_, rfl, h.whenRunning fun _ ht => ht.pollEnds⟩
  | writeSlotEnd acknowledged => exact ⟨_, rfl, h.whenRunning fun _ ht => ht.writeEnds⟩
  | statWrite payload => exact ⟨_, rfl, h.request fun _ ht => ht.statWriteRequest⟩
  | zoneMode payload => exact ⟨_, rfl, h.request fun _ ht => ht.zoneModeRequest⟩
  | blindCycleStart z => exact ⟨_, rfl, h.whenRunning fun _ ht => ite ht.blindAt ht⟩
  | blindDutyEnd z => exact ⟨_, rfl, h.whenRunning fun _ ht => ite ht.blindAt ht⟩
  | endMade z => exact ⟨_, rfl, h.edge fun _ h1 => h1.whenRunning fun _ h2 => h2.endMakes⟩
  | endBroken z => exact ⟨_, rfl, h.edge fun _ h1 => h1.whenRunning fun _ h2 => h2.endBreaks⟩
  | travelTimerExpiry z => exact ⟨_, rfl, h.whenRunning fun _ ht => ht.travelExpires⟩
  | faultRetryExpiry z => exact ⟨_, rfl, h.whenRunning fun _ ht => ht.retryExpires⟩
  | heatRequest => exact ⟨_, rfl, h.ifBurning fun _ ht => ht.deliverHeat⟩
  | pumpProven => exact ⟨_, rfl, h.ifBurning fun _ ht => ht.deliverPump⟩
  | overrunState => exact ⟨_, rfl, h.whenRunning fun _ ht => ht.deliverOverrun⟩
  | fuelStage takers =>
    exact ⟨_, rfl, h.whenRunning fun _ h1 => h1.foldl fun _ _ h2 => h2.deliverStage⟩
  | valveSenseRise =>
    exact ⟨_, rfl, h.edge fun _ h1 => h1.ifBurning fun _ h2 => h2.outsideHold fun _ h3 =>
      h3.valveRises⟩
  | valveSenseFall =>
    exact ⟨_, rfl, h.edge fun _ h1 => h1.ifBurning fun _ h2 => h2.outsideHold fun _ h3 =>
      h3.valveFalls⟩
  | ignitionWindowExpiry =>
    exact ⟨_, rfl, h.ifBurning fun _ ht => ite ht.windowExpires.settle ht⟩
  | stopTimerExpiry => exact ⟨_, rfl, h.ifBurning fun _ ht => ite ht.stopExpires ht⟩
  | antiCycleExpiry =>
    exact ⟨_, rfl, h.ifBurning fun _ ht => ite (removeReason (endTogether (ht.onBurn id))) ht⟩
  | noStartExpiry =>
    exact ⟨_, rfl, h.ifBurning fun _ ht => ite (removeReason (endTogether (ht.onBurn id))) ht⟩
  | overrunTimerExpiry =>
    exact ⟨_, rfl, h.ifBurning fun _ ht => ite ht.endTogether.stopOverrun ht⟩
  | accumulatorFull =>
    exact ⟨_, rfl, h.ifBurning fun _ ht => ite (postFiring (ht.onBurn id)) ht⟩
  | lockoutSenseRise =>
    exact ⟨_, rfl, h.edge fun _ h1 => h1.ifBurning fun _ h2 => h2.outsideHold fun _ h3 =>
      h3.burnLampRise.settle⟩
  | lockoutSenseFall =>
    exact ⟨_, rfl, h.edge fun _ h1 => h1.ifBurning fun _ h2 => h2.outsideHold fun _ h3 =>
      h3.burnLampFall.settle⟩
  | cooldownExpiry => exact ⟨_, rfl, h.ifBurning fun _ ht => ite ht.cooldownExpires.settle ht⟩
  | pulseTimerExpiry => exact ⟨_, rfl, h.ifBurning fun _ ht => ite ht.pulseExpires.settle ht⟩
  | checkTimerExpiry => exact ⟨_, rfl, h.ifBurning fun _ ht => ite ht.checkExpires.settle ht⟩
  | proveTimerExpiry => exact ⟨_, rfl, h.ifBurning fun _ ht => ite ht.proveExpires.settle ht⟩
  | burnerReset payload => exact ⟨_, rfl, h.request fun _ ht => ht.burnerResetRequest⟩
  | proofLimitExpiry => exact ⟨_, rfl, h.ifBurning fun _ ht => ite ht.endResetTask ht⟩
  | localResetPress => exact ⟨_, rfl, h.edge fun _ ht => ht.pressEdge⟩
  | holdTimerExpiry => exact ⟨_, rfl, ite h.holdExpires h⟩
  | localResetRelease => exact ⟨_, rfl, h.edge fun _ ht => ht.releaseEdge⟩
  | serviceKeyEdge =>
    refine ⟨_, rfl, ?_⟩
    split
    · exact ite h.setLevel h
    · exact h
  | duePass => exact ⟨_, rfl, h.whenRunning fun _ ht => ht.takeDuePass⟩
  | settlingTimeout => exact ⟨_, rfl, h.whenRunning fun _ ht => ht.settlingTimesOut⟩
  | periodEnd => exact ⟨_, rfl, h.whenRunning fun _ ht => ht.takePeriodEnd⟩
  | clearLeak payload => exact ⟨_, rfl, h.request fun _ ht => ht.clearLeakRequest⟩
  | trendEntry => exact ⟨_, rfl, h.whenRunning fun _ ht => ht.takeTrendEntry⟩
  | tableBegin payload => exact ⟨_, rfl, h.request fun _ ht => ht.tableBeginRequest⟩
  | tableRows payload => exact ⟨_, rfl, h.request fun _ ht => ht.tableRowsRequest⟩
  | tableEnd payload => exact ⟨_, rfl, h.request fun _ ht => ht.tableEndRequest⟩
  | inactivityTimerExpiry => exact ⟨_, rfl, h.whenRunning fun _ ht => ite ht.endLoad ht⟩
  | setClock payload => exact ⟨_, rfl, h.request fun _ ht => ht.setClockRequest⟩
  | programCompletion good => exact ⟨_, rfl, ite h.programDone.settle h⟩
  | eraseCompletion =>
    exact ⟨_, rfl, ite (h.onStoreNoMore queuesNoMore_scanErased) (ite h.eraseDone.settle h)⟩
  | historyRead payload => exact ⟨_, rfl, h.request fun _ ht => ht.historyRequest⟩
  | keep payload => exact ⟨_, rfl, h.request fun _ ht => ht.keepRequest⟩
  | mainsOkFall order => exact ⟨_, rfl, h.edge fun _ ht => ht.mainsFalls⟩
  | mainsOkRise => exact ⟨_, rfl, h.edge fun _ ht => ht.mainsRises⟩
  | returnTimerExpiry => exact ⟨_, rfl, ite h.endHold h⟩
  | interByteGap => exact ⟨_, rfl, h.whenRunning fun _ ht => ht.abandonFrame⟩
  | unknownKind kind payload => exact ⟨_, rfl, h.request fun _ ht => ht⟩
  | ident payload => exact ⟨_, rfl, h.request fun _ ht => ht.identRequest⟩
  | status payload => exact ⟨_, rfl, h.request fun _ ht => ht.statusRequest⟩
  | getParam payload => exact ⟨_, rfl, h.request fun _ ht => ht.getRequest⟩
  | setParam payload => exact ⟨_, rfl, h.request fun _ ht => ht.setRequest⟩
  | restartOrder => exact ⟨_, rfl, h.request fun _ ht => ht.setRequest⟩
  | trendRead payload => exact ⟨_, rfl, h.request fun _ ht => ht.trendRequest⟩
  | nextTrend payload => exact ⟨_, rfl, h.request fun _ ht => ht.nextRequest⟩
  | fetch payload => exact ⟨_, rfl, h.request fun _ ht => ht.fetchRequest⟩
  | abort payload => exact ⟨_, rfl, h.request fun _ ht => ht.abortRequest⟩
  | transmitComplete => exact ⟨_, rfl, h.whenRunning fun _ ht => ht.transmitDone⟩
  | startByte => exact ⟨_, rfl, h.whenRunning fun _ ht => ht.startFrame⟩
  | abandonedFrame bytes => exact ⟨_, rfl, h.whenRunning fun _ ht => ht.failFrame⟩
  | lossOfSupply => exact ⟨_, rfl, loseSupply⟩

theorem exec_next {c : Instr} (e : Machine.exec c s = .next t) : t.bounded := by
  obtain ⟨u, hu, hbounded⟩ := h.exec c
  rw [hu] at e
  cases e
  exact hbounded

/-- Every step keeps the nine sizes within their bounds. -/
theorem step (e : step s = .next t) : t.bounded := by
  unfold Machine.step idleStep at e
  split at e
  · exact h.withPending.exec_next e
  · split at e
    · exact h.exec_next e
    · cases e; exact h.quiet

end State.bounded

/-- Settles O11: every command keeps the bounds, and so does a millisecond with nothing due. -/
theorem everyStepKeepsBounds : Obligations.EveryStepKeepsBounds :=
  fun _ _ h e => h.step e

end Sys2Proof.Machine
end

section
/-! PROOF. The invariants at reset (O12). -/

namespace Sys2Proof.Machine

theorem reset_outputsByTable : State.reset.outputsByTable := by
  unfold State.outputsByTable
  decide

theorem reset_callsUninhibited : State.reset.callsUninhibited := nofun

theorem reset_demandsTold : State.reset.demandsTold := by
  unfold State.demandsTold
  decide

theorem reset_plantFormed : State.reset.plantFormed := by
  unfold State.plantFormed
  decide

theorem reset_callsFormed : State.reset.callsFormed := by
  unfold State.callsFormed
  decide

/-- Every zone is IDLE at reset (R61). -/
theorem reset_zone_idle (z : Fin 6) : State.reset.zone.zones[z].state = .idle := by
  revert z
  decide

theorem reset_oneHold : State.reset.oneHold := fun z _ hz _ => by
  rw [reset_zone_idle z] at hz
  cases hz

theorem reset_bounded : State.reset.bounded :=
  ⟨Nat.zero_le 4, Nat.zero_le 8, Nat.zero_le 48, Nat.zero_le 5, Nat.zero_le 2, Nat.zero_le 449,
    Nat.zero_lt_succ _, Nat.zero_le 512, nofun⟩

/-- Settles O12, one lemma for each invariant. -/
theorem resetMeetsTheInvariants : Obligations.ResetMeetsTheInvariants :=
  ⟨reset_outputsByTable, reset_callsUninhibited, reset_demandsTold, reset_plantFormed,
    reset_callsFormed, reset_oneHold, reset_bounded⟩

end Sys2Proof.Machine
end

section
/-! PROOF. A millisecond with nothing due (O2). -/

namespace Sys2Proof.Machine

/-! ## One millisecond for each block -/

@[simp] theorem tick_eq (t : Timer) : t.tick = t.map (· - 1) := rfl

theorem zoneTick_blindPos (zn : Zone) :
    zn.tick.blindPos = zn.blindPos + (if zn.sighted = .blind then 1 else 0) := by
  simp only [Zone.tick]
  split <;> rfl

theorem burnTick_accMs (s : State) : (s.burn.tick s.valveOpen).accMs = s.burn.accMs
    + (if s.burn.accRunning = true ∧ s.inputs.valve = some true then 1 else 0) := by
  simp only [Burn.tick, Burn.gaining, State.valveOpen, Bool.and_eq_true, beq_iff_eq]
  split <;> rfl

theorem storeTick_timebase (st : Store) :
    st.tick.timebase = st.timebase + (if st.minutesSet then 1 else 0) := by
  simp only [Store.tick]
  split <;> rfl

theorem storeTick_erasing {st : Store} {e : Erase} {n : Nat} (h : st.array = .erasing e n) :
    st.tick.array = .erasing e (n - 1) := by
  simp only [Store.tick, h, countDown]

theorem storeTick_notErasing {st : Store} (h : ∀ e n, st.array ≠ .erasing e n) :
    st.tick.array = st.array := by
  unfold Store.tick
  dsimp only
  split
  · next e n he => exact absurd he (h e n)
  · rfl

/-- Taking the load from a gauge that holds none changes nothing. -/
theorem gauge_withoutLoad {g : Gauge} (h : g.load = none) : { g with load := none } = g := by
  cases g
  cases h
  rfl

theorem step_quiet {s : State} (hpending : s.pending = []) (hdue : dueCommands s = [])
    (hsend : s.canSend = false) : step s = .next (passMillisecond s) := by
  simp [step, hpending, idleStep, hdue, quiet, hsend]

theorem passMillisecond_powered {s : State} (h : s.phase ≠ .unpowered) :
    passMillisecond s = { s with
      scan := { s.scan with passTimer := s.scan.passTimer.tick }
      zone := { s.zone with zones := s.zone.zones.map Zone.tick }
      burn := s.burn.tick s.valveOpen
      gauge := { s.gauge with load := s.gauge.load.map fun l => { l with timer := l.timer.tick } }
      store := s.store.tick
      supply := { s.supply with returnTimer := s.supply.returnTimer.tick }
      link := { s.link with silence := s.link.silence.tick }
      svc := { s.svc with holdTimer := s.svc.holdTimer.tick } } := by
  rw [passMillisecond, if_neg h]
  rfl

theorem passMillisecond_changesOnly (s : State) :
    s.changesOnly [.scan, .zone, .burn, .gauge, .store, .supply, .link, .svc] (passMillisecond s) :=
  hide_eq_iff.1 (by simp)

/-- Settles O2: the step is `passMillisecond`, block by block. -/
theorem quietStepPassesOneMillisecond : Obligations.QuietStepPassesOneMillisecond := by
  intro s hpending hdue hsend hphase
  refine ⟨_, step_quiet hpending hdue hsend, passMillisecond_changesOnly s, ?_⟩
  rw [passMillisecond_powered hphase]
  refine ⟨rfl, fun z => ?_, rfl, ?_, fun l hl => ?_, fun hl => ?_, storeTick_timebase _,
    fun _ _ => storeTick_erasing, storeTick_notErasing, rfl, rfl, rfl, rfl⟩
  · simp only [Fin.getElem_fin, Vector.getElem_map, ← zoneTick_blindPos]
    unfold Zone.tick
    congr 1
    cases s.zone.zones[z.val].timer <;> rfl
  · rw [← burnTick_accMs]
    rfl
  · rw [hl]
    rfl
  · rw [hl]
    exact gauge_withoutLoad hl

end Sys2Proof.Machine
end

section
/-! PROOF. How either start begins (O13). -/

namespace Sys2Proof.Machine

/-! ## What a reset leaves of the record area -/

theorem cutProgram_eq (tears : Bool) (opens : Option (Fin 4)) (st : Store) :
    st.cutProgram tears opens = { st with sectors := (st.cutProgram tears opens).sectors } := by
  unfold Store.cutProgram
  split
  · split <;> rfl
  · rfl
  · rfl

/-- A reset changes nothing of STORE but the sectors. -/
theorem cutArray_store (s : State) :
    (cutArray s).store = { s.store with sectors := (cutArray s).store.sectors } := by
  unfold cutArray
  dsimp only
  split
  · next i _ => exact cutProgram_eq (Config.cutTearsHeader s.free) (some i) s.store
  · next i _ => exact cutProgram_eq (Config.cutTearsHeader s.free) (some i) s.store
  · exact cutProgram_eq false none s.store
  · exact cutProgram_eq false none s.store
  · rfl

/-- A program that opens a sector tears its header or leaves it one bad slot (log entry 19). -/
theorem cutProgram_opens (tears : Bool) (i : Fin 4) (st : Store) :
    (st.cutProgram tears (some i)).sectors = st.sectors.set i ⟨.torn, []⟩
      ∨ (st.cutProgram tears (some i)).sectors
        = st.sectors.set i ⟨.valid st.nextSeq, [.bad]⟩ := by
  cases tears
  · exact .inr rfl
  · exact .inl rfl

/-- A program in the head leaves it a bad slot (R142). -/
theorem cutProgram_head {st : Store} {h : Fin 4} (hhead : st.head = some h) :
    (st.cutProgram false none).sectors = st.sectors.set h
      { st.sectors[h] with slots := st.sectors[h].slots ++ [.bad] } := by
  simp [Store.cutProgram, hhead]

theorem cutArray_cutShort (s : State) : s.store.cutShort (cutArray s).store.sectors := by
  unfold cutArray Store.cutShort
  dsimp only
  split
  · next harray => simpa [harray] using cutProgram_opens _ _ s.store
  · next harray => simpa [harray] using cutProgram_opens _ _ s.store
  · next harray => exact ⟨fun _ _ _ => cutProgram_head, by simp [harray], by simp [harray]⟩
  · next harray => exact ⟨fun _ _ _ => cutProgram_head, by simp [harray], by simp [harray]⟩
  · next hopens hcarryOpens happend hcarry =>
    refine ⟨?_, ?_, fun _ => rfl⟩
    · rintro r h (harray | harray)
      · exact absurd harray (happend r)
      · exact absurd harray (hcarry r)
    · rintro r i (harray | harray)
      · exact absurd harray (hopens r i)
      · exact absurd harray (hcarryOpens r i)

theorem cutArray_idle {s : State} (h : ∀ p, s.store.array ≠ .programming p) : cutArray s = s := by
  unfold cutArray
  dsimp only
  split
  case h_5 => rfl
  all_goals exact absurd ‹_› (h _)

theorem cutArray_append {s : State} {r : Record} {h : Fin 4}
    (harray : s.store.array = .programming (.append r none)) (hhead : s.store.head = some h) :
    (cutArray s).store.sectors[h].slots = s.store.sectors[h].slots ++ [.bad] := by
  simp [cutArray, harray, cutProgram_head hhead]

/-! ## The scan -/

/-- The start-up scan changes no other field of STORE than these. -/
theorem startScan_eq (st : Store) : ∃ a h n b e l, st.startScan = { st with
    array := a, head := h, nextSeq := n, badRecords := b, reErased := e, reErase := l } := by
  unfold Store.startScan
  split
  · exact ⟨_, _, _, _, _, _, rfl⟩
  · exact ⟨_, _, _, _, _, _, rfl⟩

/-! ## The starts -/

/-- The first value of a channel (R35). -/
theorem out_first_channel (ch : Fin 10) :
    Out.first.channels[ch].effective = false ∧ Out.first.channels[ch].settle = 1 := by
  simp [Out.first, Channel.first]

/-- After a loss of the supply every block but STORE stands at its first values, and of STORE only
the record area and the settings sector are left. -/
theorem loseSupply_eq (s : State) : loseSupply s = { State.reset with
    phase := .unpowered
    store := { Store.first with
      sectors := (cutArray s).store.sectors, settings := (cutArray s).store.settings }
    free := (cutArray s).free, pending := (cutArray s).pending } := rfl

theorem beginScan_loseSupply (s : State) : ∃ a h n b e l,
    beginScan (loseSupply s) = { State.reset with
      store := { Store.first with
        sectors := (cutArray s).store.sectors, settings := (cutArray s).store.settings
        array := a, head := h, nextSeq := n, badRecords := b, reErased := e, reErase := l }
      free := (cutArray s).free, pending := (cutArray s).pending } := by
  obtain ⟨a, h, n, b, e, l, hscan⟩ := startScan_eq (loseSupply s).store
  refine ⟨a, h, n, b, e, l, ?_⟩
  unfold beginScan State.onStore
  rw [State.withPhase, hscan]
  rfl

theorem restartState_cutArray (s : State) : (cutArray s).store.restartState =
    { s.store.restartState with sectors := (cutArray s).store.sectors } :=
  congrArg Store.restartState (cutArray_store s)

theorem beginRestart_eq (s : State) : beginRestart s = { State.reset with
    phase := .released
    store := { s.store.restartState with sectors := (cutArray s).store.sectors }
    free := (cutArray s).free, pending := (cutArray s).pending } := by
  unfold beginRestart abandonAll
  dsimp only
  rw [restartState_cutArray]

theorem cutArray_settings (s : State) : (cutArray s).store.settings = s.store.settings := by
  rw [cutArray_store]

/-- Settles O13: both starts are `abandonAll`, whose STORE is what `cutArray` leaves. -/
theorem startsAbandonAllWork : Obligations.StartsAbandonAllWork := by
  refine ⟨fun s => ⟨_, _, rfl, rfl, rfl, rfl, ?_⟩, fun s hphase => ⟨beginRestart s, ?_, ?_⟩⟩
  · have hsectors : (∀ p, s.store.array ≠ .programming p) →
        (cutArray s).store.sectors = s.store.sectors := fun h => by rw [cutArray_idle h]
    have hcut := cutArray_cutShort s
    have hsettings := cutArray_settings s
    rintro x (rfl | rfl)
    · obtain ⟨a, h, n, b, e, l, hscan⟩ := beginScan_loseSupply s
      rw [hscan]
      exact ⟨rfl, rfl, rfl, rfl, rfl, rfl, rfl, rfl, rfl, rfl, rfl, rfl, rfl, rfl, rfl,
        out_first_channel, rfl, rfl, rfl, rfl, rfl, rfl, rfl, rfl, rfl, hsectors, hcut, hsettings⟩
    · exact ⟨rfl, rfl, rfl, rfl, rfl, rfl, rfl, rfl, rfl, rfl, rfl, rfl, rfl, rfl, rfl,
        out_first_channel, rfl, rfl, rfl, rfl, rfl, rfl, rfl, rfl, rfl, hsectors, hcut, hsettings⟩
  · simp [exec, execRestart, hphase]
  · rw [beginRestart_eq]
    exact ⟨rfl, rfl, rfl, rfl, rfl, rfl, rfl, rfl, rfl, rfl, rfl, rfl, rfl, rfl, rfl, rfl, rfl, rfl,
      rfl, rfl, rfl, rfl, rfl, rfl, rfl, fun h => by rw [cutArray_idle h], cutArray_cutShort s,
      fun _ _ => cutArray_append⟩

end Sys2Proof.Machine
end

section
/-! PROOF. Passes and the SELFTEST task (O19 to O21). -/

namespace Sys2Proof.Machine

theorem testDue_eq (c : Scan) : c.testDue = decide (c.passCounter = 449 ∨ c.measureFault = true
    ∨ c.taskWait = .forStart) := by
  simp [Scan.testDue, passCounterMost, Bool.or_assoc, Bool.decide_or, beq_eq_decide]

theorem exec_scanPassStart {s : State} (hrun : s.running = true) (hpass : s.scan.inFlight = none) :
    exec .scanPassStart s = .next (startPass s) := by
  simp [exec, execScanPassStart, whenRunning, hrun, hpass]

theorem selftestRequest_taken {s : State} (hslot : s.link.slot = none)
    (hbuffer : s.link.buffer = .empty) : selftestRequest [] s = takeSelftest s := by
  simp [selftestRequest, unlessBusy, unlessHeld, hslot, hbuffer]

/-- Settles O19. -/
theorem selftestsRideOnPasses : Obligations.SelftestsRideOnPasses := by
  refine ⟨fun s hrun hpass => ?_, fun s htakes hslot hbuffer => ?_⟩
  · rw [exec_scanPassStart hrun hpass, ← testDue_eq]
    rfl
  · obtain ⟨hrun, howed⟩ := htakes
    have hbody : selftestRequest [] s.heard = takeSelftest s.heard :=
      selftestRequest_taken hslot hbuffer
    simp only [exec, execSelftest]
    rw [request_answered [] selftestRequest s _ _ hrun (Nat.zero_le _) howed hbody rfl]
    rfl

end Sys2Proof.Machine
end

section
/-! PROOF. A pass completion at SCAN (O20, O21). -/

namespace Sys2Proof.Machine

/-! ## Notices -/

theorem mem_insertNotice {m n : Notice} {l : List Notice} :
    m ∈ insertNotice n l ↔ m = n ∨ m ∈ l := by
  induction l with
  | nil => simp [insertNotice]
  | cons k rest ih =>
    simp only [insertNotice]
    split
    · next heq => simp [heq]
    · split
      · simp
      · simp [ih, or_left_comm]

/-! ## What the stages of a pass do to SCAN, STORE and LINK -/

/-- From `s` to `t` SCAN becomes `c`, STORE stays, and LINK has notices added: MEASURE exactly when
`noted`. -/
def State.scansTo (s : State) (c : Scan) (noted : Prop) (t : State) : Prop :=
  t.scan = c ∧ t.store = s.store ∧ t.link = { s.link with notices := t.link.notices }
    ∧ (.measure ∈ t.link.notices ↔ .measure ∈ s.link.notices ∨ noted)

/-- The parts a pass tells that are neither SCAN, STORE nor LINK. -/
def tellingParts : List Block := [.out, .loop, .zone, .burn, .gauge, .fuel, .posts]

/-- SCAN after the verdict of a self-test pass (R10, R11). -/
def Scan.verdict (pass : Bool) (c : Scan) : Scan :=
  if pass then
    if c.measureFault then
      if 3 ≤ c.consecPass + 1 then { c with measureFault := false, consecPass := 0 }
      else { c with consecPass := c.consecPass + 1 }
    else { c with consecPass := 0 }
  else { c with measureFault := true, consecPass := 0 }

/-- SCAN after stage 1 of a pass at run minute `now` (R8, R9). -/
def Scan.tested (ref : Bool) (p : PassCounts) (now : Nat) (c : Scan) : Scan :=
  if ref then
    let pass := refsPass p.low.toNat p.mid.toNat p.high.toNat
    Scan.verdict pass { c with
      passCounter := 0, lastTest := some ⟨p.low.toNat, p.mid.toNat, p.high.toNat, pass, now⟩ }
  else { c with passCounter := min (c.passCounter + 1) 449 }

/-- SCAN after stage 2 of a pass (R2 to R5). -/
def Scan.recorded (p : PassCounts) (c : Scan) : Scan :=
  { c with
    probe := ⟨some p.probe.toNat, true⟩
    tankTemp := tempRecordOf p.tank.toNat
    flowTemp := tempRecordOf p.flow.toNat
    cs := p.cs.map fun n => ⟨some (n.toNat, convertCurrent n.toNat), true⟩ }

namespace State.scansTo

variable {s u v : State} {c c' : Scan} {m m' : Prop}

theorem refl (s : State) : s.scansTo s.scan False s := by simp [State.scansTo]

section
variable (h : s.scansTo c m u)
include h

theorem scan_eq : u.scan = c := by
  obtain ⟨hscan, -⟩ := h
  exact hscan

theorem change (hc : c = c') (hm : m ↔ m') : s.scansTo c' m' u := by
  rwa [← hc, State.scansTo, ← hm]

/-- An operation that reaches none of the three blocks. -/
theorem of_hide (e : v.hide tellingParts = u.hide tellingParts) : s.scansTo c m v := by
  have same := hide_eq_iff.1 e
  have hscan : v.scan = u.scan := same .scan (by decide)
  have hstore : v.store = u.store := same .store (by decide)
  have hlink : v.link = u.link := same .link (by decide)
  rwa [State.scansTo, hscan, hstore, hlink]

theorem onScan (f : Scan → Scan) : s.scansTo (f c) m (u.onScan f) := by
  obtain ⟨hscan, hrest⟩ := h
  exact ⟨congrArg f hscan, hrest⟩

theorem onChan {ch f} : s.scansTo c m (u.onChan ch f) := h

theorem ite {p : Prop} [Decidable p] (hv : s.scansTo c m v) :
    s.scansTo c m (if p then u else v) := by
  split
  · exact h
  · exact hv

theorem eachChannel {f : Fin 10 → State → State}
    (hf : ∀ ch w, s.scansTo c m w → s.scansTo c m (f ch w)) : s.scansTo c m (eachChannel f u) := by
  unfold Machine.eachChannel
  induction allChannels generalizing u with
  | nil => exact h
  | cons ch rest ih => exact ih (hf ch u h)

theorem postNotice {n : Notice} (hn : n ≠ .measure) : s.scansTo c m (postNotice n u) := by
  obtain ⟨hscan, hstore, hlink, hnoted⟩ := h
  refine ⟨hscan, hstore, ?_, ?_⟩
  · exact congrArg (fun l => { l with notices := insertNotice n u.link.notices }) hlink
  · simp [Machine.postNotice, mem_insertNotice, hnoted, hn.symm]

theorem postMeasure : s.scansTo c True (Machine.postNotice .measure u) := by
  obtain ⟨hscan, hstore, hlink, -⟩ := h
  refine ⟨hscan, hstore, ?_, ?_⟩
  · exact congrArg (fun l => { l with notices := insertNotice .measure u.link.notices }) hlink
  · simp [Machine.postNotice, mem_insertNotice]

/-! ### OUT's offer -/

theorem zoneChannelFault {z} : s.scansTo c m (zoneChannelFault z u) := by
  unfold Machine.zoneChannelFault enterFault
  split
  · exact h
  · have hzone : s.scansTo c m
        ((zoneTo z .fault (.retry 15) u).onZone z fun zn => { zn with cause := .channel }) :=
      h.of_hide (by simp [tellingParts])
    exact (hzone.postNotice (n := .zoneFault) (by decide)).of_hide (by simp [tellingParts])

theorem tellLoad {ch new} : s.scansTo c m (tellLoad ch new u) := by
  unfold Machine.tellLoad
  split
  · exact h.zoneChannelFault.ite h
  · exact h.of_hide (by (repeat' split) <;> simp [tellingParts])

theorem evaluatePump : s.scansTo c m (evaluatePump u) := h.of_hide (by simp [tellingParts])

theorem resolveChannel {ch} : s.scansTo c m (resolveChannel ch u) :=
  h.of_hide (by simp [tellingParts])

theorem setLoad {ch new} : s.scansTo c m (setLoad ch new u) := by
  have htold : s.scansTo c m (Machine.tellLoad ch new (Machine.postNotice .channelFault
      (u.onChan ch fun x => { x with load := new }))) := (h.onChan.postNotice (by decide)).tellLoad
  exact h.ite (htold.evaluatePump.ite htold)

theorem judge {ch ma} : s.scansTo c m (judge ch ma u) := by
  have hlow : s.scansTo c m (judgeLow ch u) := by
    unfold judgeLow
    split
    · exact h.onChan.setLoad.ite h.onChan
    · exact h.onChan
  have hhigh : s.scansTo c m (judgeHigh ch u) :=
    h.onChan.setLoad.resolveChannel.ite h.onChan
  have hwithin : s.scansTo c m (judgeWithin ch u) := h.onChan.setLoad.ite h.onChan
  have hleaking : s.scansTo c m (judgeLeaking ch u) := h.onChan.setLoad.ite h.onChan
  have hquiet : s.scansTo c m (judgeQuiet ch u) := h.onChan.setLoad.ite h.onChan
  exact (hlow.ite (hhigh.ite hwithin)).ite (hleaking.ite hquiet)

theorem takeCurrent {ch ma} : s.scansTo c m (takeCurrent ch ma u) :=
  h.ite (h.onChan.ite (h.ite h.judge))

theorem outTakesPass : s.scansTo c m (outTakesPass u) :=
  (h.eachChannel fun _ _ hw => hw.takeCurrent).evaluatePump

/-- Stage 3 offers the pass to the other blocks (R7). -/
theorem offerPass : s.scansTo c m (offerPass u) :=
  h.outTakesPass.of_hide (by simp [Machine.offerPass, tellingParts])

/-! ### MEASURE_FAULT -/

theorem setStage {g} : s.scansTo c m (setStage g u) := by
  have hposted : s.scansTo c m (postStage g (u.onFuel fun f => { f with stage := g })) :=
    h.of_hide (by simp [tellingParts])
  exact h.ite (hposted.postNotice (by decide))

/-- An estimate acts on nothing but FUEL's stage (R114, R131). -/
theorem handEstimate : s.scansTo c m (handEstimate u) := by
  unfold Machine.handEstimate handValue fuelTakesValue
  rw [if_neg (by decide)]
  exact setStage (h.of_hide (by simp [tellingParts]))

theorem enterGaugeFault {cause} : s.scansTo c m (enterGaugeFault cause u) := by
  have hfuel : s.scansTo c m (fuelFaultEntered (u.onGauge fun g =>
      { g.emptyWindow with fault := true, cause := cause })) := h.of_hide (by simp [tellingParts])
  exact hfuel.handEstimate.postNotice (by decide)

theorem gaugeTakesMeasureFault : s.scansTo c m (gaugeTakesMeasureFault u) :=
  ite (h.of_hide (by simp [tellingParts])) h.enterGaugeFault

theorem evaluateOverheat : s.scansTo c m (evaluateOverheat u) := h.of_hide (by simp [tellingParts])

theorem evaluateBoilerFrost : s.scansTo c m (evaluateBoilerFrost u) :=
  h.of_hide (by simp [tellingParts])

/-- A change of MEASURE_FAULT posts its notice (R10, R11). -/
theorem tellMeasureFault {x} :
    s.scansTo { c with measureFault := x } True (tellMeasureFault x u) := by
  have hout : s.scansTo { c with measureFault := x } m
      (outTakesMeasureFault x (u.onScan fun c => { c with measureFault := x })) :=
    (h.onScan fun c => { c with measureFault := x }).of_hide (by simp [tellingParts])
  exact postMeasure <| evaluateBoilerFrost <| evaluateOverheat <|
    ite hout.gaugeTakesMeasureFault hout

/-- Stage 1 posts MEASURE exactly when MEASURE_FAULT changes (R9 to R11). -/
theorem settleVerdict {pass} : s.scansTo (c.verdict pass)
    (m ∨ (c.verdict pass).measureFault ≠ c.measureFault) (settleVerdict pass u) := by
  have hscan : u.scan = c := h.scan_eq
  unfold Machine.settleVerdict Scan.verdict
  rw [hscan]
  cases pass with
  | true =>
    simp only [if_true]
    split
    · next hfault =>
      split
      · exact (h.onScan fun x => { x with consecPass := 0 }).tellMeasureFault.change rfl
          (by simp [hfault])
      · exact (h.onScan fun x => { x with consecPass := x.consecPass + 1 }).change rfl (by simp)
    · exact (h.onScan fun x => { x with consecPass := 0 }).change rfl (by simp)
  | false =>
    have hzero := h.onScan fun x => { x with consecPass := 0 }
    simp only [Bool.false_eq_true, if_false]
    split
    · next hfault => exact hzero.change (by rw [← hfault]) (by simp [hfault])
    · next hfault => exact hzero.tellMeasureFault.change rfl (by simp [hfault])

/-- Stage 1 of a pass (R8 to R11). -/
theorem settleTest {ref p} (hnow : u.now = s.now) : s.scansTo (c.tested ref p s.now)
    (m ∨ (c.tested ref p s.now).measureFault ≠ c.measureFault) (settleTest ref p u) := by
  rw [← hnow]
  cases ref with
  | true => exact settleVerdict (h.onScan fun x => { x with passCounter := 0, lastTest := some _ })
  | false =>
    exact (h.onScan fun x => { x with passCounter := min (x.passCounter + 1) 449 }).change rfl
      (by simp [Scan.tested])

/-- Stage 2 of a pass (R4, R7). -/
theorem writeRecords {p} : s.scansTo (c.recorded p)
    (m ∨ tempNotice c.tankTemp.state (c.recorded p).tankTemp.state = true
      ∨ tempNotice c.flowTemp.state (c.recorded p).flowTemp.state = true) (writeRecords p u) := by
  have hrecorded := h.onScan (Scan.recorded p)
  have hscan : u.scan = c := h.scan_eq
  unfold Machine.writeRecords
  rw [hscan]
  simp only [Bool.or_eq_true]
  split
  · next hchange => exact hrecorded.postMeasure.change rfl (iff_of_true trivial (.inr hchange))
  · next hsame => exact hrecorded.change rfl (or_iff_left hsame).symm

end
end State.scansTo

/-! ## A whole pass -/

/-- SCAN after stages 1 and 2 of a pass. -/
def Scan.passed (ref : Bool) (p : PassCounts) (now : Nat) (c : Scan) : Scan :=
  (Scan.tested ref p now { c with inFlight := none }).recorded p

/-- A pass posts MEASURE at a change of MEASURE_FAULT or of a temperature input (R4, R10, R11). -/
def Scan.noted (c c' : Scan) : Prop :=
  c'.measureFault ≠ c.measureFault ∨ tempNotice c.tankTemp.state c'.tankTemp.state = true
    ∨ tempNotice c.flowTemp.state c'.flowTemp.state = true

@[simp] theorem verdict_tankTemp (pass : Bool) (c : Scan) :
    (c.verdict pass).tankTemp = c.tankTemp := by
  unfold Scan.verdict
  (repeat' split) <;> rfl

@[simp] theorem verdict_flowTemp (pass : Bool) (c : Scan) :
    (c.verdict pass).flowTemp = c.flowTemp := by
  unfold Scan.verdict
  (repeat' split) <;> rfl

@[simp] theorem verdict_taskWait (pass : Bool) (c : Scan) :
    (c.verdict pass).taskWait = c.taskWait := by
  unfold Scan.verdict
  (repeat' split) <;> rfl

/-- The state before stage 4 of a pass. -/
def passStages (ref : Bool) (p : PassCounts) (s : State) : State :=
  offerPass (writeRecords p (settleTest ref p (s.onScan fun c => { c with inFlight := none })))

theorem passStages_scansTo (ref : Bool) (p : PassCounts) (s : State) : s.scansTo
    (s.scan.passed ref p s.now) (s.scan.noted (s.scan.passed ref p s.now))
    (passStages ref p s) := by
  have hstart := (State.scansTo.refl s).onScan fun c => { c with inFlight := none }
  have hstages := (hstart.settleTest (ref := ref) (p := p) rfl).writeRecords (p := p) |>.offerPass
  refine hstages.change rfl ?_
  cases ref <;> simp [Scan.noted, Scan.passed, Scan.tested, Scan.recorded]

theorem exec_passCompletion {p : PassCounts} {s : State} {ref : Bool} (hrun : s.running = true)
    (hpass : s.scan.inFlight = some ref) :
    exec (.passCompletion p) s = .next (settle (endSelfTest (passStages ref p s))) := by
  simp [exec, execPassCompletion, whenRunning, hrun, completePass, hpass, passStages]

theorem settle_scan (s : State) : (settle s).scan = s.scan :=
  (hide_eq_iff (F := [.burn, .store, .link, .sett, .posts])).1 (by simp) .scan (by decide)

theorem endTask_scan (o : TaskOutcome) (r : ReasonCode) (n : Nat) (s : State) :
    (endTask o r n s).scan = s.scan :=
  (hide_eq_iff (F := [.link])).1 (by simp) .scan (by decide)

theorem endSelfTest_scan (s : State) : (endSelfTest s).scan = { s.scan with
    taskWait := if s.scan.taskWait = .inPass then .none else s.scan.taskWait } := by
  unfold endSelfTest
  split
  · next hwait =>
    dsimp only
    split <;> rw [endTask_scan] <;> rfl
  · rfl

/-- SCAN after a pass completion. -/
theorem completed_scan (ref : Bool) (p : PassCounts) (s : State) :
    (settle (endSelfTest (passStages ref p s))).scan = { s.scan.passed ref p s.now with
      taskWait := if s.scan.taskWait = .inPass then .none else s.scan.taskWait } := by
  have hscan := (passStages_scansTo ref p s).scan_eq
  have hwait : (s.scan.passed ref p s.now).taskWait = s.scan.taskWait := by
    cases ref <;> simp [Scan.passed, Scan.tested, Scan.recorded]
  rw [settle_scan, endSelfTest_scan, hscan, hwait]

/-! ## Conversion (R3, R5) -/

theorem roundHalfUp_bounds (num : Nat) {den : Nat} (hden : 0 < den) :
    2 * den * roundHalfUp num den ≤ 2 * num + den
      ∧ 2 * num + den < 2 * den * (roundHalfUp num den + 1) := by
  have hpos : 0 < 2 * den := by omega
  exact ⟨Nat.mul_div_le _ _, Nat.lt_mul_div_succ _ hpos⟩

theorem convertTemp_bounds (c : Nat) : 8190 * (convertTemp c + 400) ≤ 3200 * (c : Int) + 4095
    ∧ 3200 * (c : Int) + 4095 < 8190 * (convertTemp c + 401) := by
  obtain ⟨hlow, hhigh⟩ := roundHalfUp_bounds (c * 1600) (den := 4095) (by decide)
  unfold convertTemp
  omega

theorem convertTemp_range {c : Nat} (hc : c ≤ 4095) : -400 ≤ convertTemp c ∧ convertTemp c ≤ 1200
    ∧ (c = 0 → convertTemp c = -400) ∧ (c = 4095 → convertTemp c = 1200) := by
  have hbounds := convertTemp_bounds c
  omega

theorem count_le (c : Count) : c.toNat ≤ 4095 := Nat.le_of_lt_succ c.isLt

/-- Settles O20: the records of stage 2 stand unchanged at the end of the pass. -/
theorem passCompletionConvertsTemperatures : Obligations.PassCompletionConvertsTemperatures := by
  intro p s ref hrun hpass
  refine ⟨_, exec_passCompletion hrun hpass, fun c r hcr => ⟨convertTemp c.toNat, ?_, ?_⟩⟩
  · rw [completed_scan] at hcr
    obtain h | h := hcr
    all_goals
      cases h
      rfl
  · obtain ⟨hlow, hhigh⟩ := convertTemp_bounds c.toNat
    exact ⟨hlow, hhigh, convertTemp_range (count_le c)⟩

end Sys2Proof.Machine
end

section
/-! PROOF. The model's byte encoders against the fields of a report (`Field.bytes`, `layout`). -/

namespace Sys2Proof.Machine

theorem layout_nil : layout [] = [] := rfl
theorem layout_cons (f : Field) (l : List Field) : layout (f :: l) = f.bytes ++ layout l := rfl
theorem layout_append (l m : List Field) : layout (l ++ m) = layout l ++ layout m :=
  List.flatMap_append

theorem layout_flatMap {α : Type} (l : List α) (f : α → List Field) :
    layout (l.flatMap f) = l.flatMap fun a => layout (f a) := List.flatMap_assoc

/-- A quotient's low byte, of the number or of the integer. -/
theorem ofInt_natCast_ediv (n d : Nat) :
    BitVec.ofInt 8 ((n : Int) / (d : Int)) = BitVec.ofNat 8 (n / d) := by
  rw [← Int.natCast_ediv, BitVec.ofInt_natCast]

theorem byte8_eq (n : Nat) : byte8 n = (Field.one n).bytes := rfl
theorem byte16_eq (n : Nat) : byte16 n = (Field.two n).bytes := rfl

theorem byte32_eq_inFour (n : Nat) : byte32 n = inFour n := by
  simp only [byte32, inFour, BitVec.ofInt_natCast, ← ofInt_natCast_ediv]
  rfl

theorem byte32_eq (n : Nat) : byte32 n = (Field.four n).bytes := byte32_eq_inFour n

theorem flag_eq (b : Bool) : flag b = (Field.bit b).bytes := by cases b <;> rfl

/-- The low byte of an integer is its residue modulo 256. -/
theorem ofInt_eq_of_emod {x y : Int} (h : x % 256 = y % 256) :
    BitVec.ofInt 8 x = BitVec.ofInt 8 y := by
  apply BitVec.eq_of_toNat_eq
  simp [BitVec.toNat_ofInt, h]

theorem inFour_emod (z : Int) : inFour (z % 4294967296) = inFour z := by
  simp only [inFour, List.cons.injEq, and_true]
  refine ⟨?_, ?_, ?_, ?_⟩
  all_goals exact ofInt_eq_of_emod (by omega)

theorem signed32_eq (z : Int) : signed32 z = (Field.signed z).bytes := by
  have hcast : ((twos 32 z : Nat) : Int) = z % 4294967296 :=
    Int.toNat_of_nonneg (Int.emod_nonneg _ (by decide))
  rw [signed32, byte32_eq_inFour, hcast]
  exact inFour_emod z

theorem optional_byte8_eq (o : Option Nat) : optional byte8 o = (Field.one? o).bytes := by
  cases o <;> rfl

theorem optional_byte16_eq (o : Option Nat) : optional byte16 o = (Field.two? o).bytes := by
  cases o <;> rfl

theorem optionalSigned32_eq (o : Option Int) :
    optionalSigned32 o = (Field.signed? o).bytes := by
  cases o with
  | none => rfl
  | some z => exact congrArg (byte8 1 ++ ·) (signed32_eq z)

theorem timerSeconds_byte8_eq (t : Timer) :
    timerSeconds byte8 t = (Field.one? (secondsLeft t)).bytes := optional_byte8_eq _

theorem timerSeconds_byte16_eq (t : Timer) :
    timerSeconds byte16 t = (Field.two? (secondsLeft t)).bytes := optional_byte16_eq _

end Sys2Proof.Machine
end

section
/-! PROOF. The MEASURE notice through the answers of STORE, and a pass completion at SCAN (O21). -/

namespace Sys2Proof.Machine

/-- The MEASURE notice is pending exactly when `b`. -/
def State.notes (b : Prop) (s : State) : Prop := .measure ∈ s.link.notices ↔ b

/-! ## What STORE's answers make BURN do posts no MEASURE notice -/

namespace State.notes

variable {b : Prop} {s t : State} (h : s.notes b)
include h

theorem onBurn {f} : (s.onBurn f).notes b := h
theorem onStore {f} : (s.onStore f).notes b := h
theorem onSett {f} : (s.onSett f).notes b := h
theorem onPosts {f} : (s.onPosts f).notes b := h

theorem ite {p : Prop} [Decidable p] (ht : t.notes b) : (if p then s else t).notes b := by
  split
  · exact h
  · exact ht

theorem foldl {α : Type} {f : State → α → State} {l : List α}
    (hf : ∀ t a, t.notes b → (f t a).notes b) : (l.foldl f s).notes b := by
  induction l generalizing s with
  | nil => exact h
  | cons a rest ih => exact ih (hf s a h)

theorem ofNewest {n} {f : State → State} (hf : ∀ t, t.notes b → (f t).notes b) :
    (ofNewest n f s).notes b := ite (hf s h) h

theorem postNotice {n : Notice} (hn : n ≠ .measure) : (postNotice n s).notes b := by
  simpa [State.notes, Machine.postNotice, mem_insertNotice, hn.symm] using h

theorem fillBuffer {content} : (fillBuffer content s).notes b := h

theorem endTask {o r size} : (endTask o r size s).notes b := by
  unfold Machine.endTask
  split
  · exact h
  · next k serial _ =>
    have hslot : (s.onLink fun l =>
      { l with slot := none, lastEnd := some ⟨k, serial, o, r, size⟩ }).notes b := h
    exact hslot.postNotice (by decide)

theorem endReading {r} : (endReading r s).notes b :=
  onStore (ite h.onStore.fillBuffer.endTask h.onStore.endTask)

theorem startErase (e : startErase s = some t) : t.notes b := by
  unfold Machine.startErase at e
  repeat' split at e
  all_goals cases e
  all_goals exact h

theorem serveOnce (e : serveOnce s = some t) : t.notes b := by
  unfold Machine.serveOnce at e
  split at e
  · cases e
    exact h.endReading
  · split at e
    · cases e
      exact h.onStore
    · exact h.startErase e

theorem serve {n} : (serve n s).notes b := by
  induction n generalizing s with
  | zero => exact h
  | succ n ih =>
    unfold Machine.serve
    split
    · split
      · next hserve => exact ih (h.serveOnce hserve)
      · exact h
    · exact h

theorem kick : (kick s).notes b := by
  unfold Machine.kick
  split
  · exact h.serve
  · exact ite h.onStore.serve h
  · exact h

theorem appendRecord {p tag} : (appendRecord p tag s).notes b := kick h.onStore

theorem takeAnswers {n} (hanswer : ∀ t a, t.notes b → (burnAnswer a t).notes b) :
    (takeAnswers n s).notes b := by
  induction n generalizing s with
  | zero => exact h
  | succ n ih =>
    unfold Machine.takeAnswers
    split
    · exact h
    · exact ih (hanswer _ _ h.onStore)

theorem postDemand {ch v} : (postDemand ch v s).notes b := h.onPosts

theorem postOverrun {v} : (postOverrun v s).notes b := h.onPosts

theorem burnTo {st} : (burnTo st s).notes b := ite h.onBurn h.onBurn.postDemand

theorem stopOverrun : (stopOverrun s).notes b := ite (postOverrun h.onBurn) h

theorem enterFiring : (enterFiring s).notes b := h.burnTo.onBurn

theorem enterCalled : (enterCalled s).notes b :=
  ite (enterFiring (stopOverrun h.burnTo.onBurn)) (stopOverrun h.burnTo.onBurn)

theorem lookCall : (lookCall s).notes b := h.enterCalled.ite h

theorem goIdle : (goIdle s).notes b := h.burnTo.lookCall.ite h.burnTo

theorem askStore {tag p} : (askStore tag p s).notes b := appendRecord (ite h.onBurn h)

theorem enterHeld {r} : (enterHeld r s).notes b := h.burnTo.onBurn.postNotice (by decide)

theorem endResetTask {o r} : (endResetTask o r s).notes b := ite (endTask h.onBurn) h

theorem askResetRecord : (askResetRecord s).notes b :=
  ((h.askStore.ite h.endResetTask.enterHeld).ite h.askStore).ite h

theorem askNow {a} : (askNow s a).notes b := by
  unfold Machine.askNow
  split
  · exact h.askStore
  · exact h.askResetRecord

theorem askOwed : (askOwed s).notes b := by
  unfold Machine.askOwed
  split
  · exact ite h (askStore h.onBurn)
  · exact h

theorem askAll {l} : (askAll l s).notes b :=
  ite (h.foldl fun _ _ ht => ht.askNow) (askOwed h.onBurn)

theorem askLockout : (askLockout s).notes b := by
  unfold Machine.askLockout
  split
  · exact ite h (askAll h.onBurn)
  · exact h

theorem beginReset {o} : (beginReset o s).notes b :=
  ite (askLockout h.burnTo.onBurn) (askAll h.burnTo.onBurn)

theorem owedStored : (owedStored s).notes b :=
  ite (foldl (onBurn h.onBurn) fun _ _ ht => ht.askNow) (askOwed h.onBurn)

theorem endPulse : (endPulse s).notes b := ite (postDemand h.onBurn) h.onBurn

theorem enterLatched {r} : (enterLatched r s).notes b :=
  endResetTask (postNotice (askAll (endPulse h.burnTo.onBurn)) (by decide))

theorem startProofLimit : (startProofLimit s).notes b := ite h.onBurn h

theorem takeDark : (takeDark s).notes b := by
  unfold Machine.takeDark
  dsimp only
  split
  · exact h.askLockout.enterLatched
  · exact goIdle (startProofLimit (onBurn (askAll (onBurn (ite h.askLockout h)))))

theorem takePress : (takePress s).notes b := by
  unfold Machine.takePress
  split
  · exact h.beginReset
  · exact h.ite h.beginReset
  · exact ite h.onBurn h
  · exact h

theorem takeWaiting : (takeWaiting s).notes b :=
  ite (takeDark h.onBurn) (ite (takePress h.onBurn) h.onBurn)

theorem awaitMains : (awaitMains s).notes b := h.burnTo.onBurn

theorem resetRefused : (resetRefused s).notes b :=
  ite h.endResetTask.enterHeld (takeDark h.endResetTask.enterHeld.onBurn)

theorem lockoutRefused : (lockoutRefused s).notes b := by
  unfold Machine.lockoutRefused
  dsimp only
  split
  · exact ite (awaitMains h.onBurn)
      (takeWaiting (enterHeld (endResetTask (onBurn h.onBurn))))
  · exact resetRefused h.onBurn
  · exact h.onBurn

theorem enterCooldown : (enterCooldown s).notes b := h.burnTo.onBurn

theorem resetSucceeds : (resetSucceeds s).notes b := goIdle h.onBurn

theorem lockoutStoredDecides : (lockoutStoredDecides s).notes b := by
  unfold Machine.lockoutStoredDecides
  split
  · exact h.enterLatched
  · exact h.awaitMains.ite h.enterCooldown.takeWaiting

theorem lockoutStored : (lockoutStored s).notes b := by
  unfold Machine.lockoutStored
  dsimp only
  split
  · exact lockoutStoredDecides h.onBurn
  · exact lockoutStoredDecides h.onBurn
  · split
    · exact enterLatched h.onBurn
    · exact askAll h.onBurn
  · exact h.onBurn

theorem resetStoredActs : (resetStoredActs s).notes b :=
  ite (postDemand h.startProofLimit.onBurn) h.startProofLimit.resetSucceeds

theorem resetStored {o stamp} : (resetStored o stamp s).notes b := by
  unfold Machine.resetStored
  dsimp only
  split
  · exact askAll (onBurn (ite h.onBurn h))
  · exact ite (resetStoredActs (ite h.onBurn h)) (ite h.onBurn h)

theorem resetRecordRefused : (resetRecordRefused s).notes b :=
  ite h.onBurn (ite h.resetRefused h)

theorem becomesOwed {p} : (becomesOwed p s).notes b := h.onBurn

theorem refuseAsk {a} : (refuseAsk s a).notes b := by
  unfold Machine.refuseAsk
  split
  · exact h.ofNewest fun _ ht => ht.lockoutRefused
  · exact h.becomesOwed
  · exact h.onBurn
  · exact h.resetRecordRefused
  · exact h
  · exact h.resetRecordRefused

theorem owedRefused : (owedRefused s).notes b := foldl h.onBurn fun _ _ ht => ht.refuseAsk

theorem clearLatch : (Machine.postNotice .latch (s.onBurn fun x =>
    { x with ackAwaited := false, relock := 0, latchReason := none })).notes b :=
  postNotice h (by decide)

theorem ackStored : (ackStored s).notes b :=
  ite (ite (awaitMains h.clearLatch.onBurn)
    (ite h.clearLatch.onBurn.enterCooldown h.clearLatch.onBurn.goIdle)) h.onBurn

theorem burnAnswer {a} : (burnAnswer a s).notes b := by
  unfold Machine.burnAnswer
  split
  · exact h.ofNewest (fun _ h1 => h1.lockoutStored)
  · exact h.ofNewest (fun _ h1 => h1.lockoutRefused)
  · split
    · exact h.resetStored
    · exact h
  · exact h.resetRecordRefused
  · exact h
  · exact h.becomesOwed
  · exact h.owedStored
  · exact h.owedRefused
  · exact h.ackStored
  · exact h.onBurn

theorem settle : (settle s).notes b := h.takeAnswers fun _ _ ht => ht.burnAnswer

end State.notes

/-! ## The parts of a completed pass -/

theorem tempStateOf_eq_valid {c : Nat} : tempStateOf c = .valid ↔ 16 ≤ c ∧ c ≤ 4079 := by
  simp [tempStateOf]

theorem tempStateOf_eq_sensorFault {c : Nat} :
    tempStateOf c = .sensorFault ↔ c < 16 ∨ 4079 < c := by
  unfold tempStateOf
  split
  · next h => simp; omega
  · next h => simp; omega

theorem tempNotice_iff {old new : TempState} :
    tempNotice old new = true ↔ old ≠ new ∧ ¬ (old = .empty ∧ new = .valid) := by
  cases old <;> cases new <;> decide

theorem refsPass_iff {low mid high : Nat} : refsPass low mid high = true ↔
    (370 ≤ low ∧ low ≤ 450) ∧ (2008 ≤ mid ∧ mid ≤ 2088) ∧ (3646 ≤ high ∧ high ≤ 3726) := by
  simp [refsPass, and_assoc]

theorem passCompletion_changesOnly (ref : Bool) (p : PassCounts) (s : State) : s.changesOnly
    [.scan, .out, .loop, .zone, .burn, .gauge, .fuel, .store, .link, .sett, .posts]
    (settle (endSelfTest (passStages ref p s))) :=
  hide_eq_iff.1 (by simp [passStages])

theorem notes_endSelfTest {b : Prop} {s : State} (h : s.notes b) : (endSelfTest s).notes b := by
  have hwait : (s.onScan fun c => { c with taskWait := .none }).notes b := h
  unfold endSelfTest
  split
  · dsimp only
    split
    · exact hwait.fillBuffer.endTask
    · exact hwait.endTask
  · exact h

/-- The MEASURE notice after a pass completion (R4, R10, R11). -/
theorem completed_measure (ref : Bool) (p : PassCounts) (s : State) :
    .measure ∈ (settle (endSelfTest (passStages ref p s))).link.notices ↔
      .measure ∈ s.link.notices ∨ s.scan.noted (s.scan.passed ref p s.now) := by
  obtain ⟨-, -, -, hnoted⟩ := passStages_scansTo ref p s
  exact (notes_endSelfTest (s := passStages ref p s) hnoted).settle

theorem endTask_link {s : State} {k : TaskKind} {serial : Nat} (h : s.link.slot = some (k, serial))
    (o : TaskOutcome) (r : ReasonCode) (n : Nat) : (endTask o r n s).link = { s.link with
      slot := none, lastEnd := some ⟨k, serial, o, r, n⟩
      notices := insertNotice .taskEnd s.link.notices } := by
  simp [endTask, h, postNotice]

/-- A verdict changes nothing of SCAN but MEASURE_FAULT and its count (R10, R11). -/
theorem verdict_eq (pass : Bool) (c : Scan) : c.verdict pass = { c with
    measureFault := (c.verdict pass).measureFault, consecPass := (c.verdict pass).consecPass } := by
  unfold Scan.verdict
  (repeat' split) <;> rfl

theorem tested_true (p : PassCounts) (now : Nat) (c : Scan) : c.tested true p now =
    Scan.verdict (refsPass p.low.toNat p.mid.toNat p.high.toNat) { c with
      passCounter := 0
      lastTest := some ⟨p.low.toNat, p.mid.toNat, p.high.toNat,
        refsPass p.low.toNat p.mid.toNat p.high.toNat, now⟩ } := rfl

theorem tested_false (p : PassCounts) (now : Nat) (c : Scan) :
    c.tested false p now = { c with passCounter := min (c.passCounter + 1) 449 } := rfl

/-- Stage 1 touches nothing of SCAN but the self-test's four fields (R8 to R11). -/
theorem tested_eq (ref : Bool) (p : PassCounts) (now : Nat) (c : Scan) :
    c.tested ref p now = { c with
      passCounter := (c.tested ref p now).passCounter
      lastTest := (c.tested ref p now).lastTest
      measureFault := (c.tested ref p now).measureFault
      consecPass := (c.tested ref p now).consecPass } := by
  cases ref
  · rw [tested_false]
  · rw [tested_true, verdict_eq]

/-- The verdict of a self-test pass (R10, R11). -/
theorem verdict_fields (pass : Bool) (c : Scan) :
    (pass = false → (c.verdict pass).measureFault = true ∧ (c.verdict pass).consecPass = 0)
      ∧ (pass = true → c.measureFault = false →
        (c.verdict pass).measureFault = false ∧ (c.verdict pass).consecPass = 0)
      ∧ (pass = true → c.measureFault = true → c.consecPass < 2 →
        (c.verdict pass).measureFault = true ∧ (c.verdict pass).consecPass = c.consecPass + 1)
      ∧ (pass = true → c.measureFault = true → 2 ≤ c.consecPass →
        (c.verdict pass).measureFault = false ∧ (c.verdict pass).consecPass = 0) := by
  unfold Scan.verdict
  refine ⟨?_, ?_, ?_, ?_⟩
  · rintro rfl
    exact ⟨rfl, rfl⟩
  · rintro rfl hfault
    simp [hfault]
  · rintro rfl hfault hfew
    have hless : ¬ 3 ≤ c.consecPass + 1 := by omega
    simp [hfault, hless]
  · rintro rfl hfault hmany
    have hthree : 3 ≤ c.consecPass + 1 := by omega
    simp [hfault, hthree]

theorem passed_inFlight (ref : Bool) (p : PassCounts) (now : Nat) (c : Scan) :
    (c.passed ref p now).inFlight = none :=
  (congrArg Scan.inFlight (tested_eq ref p now { c with inFlight := none }) :)

theorem passed_passTimer (ref : Bool) (p : PassCounts) (now : Nat) (c : Scan) :
    (c.passed ref p now).passTimer = c.passTimer :=
  (congrArg Scan.passTimer (tested_eq ref p now { c with inFlight := none }) :)

/-- SCAN when the verdict of a self-test pass is formed (R8, R9). -/
def Scan.beforeVerdict (p : PassCounts) (now : Nat) (c : Scan) : Scan :=
  { c with
    inFlight := none, passCounter := 0
    lastTest := some ⟨p.low.toNat, p.mid.toNat, p.high.toNat,
      refsPass p.low.toNat p.mid.toNat p.high.toNat, now⟩ }

theorem passed_true (p : PassCounts) (now : Nat) (c : Scan) : c.passed true p now =
    ((c.beforeVerdict p now).verdict (refsPass p.low.toNat p.mid.toNat p.high.toNat)).recorded p :=
  rfl

theorem passed_passCounter (p : PassCounts) (now : Nat) (c : Scan) :
    (c.passed true p now).passCounter = 0 := by
  rw [passed_true, verdict_eq]
  rfl

theorem passed_lastTest (p : PassCounts) (now : Nat) (c : Scan) : (c.passed true p now).lastTest =
    some ⟨p.low.toNat, p.mid.toNat, p.high.toNat, refsPass p.low.toNat p.mid.toNat p.high.toNat,
      now⟩ := by
  rw [passed_true, verdict_eq]
  rfl

/-- Stage 4 when no answer of STORE waits: the task in the slot ends (R14). -/
theorem completed_link (ref : Bool) (p : PassCounts) {s : State} (hanswers : s.store.answers = []) :
    (settle (endSelfTest (passStages ref p s))).link = (endSelfTest (passStages ref p s)).link := by
  obtain ⟨-, hstore, -, -⟩ := passStages_scansTo ref p s
  have hkept : (endSelfTest (passStages ref p s)).store = (passStages ref p s).store :=
    (hide_eq_iff (F := [.scan, .link])).1 (by simp) .store (by decide)
  rw [settle_without_answers _ (by rw [hkept, hstore, hanswers])]

/-- A waiting SELFTEST ends with its result in an empty buffer (R14). -/
theorem endSelfTest_done {s : State} {serial : Nat} {x : SelfTest}
    (hwait : s.scan.taskWait = .inPass) (hslot : s.link.slot = some (.selftest, serial))
    (hbuffer : s.link.buffer = .empty) (hlast : s.scan.lastTest = some x) :
    (endSelfTest s).link = { s.link with
      buffer := .held, content := selfTestResult x s.scan.measureFault
      slot := none, lastEnd := some ⟨.selftest, serial, .done, .none, 12⟩
      notices := insertNotice .taskEnd s.link.notices } := by
  have hbody : endSelfTest s = endTask .done .none 12 (fillBuffer
      (selfTestResult x s.scan.measureFault) (s.onScan fun c => { c with taskWait := .none })) := by
    simp [endSelfTest, hwait, hbuffer, hlast]
  rw [hbody]
  exact endTask_link (by exact hslot) ..

/-- A waiting SELFTEST is rejected when the buffer is not empty (R14). -/
theorem endSelfTest_rejected {s : State} {serial : Nat} (hwait : s.scan.taskWait = .inPass)
    (hslot : s.link.slot = some (.selftest, serial)) (hbuffer : s.link.buffer ≠ .empty) :
    (endSelfTest s).link = { s.link with
      slot := none, lastEnd := some ⟨.selftest, serial, .rejected, .bufferHeld, 0⟩
      notices := insertNotice .taskEnd s.link.notices } := by
  have hbody : endSelfTest s = endTask .rejected .bufferHeld 0
      (s.onScan fun c => { c with taskWait := .none }) := by
    simp only [endSelfTest, hwait, if_true]
    split
    · next hempty _ => exact absurd hempty hbuffer
    · rfl
  rw [hbody]
  exact endTask_link (by exact hslot) ..

theorem selfTestResult_layout (x : SelfTest) (fault : Bool) : selfTestResult x fault
    = layout [.two x.low, .two x.mid, .two x.high, .bit (!x.pass), .bit fault, .four x.stamp] := by
  have hpass : byte8 (if x.pass then 0 else 1) = (Field.bit (!x.pass)).bytes := by
    cases x.pass <;> rfl
  simp only [selfTestResult, hpass, byte16_eq, flag_eq, byte32_eq, layout_cons, layout_nil,
    List.append_assoc, List.append_nil]

theorem length_selfTestResult (x : SelfTest) (fault : Bool) :
    (selfTestResult x fault).length = 12 := by
  simp [selfTestResult, byte16, byte8, flag, byte32]

/-- A SELFTEST in the slot and its pass still stand when stage 4 begins. -/
theorem passStages_waits (p : PassCounts) {s : State} {serial : Nat}
    (hwait : s.scan.taskWait = .inPass) (hslot : s.link.slot = some (.selftest, serial)) :
    (passStages true p s).scan.taskWait = .inPass
      ∧ (passStages true p s).link.slot = some (.selftest, serial)
      ∧ (passStages true p s).link.buffer = s.link.buffer
      ∧ (passStages true p s).link.content = s.link.content := by
  obtain ⟨hscan, -, hlink, -⟩ := passStages_scansTo true p s
  refine ⟨?_, ?_, ?_, ?_⟩
  · rw [hscan, passed_true, verdict_eq]
    exact hwait
  all_goals rw [hlink]
  exact hslot

/-- What a self-test pass leaves of the SELFTEST task that waited for it (R14). -/
theorem completed_selfTest (p : PassCounts) {s : State} {serial : Nat}
    (hwait : s.scan.taskWait = .inPass) (hslot : s.link.slot = some (.selftest, serial))
    (hanswers : s.store.answers = []) :
    let l := (settle (endSelfTest (passStages true p s))).link
    let c := s.scan.passed true p s.now
    l.slot = none ∧ .taskEnd ∈ l.notices
      ∧ (s.link.buffer = .empty → l.buffer = .held ∧ l.content.length = 12
        ∧ (∀ x, c.lastTest = some x → l.content = layout [.two x.low, .two x.mid,
          .two x.high, .bit (!x.pass), .bit c.measureFault, .four x.stamp])
        ∧ l.lastEnd = some ⟨.selftest, serial, .done, .none, 12⟩)
      ∧ (s.link.buffer = .held → l.buffer = .held ∧ l.content = s.link.content
        ∧ l.lastEnd = some ⟨.selftest, serial, .rejected, .bufferHeld, 0⟩) := by
  intro l c
  have hscan : (passStages true p s).scan = c := (passStages_scansTo true p s).scan_eq
  obtain ⟨hwait', hslot', hbuffer, hcontent⟩ := passStages_waits p hwait hslot
  have hl : l = (endSelfTest (passStages true p s)).link := completed_link true p hanswers
  by_cases hempty : s.link.buffer = .empty
  · have hlast := passed_lastTest p s.now s.scan
    rw [hl, endSelfTest_done hwait' hslot' (hbuffer.trans hempty) (by rw [hscan, hlast])]
    refine ⟨rfl, mem_insertNotice.2 (.inl rfl), fun _ => ⟨rfl, length_selfTestResult .., ?_, rfl⟩,
      fun hheld => absurd (hempty.symm.trans hheld) (by decide)⟩
    intro x hx
    rw [hlast] at hx
    cases hx
    rw [← hscan]
    exact selfTestResult_layout ..
  · rw [hl, endSelfTest_rejected hwait' hslot' (by rwa [hbuffer])]
    exact ⟨rfl, mem_insertNotice.2 (.inl rfl), fun h => absurd h hempty,
      fun hheld => ⟨hbuffer.trans hheld, hcontent, rfl⟩⟩

/-- Settles O21: `completed_scan` and `completed_measure` give SCAN and its notice,
`completed_selfTest` the task. -/
theorem passCompletionUpdatesTheScan : Obligations.PassCompletionUpdatesTheScan := by
  intro p s ref hrun hpass
  refine ⟨_, exec_passCompletion hrun hpass, passCompletion_changesOnly ref p s, ?_⟩
  have hmeasure := completed_measure ref p s
  rw [completed_scan, hmeasure]
  refine ⟨passed_inFlight .., passed_passTimer .., rfl, rfl, rfl, tempStateOf_eq_valid,
    tempStateOf_eq_valid, tempStateOf_eq_sensorFault, tempStateOf_eq_sensorFault, ?_,
    fun ch => ⟨convertCurrent (p.cs[ch]).toNat, ?_, ?_⟩, ?_, ?_, ?_, ?_, ?_⟩
  · simp [Scan.noted, tempNotice_iff, or_and_right, exists_or]
  · simp [Scan.passed, Scan.recorded]
  · have hbounds := roundHalfUp_bounds ((p.cs[ch]).toNat * 2000) (den := 4095) (by decide)
    unfold convertCurrent
    omega
  · rintro rfl
    simp [Scan.passed, Scan.recorded, tested_false]
  · rintro rfl
    obtain ⟨hfailed, hsound, hfew, hcleared⟩ := verdict_fields
      (refsPass p.low.toNat p.mid.toNat p.high.toNat) (s.scan.beforeVerdict p s.now)
    refine ⟨passed_passCounter .., _, passed_lastTest .., refsPass_iff, fun hpass => ?_, hsound,
      hfew, fun hpass hfault hmany => ?_⟩
    · obtain ⟨hset, hzero⟩ := hfailed hpass
      refine ⟨hset, hzero, fun hclear => .inr (.inl ?_)⟩
      rw [hclear]
      exact ne_of_eq_of_ne hset (by decide)
    · obtain ⟨hclear, hzero⟩ := hcleared hpass hfault hmany
      refine ⟨hclear, hzero, .inr (.inl ?_)⟩
      rw [hfault]
      exact ne_of_eq_of_ne hclear (by decide)
  · intro hwait
    simp [hwait]
  · intro hwait
    simp [hwait]
  · rintro serial rfl hwait hslot hanswers
    exact completed_selfTest p hwait hslot hanswers

end Sys2Proof.Machine
end

section
/-! PROOF. FETCH and ABORT (O59). -/

namespace Sys2Proof.Machine

/-! ## Requests answered -/

section Answered
variable {s u : State} {payload : List Byte} {body : List Byte → State → State × Reply} {r : Reply}
  (htakes : s.takes) (hlength : payload.length ≤ maxPayload)
include htakes hlength

/-- A request without an effect of its own, as the commands run it. -/
theorem next_request_replied (hbody : body payload s.heard = (s.heard, r)) :
    Host.Outcome.next (request payload body s) = (.next (s.replied r) : Result) := by
  obtain ⟨hrun, howed⟩ := htakes
  rw [request_replied payload body s r hrun hlength howed hbody]

/-- A request whose effect reaches of LINK neither the line nor what LINK itself changes. -/
theorem next_request_answered (hbody : body payload s.heard = (u.heard, r))
    (htx : u.link.tx = s.link.tx) :
    Host.Outcome.next (request payload body s) = (.next (u.replied r) : Result) := by
  obtain ⟨hrun, howed⟩ := htakes
  rw [request_answered payload body s u.heard r hrun hlength howed hbody htx, ← htx]
  rfl

end Answered

/-! ## FETCH -/

theorem exec_fetch {s : State} (htakes : s.takes) {a b n rel : Byte} {r : Reply}
    (hanswer : fetchAnswer (num16 a b) n.toNat (rel != 0) s.heard = (s.heard, r)) :
    exec (.fetch [a, b, n, rel]) s = .next (s.replied r) :=
  next_request_replied (body := fetchRequest) htakes (Nat.le_of_ble_eq_true rfl) hanswer

theorem fetchAnswer_badValue {offset size : Nat} {release : Bool} {s : State}
    (h : 511 < offset ∨ size < 1 ∨ 96 < size) :
    fetchAnswer offset size release s = (s, plainReply kindFetch .refused .badValue []) := by
  rw [fetchAnswer, if_pos h]
  rfl

theorem fetchAnswer_inRange {offset size : Nat} {release : Bool} {s : State}
    (h : ¬ (511 < offset ∨ size < 1 ∨ 96 < size)) : fetchAnswer offset size release s = (s,
      match s.link.buffer with
      | .empty => plainReply kindFetch .refused .nothingHeld []
      | .filled => plainReply kindFetch .refused .notNow []
      | .held => fetchReply s.link.content offset size release) := by
  rw [fetchAnswer, if_neg h]
  cases s.link.buffer <;> rfl

theorem fetchReply_eq (content : List Byte) (offset size : Nat) (release : Bool) :
    fetchReply content offset size release =
      { kind := kindFetch, reason := .none, restarts := false, releases := release
        result := if offset + size ≤ content.length then .ok else .clamped
        data := byte16 offset ++ byte8 ((content.drop offset).take size).length
          ++ (content.drop offset).take size } := by
  simp only [fetchReply]
  split <;> rfl

/-! ## ABORT -/

theorem endTask_eq {s : State} {k : TaskKind} {serial : Nat} (h : s.link.slot = some (k, serial))
    (o : TaskOutcome) (r : ReasonCode) (n : Nat) : endTask o r n s = { s with link := { s.link with
      slot := none, lastEnd := some ⟨k, serial, o, r, n⟩
      notices := insertNotice .taskEnd s.link.notices } } := by
  simp [endTask, h, postNotice, State.onLink]

theorem abortAnswer_noTask {s : State} (hslot : s.link.slot = none) :
    abortAnswer s = (s, plainReply kindAbort .refused .noTask []) := by
  simp only [abortAnswer, State.taskKind, hslot, Option.map_none]
  rfl

theorem abortAnswer_notAbortable {s : State} {serial : Nat}
    (hslot : s.link.slot = some (.keep, serial)) (hkeep : s.store.keep ≠ .waiting) :
    abortAnswer s = (s, plainReply kindAbort .refused .notAbortable []) := by
  have hlate : (!s.store.keepWaiting) = true := by
    unfold Store.keepWaiting
    split
    · next hwaiting => exact absurd hwaiting hkeep
    · rfl
  simp only [abortAnswer, State.taskKind, hslot, Option.map_some]
  exact if_pos ⟨trivial, hlate⟩

theorem abortAnswer_ends {s : State} {k : TaskKind} {serial : Nat}
    (hslot : s.link.slot = some (k, serial)) (hkeep : k = .keep → s.store.keep = .waiting) :
    abortAnswer s = (endTask .aborted .abort 0 (dropTask k s), replyOk kindAbort []) := by
  have hwaits : ¬ (k = .keep ∧ (!s.store.keepWaiting) = true) := by
    rintro ⟨hk, hnot⟩
    simp [Store.keepWaiting, hkeep hk] at hnot
  simp only [abortAnswer, State.taskKind, hslot, Option.map_some]
  exact if_neg hwaits

/-- LINK's own part of an aborted task (R166, R167). -/
def State.aborted (k : TaskKind) (serial : Nat) (s : State) : State :=
  { s with link := { s.link with
      slot := none, lastEnd := some ⟨k, serial, .aborted, .abort, 0⟩
      notices := insertNotice .taskEnd s.link.notices } }

/-- An ABORT of a task whose owner's drop leaves `v`. -/
theorem exec_abort {s v : State} {k : TaskKind} {serial : Nat} (htakes : s.takes)
    (hslot : s.link.slot = some (k, serial)) (hkeep : k = .keep → s.store.keep = .waiting)
    (hdrop : dropTask k s.heard = v.heard) (hlink : v.link = s.link) : exec (.abort []) s =
      .next ((v.aborted k serial).replied (plainReply 0x15 .ok .none [])) := by
  refine next_request_answered (body := abortRequest) htakes (Nat.zero_le _) ?_
    (congrArg Link.tx hlink :)
  have hslot' : v.heard.link.slot = some (k, serial) := (congrArg Link.slot hlink).trans hslot
  refine (abortAnswer_ends (s := s.heard) hslot hkeep).trans ?_
  rw [hdrop, endTask_eq hslot']
  rfl

/-- STORE looks at a rotation that is not needed (R144). -/
theorem lookAtRotation_unneeded {s : State} {p : Program} (hneeded : s.store.rotationNeeded = false)
    (hstarted : s.store.rotation.started = false) (harray : s.store.array = .programming p) :
    lookAtRotation s = s.onStore fun st => { st with rotation := .none } := by
  have hlook : s.store.lookRotation s.supply.hold = { s.store with rotation := .none } := by
    simp [Store.lookRotation, hneeded, hstarted]
  have hon : s.onStore (Store.lookRotation s.supply.hold)
      = s.onStore fun st => { st with rotation := .none } :=
    congrArg (fun st => { s with store := st }) hlook
  rw [lookAtRotation, hon]
  exact kick_programming _ p harray

theorem toNat_eq_zero_iff (n : Byte) : n = 0 ↔ n.toNat = 0 := by
  rw [← BitVec.toNat_inj]
  rfl

/-- Settles O59, case by case of Table 10-5a and of the task in the slot. -/
theorem fetchAndAbort : Obligations.FetchAndAbort := by
  intro s htakes
  refine ⟨?_, fun hslot => ?_, fun k serial hslot => ⟨?_, ?_⟩⟩
  · rintro a b n rel _ rfl
    rw [ne_eq, toNat_eq_zero_iff n]
    refine ⟨fun h => exec_fetch htakes (fetchAnswer_badValue ?_), fun hoffset hsome hmost => ?_⟩
    · simp only [num16]
      omega
    · have hrange : ¬ (511 < num16 a b ∨ n.toNat < 1 ∨ 96 < n.toNat) := by
        simp only [num16]
        omega
      have hanswer := fetchAnswer_inRange (release := rel != 0) (s := s.heard) hrange
      refine ⟨fun hbuffer => ?_, fun hbuffer => ?_, fun hbuffer => ?_⟩
      all_goals
        have hheard : s.heard.link.buffer = _ := hbuffer
        rw [hheard] at hanswer
      · exact exec_fetch htakes hanswer
      · exact exec_fetch htakes hanswer
      · exact exec_fetch htakes (hanswer.trans (congrArg _ (fetchReply_eq ..)))
  · refine next_request_replied (body := abortRequest) htakes (Nat.zero_le _) ?_
    exact abortAnswer_noTask hslot
  · rintro rfl hkeep
    refine next_request_replied (body := abortRequest) htakes (Nat.zero_le _) ?_
    exact abortAnswer_notAbortable hslot hkeep
  · rintro b _ rfl rfl
    refine ⟨?_, ?_, ?_, ?_, ?_⟩
    · rintro rfl hkeep
      exact exec_abort (v := s.onStore fun st =>
          { st with keep := .none, eraseDue := st.eraseDue.filter (· ≠ .settings) })
        htakes hslot (fun _ => hkeep) (by simp only [ne_eq, decide_not]; rfl) rfl
    · rintro rfl
      exact exec_abort (v := dropTask .selftest s) htakes hslot nofun rfl rfl
    · rintro rfl
      exact exec_abort (v := dropTask .burnerReset s) htakes hslot nofun rfl rfl
    · rintro rfl
      exact exec_abort (v := dropTask .tableLoad s) htakes hslot nofun rfl rfl
    · rintro rfl hneeded hstarted ⟨p, harray⟩
      exact exec_abort (v := s.onStore fun st => { st with reading := none, rotation := .none })
        htakes hslot nofun (lookAtRotation_unneeded hneeded hstarted harray) rfl

end Sys2Proof.Machine
end

section
/-! PROOF. The parameter catalogue: each item's triple, and its value as a GET codes it (O57). -/

namespace Sys2Proof.Machine

/-! ## Numbered items -/

theorem itemNumbered_isSome {α : Type} (l : List α) (t : Nat) :
    (itemNumbered l t).isSome = true ↔ 1 ≤ t ∧ t ≤ l.length := by
  cases t with
  | zero => simp [itemNumbered]
  | succ n => simp [itemNumbered]

/-- In a list that names each item once, an item stands at its own number alone. -/
theorem number_of_itemNumbered {α : Type} [BEq α] [LawfulBEq α] {l : List α} {t : Nat} {a : α}
    (hl : l.Nodup) (h : itemNumbered l t = some a) : l.idxOf a + 1 = t := by
  cases t with
  | zero => cases h
  | succ n =>
    obtain ⟨hn, rfl⟩ := List.getElem?_eq_some_iff.1 h
    rw [hl.idxOf_getElem]

/-- The triple of an item (Table 11-1). -/
def Param.triple : Param → Nat × Nat × Nat
  | .silence => (1, 0, 1)
  | .restart => (1, 0, 2)
  | .sink => (2, 0, 1)
  | .zone z x => (2, z.val + 1, zoneItems.idxOf x + 1)
  | .channel ch x => (3, ch.val, channelItems.idxOf x + 1)
  | .burner x => (4, 0, burnerItems.idxOf x + 1)
  | .tank x => (5, 0, tankItems.idxOf x + 1)
  | .fuel x => (6, 0, fuelItems.idxOf x + 1)

theorem zoneOfIndex_eq_some {i : Nat} {z : Fin 6} : zoneOfIndex i = some z ↔ i = z.val + 1 := by
  unfold zoneOfIndex
  split
  · next h => simp [Fin.ext_iff]; omega
  · next h => simp; omega

theorem channelOfIndex_eq_some {i : Nat} {ch : Fin 10} :
    channelOfIndex i = some ch ↔ i = ch.val := by
  unfold channelOfIndex
  split
  · next h => simp [Fin.ext_iff]
  · next h => simp; omega

/-- The item found by its number in a group has its own triple. -/
theorem exists_of_map_itemNumbered {α : Type} [BEq α] [LawfulBEq α] {l : List α} {t : Nat}
    {f : α → Param} {p : Param} (hl : l.Nodup) (h : (itemNumbered l t).map f = some p) :
    ∃ a, p = f a ∧ l.idxOf a + 1 = t := by
  obtain ⟨a, ha, rfl⟩ := Option.map_eq_some_iff.1 h
  exact ⟨a, rfl, number_of_itemNumbered hl ha⟩

theorem triple_of_paramOf {g i t : Nat} {p : Param} (h : paramOf g i t = some p) :
    p.triple = (g, i, t) := by
  unfold paramOf at h
  split at h
  · split at h
    · next hi =>
      split at h <;> cases h
      · simp [Param.triple, hi]
      · simp [Param.triple, hi]
    · cases h
  · split at h
    · next hi =>
      split at h <;> cases h
      next ht => simp [Param.triple, hi, ht]
    · split at h <;> cases h
      next z x hz hx =>
        rw [Param.triple, number_of_itemNumbered (by decide) hx, zoneOfIndex_eq_some.1 hz]
  · split at h <;> cases h
    next ch x hch hx =>
      rw [Param.triple, number_of_itemNumbered (by decide) hx, channelOfIndex_eq_some.1 hch]
  iterate 3
    split at h
    · next hi =>
      obtain ⟨x, rfl, hx⟩ := exists_of_map_itemNumbered (by decide) h
      rw [Param.triple, hx, hi]
    · cases h
  · cases h

theorem zoneOfIndex_isSome (i : Nat) : (zoneOfIndex i).isSome = true ↔ 1 ≤ i ∧ i ≤ 6 := by
  unfold zoneOfIndex
  split <;> simp_all

theorem channelOfIndex_isSome (i : Nat) : (channelOfIndex i).isSome = true ↔ i ≤ 9 := by
  unfold channelOfIndex
  split <;> (simp; omega)

/-- A group without indices has the items of its list, at index 0. -/
theorem isSome_atZero {α : Type} (l : List α) (f : α → Param) (i t : Nat) :
    (if i = 0 then (itemNumbered l t).map f else none).isSome = true
      ↔ i = 0 ∧ 1 ≤ t ∧ t ≤ l.length := by
  split
  · next hi => rw [Option.isSome_map, itemNumbered_isSome, and_iff_right hi]
  · next hi => simp [hi]

/-- An indexed group has the items of its list at each of its indices. -/
theorem isSome_atIndex {α β : Type} (a : Option α) (b : Option β) (f : α → β → Param) :
    (a.bind fun x => b.map (f x)).isSome = true ↔ a.isSome = true ∧ b.isSome = true := by
  cases a <;> simp

theorem paramOf_zone {i : Nat} (h : i ≠ 0) (t : Nat) : paramOf 2 i t =
    (zoneOfIndex i).bind fun z => (itemNumbered zoneItems t).map (Param.zone z) := by
  simp only [paramOf, if_neg h]
  cases zoneOfIndex i <;> cases itemNumbered zoneItems t <;> rfl

theorem paramOf_channel (i t : Nat) : paramOf 3 i t =
    (channelOfIndex i).bind fun ch => (itemNumbered channelItems t).map (Param.channel ch) := by
  simp only [paramOf]
  cases channelOfIndex i <;> cases itemNumbered channelItems t <;> rfl

theorem paramOf_isSome_iff (g i t : Nat) : (paramOf g i t).isSome = true ↔ writable g i t := by
  unfold writable
  match g with
  | 1 =>
    match t with
    | 0 => simp [paramOf]
    | 1 => simp [paramOf]
    | 2 => simp [paramOf]
    | n + 3 => simp [paramOf]
  | 2 =>
    by_cases hi : i = 0
    · rw [paramOf, if_pos hi]
      split <;> simp_all
    · rw [paramOf_zone hi, isSome_atIndex, zoneOfIndex_isSome, itemNumbered_isSome,
        show zoneItems.length = 10 from rfl]
      omega
  | 3 =>
    rw [paramOf_channel, isSome_atIndex, channelOfIndex_isSome, itemNumbered_isSome,
      show channelItems.length = 4 from rfl]
    omega
  | 4 =>
    rw [paramOf, isSome_atZero, show burnerItems.length = 9 from rfl]
    omega
  | 5 =>
    rw [paramOf, isSome_atZero, show tankItems.length = 4 from rfl]
    omega
  | 6 =>
    rw [paramOf, isSome_atZero, show fuelItems.length = 8 from rfl]
    omega
  | 0 => simp [paramOf]
  | n + 7 => simp [paramOf]

/-! ## An item's value in a GET -/

theorem signed8_eq (v : Int) : signed8 v = [BitVec.ofInt 8 v] := by
  have hbyte : BitVec.ofNat 8 (twos 8 v) = BitVec.ofInt 8 v := by
    apply BitVec.eq_of_toNat_eq
    simp only [twos, BitVec.toNat_ofNat, BitVec.toNat_ofInt]
    omega
  rw [signed8, byte8, hbyte]

theorem signed16_eq (v : Int) : signed16 v = [BitVec.ofInt 8 v, BitVec.ofInt 8 (v / 256)] := by
  have hlow : BitVec.ofNat 8 (twos 16 v) = BitVec.ofInt 8 v := by
    apply BitVec.eq_of_toNat_eq
    simp only [twos, BitVec.toNat_ofNat, BitVec.toNat_ofInt]
    omega
  have hhigh : BitVec.ofNat 8 (twos 16 v / 256) = BitVec.ofInt 8 (v / 256) := by
    apply BitVec.eq_of_toNat_eq
    simp only [twos, BitVec.toNat_ofNat, BitVec.toNat_ofInt]
    omega
  rw [signed16, byte16, hlow, hhigh]

theorem itemOfSet_zone (w : Settings) (z : Fin 6) (t : Nat) :
    itemOfSet w 2 (z.val + 1) t = zoneRow w.zones[z] t := by
  simp [itemOfSet]

theorem itemOfSet_channel (w : Settings) (ch : Fin 10) (t : Nat) :
    itemOfSet w 3 ch.val t = channelRow w.channels[ch] t := by
  simp [itemOfSet]

/-- A zone's enumerations are reported by their codes. -/
theorem zoneRow_kind (p : ZoneSettings) : zoneRow p 3 = (NodeKind.code p.kind : Int) := by
  rw [zoneRow]
  cases p.kind <;> rfl

theorem zoneRow_failSafe (p : ZoneSettings) : zoneRow p 10 = (HeatMode.code p.failSafe : Int) := by
  rw [zoneRow]
  cases p.failSafe <;> rfl

theorem patternValue_eq (p : Pattern) : patternValue p = (Pattern.code p : Int) := by
  cases p <;> rfl

theorem burnerRow_authority (w : Settings) :
    burnerRow w 6 = (Authority.code w.authority : Int) := by
  rw [burnerRow]
  cases w.authority <;> rfl

theorem itemOfSet_triple (w : Settings) (p : Param) :
    itemOfSet w p.triple.1 p.triple.2.1 p.triple.2.2 = p.value w := by
  cases p with
  | silence => rfl
  | restart => rfl
  | sink => rfl
  | zone z x =>
    refine (itemOfSet_zone w z _).trans ?_
    cases x with
    | kind => exact zoneRow_kind _
    | failSafe => exact zoneRow_failSafe _
    | _ => rfl
  | channel ch x =>
    refine (itemOfSet_channel w ch _).trans ?_
    cases x with
    | failSafe => exact patternValue_eq _
    | standby => exact patternValue_eq _
    | _ => rfl
  | burner x =>
    cases x with
    | authority => exact burnerRow_authority w
    | _ => rfl
  | tank x => cases x <;> rfl
  | fuel x => cases x <;> rfl

/-- The width of an item agrees with its range (11.2). -/
theorem wide_eq (p : Param) : p.wide =
    (rangeOf p.triple.1 p.triple.2.1 p.triple.2.2).elim false
      fun r => decide (r.1 < 0 ∨ 255 < r.2) := by
  cases p with
  | silence => rfl
  | restart => rfl
  | sink => rfl
  | zone z x => cases x <;> rfl
  | channel ch x => cases x <;> rfl
  | burner x => cases x <;> rfl
  | tank x => cases x <;> rfl
  | fuel x => cases x <;> rfl

/-- A GET codes an item as the catalogue says (11.2, R176). -/
theorem itemCoded_triple (w : Settings) (p : Param) :
    itemCoded w p.triple.1 p.triple.2.1 p.triple.2.2 = p.encode (p.value w) := by
  unfold itemCoded Param.encode
  rw [signed8_eq, signed16_eq, itemOfSet_triple, wide_eq]
  cases rangeOf p.triple.1 p.triple.2.1 p.triple.2.2 with
  | none => rfl
  | some r => simp [valueCoded]

end Sys2Proof.Machine
end

section
/-! PROOF. The reading groups, as the part codes them, against the layouts of R162 (O57). -/

namespace Sys2Proof.Machine

/-! ## Shared parts -/

/-- A list with its unused places. -/
theorem listField_map {α : Type} (most width : Nat) (l : List α) {code : α → List Byte}
    {fields : α → List Field} (h : ∀ a, code a = layout (fields a)) :
    listField most width (l.map code) = layout (.one l.length :: (l.take most).flatMap fields
      ++ [.zeros (width * (most - l.length))]) := by
  have hcode : code = fun a => layout (fields a) := funext h
  rw [listField, layout_append, layout_cons, layout_flatMap, List.length_map, ← List.map_take,
    ← List.flatMap_def, hcode, Nat.mul_comm width]
  simp [layout, byte8_eq, Field.bytes]

/-- A mark whose first value is the set one (R162). -/
theorem unflag_eq (b : Bool) : byte8 (if b then 0 else 1) = (Field.bit !b).bytes := by
  cases b <;> rfl

theorem probeBytes_eq (r : ProbeRecord) : probeBytes r = layout
    (match r.count with
      | none => [.zeros 3, .bit r.fresh]
      | some c => [.one 1, .two c, .bit r.fresh]) := by
  cases hcount : r.count <;> simp [probeBytes, hcount, optional, flag_eq] <;> rfl

theorem tempBytes_eq (r : TempRecord) : tempBytes r = layout (tempReport r) := by
  unfold tempBytes tempReport
  cases r.reading with
  | none => simp [layout, flag_eq]; rfl
  | some x => simp [layout, flag_eq, byte8_eq, byte16_eq, signed32_eq]

theorem currentBytes_eq (r : CurrentRecord) : currentBytes r = layout (currentReport r) := by
  unfold currentBytes currentReport
  cases r.reading with
  | none => simp [layout, flag_eq]; rfl
  | some x => simp [layout, flag_eq, byte8_eq, byte16_eq]

theorem selfTestBytes_eq (o : Option SelfTest) :
    selfTestBytes o = layout (selfTestReport o) := by
  cases o with
  | none => rfl
  | some t =>
    rw [selfTestBytes, unflag_eq]
    simp [selfTestReport, layout, byte32_eq, byte16_eq, byte8_eq]

/-! ## Measurement -/

theorem measurementBytes_eq (s : State) : measurementBytes s = layout s.measurementReport := by
  simp only [measurementBytes, State.measurementReport, List.append_eq, layout_append, layout_cons,
    layout_flatMap, probeBytes_eq, tempBytes_eq, currentBytes_eq, selfTestBytes_eq, flag_eq,
    List.append_assoc]
  rfl

/-! ## Channels -/

theorem overrideBytes_eq (o : Option (Bool × Nat)) :
    overrideBytes o = layout [.one (overrideCode o), .one? (o.map Prod.snd)] := by
  rcases o with _ | ⟨_ | _, n⟩ <;> rfl

theorem channelBytes_eq (ch : Fin 10) (s : State) :
    channelBytes ch s = layout (s.channelReport ch) := by
  simp only [channelBytes, State.channelReport, List.append_eq, layout_append, layout_cons,
    layout_nil, overrideBytes_eq, currentBytes_eq, flag_eq, byte8_eq, byte16_eq,
    List.append_assoc, List.append_nil]
  rfl

/-! ## Zones -/

theorem contactCode_eq (o : Option Bool) : contactCode o = contactValue o := by
  rcases o with _ | _ | _ <;> rfl

theorem zoneTimerBytes_eq (t : ZoneTimer) :
    zoneTimerBytes t = (Field.one? (zoneTimerLeft t)).bytes := by
  cases t <;> rfl

theorem nodeOfAddress_eq_some {a : Nat} {n : Fin 15} :
    nodeOfAddress a = some n ↔ a = n.val + 1 := by
  unfold nodeOfAddress
  split
  · next h => simp [Fin.ext_iff]; omega
  · next h => simp; omega

theorem boundNode_eq_some {p : ZoneSettings} {n : Fin 15} :
    boundNode p = some n ↔ p.enabled = true ∧ p.node = n.val + 1 := by
  rw [boundNode, Option.ite_none_right_eq_some, nodeOfAddress_eq_some]

theorem zoneBattery_eq (s : State) (z : Fin 6) : s.zoneBattery z = s.batteryLowAt z := by
  rw [Bool.eq_iff_iff]
  have hlow : s.batteryLowAt z = true
      ↔ ∃ n, boundNode (s.zoneSet z) = some n ∧ (s.nodeAt n).batteryLow = true := by
    simp only [boundNode_eq_some]
    simp [State.batteryLowAt, State.zoneSet, State.nodeAt, and_assoc]
  rw [hlow, State.zoneBattery]
  cases boundNode (s.zoneSet z) <;> simp

theorem cyclePos_eq (zn : Zone) : zn.cyclePos = min zn.blindPos 1199999 := by
  rw [Zone.cyclePos, blindCycleMs]

theorem zoneBytes_eq (z : Fin 6) (s : State) : zoneBytes z s = layout (s.zoneReport z) := by
  unfold zoneBytes State.zoneReport
  simp only [zoneTimerBytes_eq, optionalSigned32_eq, optional_byte16_eq, contactCode_eq,
    zoneBattery_eq, flag_eq, byte8_eq, byte16_eq, List.append_assoc]
  simp only [layout_cons, layout_nil, List.append_nil, State.zoneSet, State.zoneAt, State.par,
    State.endIsMade, cyclePos_eq]

/-! ## The loop -/

theorem loopBytes_eq (s : State) : loopBytes s = layout s.loopReport :=
  listField_map 8 6 s.loop.queue (fields := fun e =>
    [.one (e.node.val + 1), .one e.item.code, .two e.value, .bit e.failedOnce, .bit e.inSlot])
    fun e => by simp [layout, flag_eq, byte8_eq, byte16_eq]

end Sys2Proof.Machine
end

section
/-! PROOF. The burner, fuel, store and settings groups, as the part codes them, against the layouts
of R162 (O57). -/

namespace Sys2Proof.Machine

/-! ## Burner -/

theorem originCode_eq (o : Option Origin) : originCode o = originValue o := by
  rcases o with _ | _ | _ | _ | _ | _ <;> rfl

theorem latchCode_eq (o : Option LatchReason) : latchCode o = latchValue o := by
  rcases o with _ | _ | _ <;> rfl

theorem leftCode_eq (o : Option BurnState) : leftCode o = leftValue o := by cases o <;> rfl

theorem lockoutBytes_eq (o : Option Lockout) : lockoutBytes o = layout (newestReport o) := by
  cases o with
  | none => rfl
  | some l => rw [lockoutBytes, leftCode_eq]; rfl

theorem wasRelock_eq (o : Option Lockout) : wasRelock o = o.any Lockout.wasPending := by
  cases o <;> rfl

theorem resetBytes_eq (b : Burn) : resetBytes b = layout
    [.one (if b.state = .resetting then originValue (some b.resetOrigin) else 0),
      .one (if b.state = .resetting then b.resetPhase.code else 0)] := by
  rw [resetBytes, ← originCode_eq]
  split <;> rfl

theorem list_byte32_eq (most : Nat) (l : List Nat) : listField most 4 (l.map byte32) =
    layout (.one l.length :: (l.take most).map .four ++ [.zeros (4 * (most - l.length))]) := by
  rw [List.map_eq_flatMap (f := Field.four)]
  refine listField_map (code := byte32) most 4 l fun n => ?_
  rw [byte32_eq, layout_cons, layout_nil, List.append_nil]

/-- An owed record's kind and fields (Table 8-3). -/
theorem payload_eq (p : Payload) :
    byte8 p.kindCode ++ p.fields = layout (.one p.report.1 :: p.report.2) := by
  cases p with
  | noStart w f g => cases f <;> rfl
  | leak suspect d =>
    cases suspect <;> simp [Payload.kindCode, Payload.fields, Payload.report, layout, signed32_eq,
      byte8_eq]
  | _ => simp [Payload.kindCode, Payload.fields, Payload.report, layout, flag_eq, byte32_eq,
      byte16_eq, byte8_eq, ← originCode_eq, ← latchCode_eq, ← leftCode_eq, originCode, latchCode]

theorem owedBytes_eq (l : List Payload) : owedBytes l =
    layout (.one l.length :: l.flatMap fun p => .one p.report.1 :: p.report.2) := by
  rw [owedBytes, layout_cons, layout_flatMap]
  simp only [payload_eq]
  rfl

theorem burnerBytes_eq (s : State) : burnerBytes s = layout s.burnerReport := by
  unfold burnerBytes State.burnerReport
  simp only [timerSeconds_byte8_eq, timerSeconds_byte16_eq, optional_byte8_eq, optional_byte16_eq,
    tempBytes_eq, lockoutBytes_eq, wasRelock_eq, resetBytes_eq, list_byte32_eq, owedBytes_eq,
    originCode_eq, latchCode_eq, byte32_eq, flag_eq, byte8_eq, byte16_eq, List.append_assoc]
  simp only [List.append_eq, layout_append, layout_cons, layout_nil, List.append_nil,
    List.append_assoc, List.cons_append, State.valveOpen, State.lampLit, State.windowLeft,
    State.now]
  rfl

/-! ## Fuel -/

theorem sampleBytes_eq (o : Option Sample) : sampleBytes o = layout (sampleReport o) := by
  cases o with
  | none => rfl
  | some x =>
    rw [sampleBytes, unflag_eq]
    simp [sampleReport, layout, optional_byte16_eq, byte16_eq, byte8_eq]

theorem usedTempBytes_eq (u : Int × TempState) :
    usedTempBytes u = layout [.signed u.1, .one u.2.code] := by
  rw [usedTempBytes, signed32_eq]
  rfl

theorem loadBytes_eq (o : Option TableLoad) : loadBytes o = layout (loadReport o) := by
  cases o with
  | none => rfl
  | some l =>
    simp [loadBytes, loadReport, layout, timerSeconds_byte8_eq, byte8_eq, TableLoad.filled]

theorem basisBytes_eq (g : Gauge) :
    basisBytes g = layout [.two g.basis, .bit (!g.basisGood)] := by
  rw [basisBytes, unflag_eq]
  rfl

theorem valueBytes_eq (f : Fuel) : valueBytes f = layout [.two f.value, .one f.status.code] := rfl

theorem settlingBytes_eq (o : Option Settling) :
    settlingBytes o = layout (settlingReport o) := by
  cases o <;> rfl

theorem list_byte16_eq (most : Nat) (l : List Nat) : listField most 2 (l.map byte16) =
    layout (.one l.length :: (l.take most).map .two ++ [.zeros (2 * (most - l.length))]) := by
  rw [List.map_eq_flatMap (f := Field.two)]
  exact listField_map (code := byte16) most 2 l fun n => rfl

theorem fuelBytes_eq (s : State) : fuelBytes s = layout s.fuelReport := by
  unfold fuelBytes State.fuelReport gaugeBytes fuelFieldBytes
  simp only [probeBytes_eq, tempBytes_eq, sampleBytes_eq, list_byte16_eq, usedTempBytes_eq,
    basisBytes_eq, loadBytes_eq, valueBytes_eq, settlingBytes_eq, unflag_eq, optional_byte16_eq,
    optionalSigned32_eq, byte32_eq, flag_eq, byte16_eq, List.append_assoc]
  simp only [byte8_eq, List.append_eq, layout_append, layout_cons, layout_nil, List.append_nil,
    List.append_assoc, List.cons_append]
  rfl

/-! ## Store -/

theorem eraseBytes_eq (st : Store) :
    eraseBytes st.presentErase = layout (eraseReport st.array st.suspended) := by
  rw [Store.presentErase]
  rcases st.array with _ | _ | _ | ⟨_ | _, _⟩
  case erasing.sector => rfl
  case erasing.settings => rfl
  all_goals rcases st.suspended with _ | ⟨_ | _, _⟩ <;> rfl

theorem rotationCode_eq (r : Rotation) : r.code = rotationCode r := by cases r <;> rfl

theorem arrayCode_eq (a : ArrayState) : a.code = arrayCode a := by cases a <;> rfl

theorem keepBytes_eq (k : KeepPhase) : k.bytes = (Field.one? (keepPhaseCode k)).bytes := by
  cases k <;> rfl

theorem carryWaiting_eq (st : Store) : st.carryWaiting =
    st.carryList.length + if st.rotation = .none then st.carryWork.length else 0 := by
  unfold Store.carryWaiting
  split <;> rfl

theorem guardMinutesLeft_none {st : Store} (h : st.rotation ≠ .byGuard) :
    st.guardMinutesLeft = none := by
  unfold Store.guardMinutesLeft
  split
  · next hguard _ => exact absurd hguard h
  · rfl

theorem storeBytes_eq {s : State} (h : s.store.rotation ≠ .byGuard) :
    storeBytes s = layout s.storeReport := by
  unfold storeBytes State.storeReport
  simp only [guardMinutesLeft_none h, eraseBytes_eq, rotationCode_eq, arrayCode_eq, keepBytes_eq,
    carryWaiting_eq, optional_byte16_eq, byte32_eq, flag_eq, byte16_eq, byte8_eq,
    List.append_assoc]
  simp only [List.append_eq, layout_append, layout_cons, layout_nil, List.append_nil,
    List.append_assoc]

/-! ## Settings -/

theorem map_triple_zone (z : Fin 6) : (zoneItems.map (Param.zone z)).map Param.triple
    = (List.range 10).map fun t => (2, z.val + 1, t + 1) := rfl

theorem map_triple_channel (ch : Fin 10) : (channelItems.map (Param.channel ch)).map Param.triple
    = (List.range 4).map fun t => (3, ch.val, t + 1) := rfl

theorem map_triple_allParams : allParams.map Param.triple = settingTriples := by
  have hzones : List.range 6 = allZones.map Fin.val := rfl
  have hchannels : List.range 10 = allChannels.map Fin.val := rfl
  unfold settingTriples
  rw [hzones, List.flatMap_map, hchannels, List.flatMap_map, ← hchannels]
  simp only [allParams, List.map_append, List.map_flatMap, map_triple_zone, map_triple_channel]
  rfl

theorem workingBytes_eq (w : Settings) : workingBytes w =
    (settingTriples.flatMap fun (g, i, t) => itemCoded w g i t)
      ++ layout (.one w.table.length :: (w.table.take 40).flatMap (fun p =>
        [.two p.depth, .two p.volume]) ++ [.zeros (4 * (40 - w.table.length))]) := by
  rw [workingBytes, ← map_triple_allParams, List.flatMap_map]
  congr 1
  · exact congrArg (allParams.flatMap ·) (funext fun p => (itemCoded_triple w p).symm)
  · exact listField_map 40 4 w.table fun p => rfl

theorem imageBytes_eq (o : Option Word16) :
    imageBytes o = layout [.bit o.isNone, .two? (o.map BitVec.toNat)] := by
  cases o <;> rfl

theorem settingsBytes_eq (s : State) : settingsBytes s = s.settingsReport := by
  unfold settingsBytes State.settingsReport
  simp only [workingBytes_eq, imageBytes_eq, flag_eq, List.append_assoc]
  simp only [List.append_eq, layout_append, layout_cons, layout_nil, List.append_nil,
    List.append_assoc, List.cons_append, State.par]

end Sys2Proof.Machine
end

section
/-! PROOF. GET (O57). -/

namespace Sys2Proof.Machine

/-! ## What a triple names -/

theorem readingOf_channel {i : Nat} {ch : Fin 10} (h : i = ch.val) :
    readingOf (0x11 : Byte).toNat i (0 : Byte).toNat = some (.channel ch) :=
  congrArg (Option.map Reading.channel) (channelOfIndex_eq_some.2 h)

theorem readingOf_zone {i : Nat} {z : Fin 6} (h : i = z.val + 1) :
    readingOf (0x12 : Byte).toNat i (0 : Byte).toNat = some (.zone z) :=
  congrArg (Option.map Reading.zone) (zoneOfIndex_eq_some.2 h)

theorem readingOf_eq_none_of_item {g i t : Nat} (h : t ≠ 0) : readingOf g i t = none := if_pos h

/-- No reading group has an address outside Table 11-2. -/
theorem readingOf_eq_none_of_address {g i t : Nat}
    (h : g < 16 ∨ 23 < g ∨ ((g = 16 ∨ (19 ≤ g ∧ g ≤ 23)) ∧ i ≠ 0) ∨ (g = 17 ∧ 9 < i)
      ∨ (g = 18 ∧ (i = 0 ∨ 6 < i))) : readingOf g i t = none := by
  have hchannel : g = 17 → channelOfIndex i = none := fun hg => by
    rw [← Option.not_isSome_iff_eq_none, channelOfIndex_isSome]
    omega
  have hzone : g = 18 → zoneOfIndex i = none := fun hg => by
    rw [← Option.not_isSome_iff_eq_none, zoneOfIndex_isSome]
    omega
  unfold readingOf
  split
  · rfl
  · split
    · rw [if_neg (by omega)]
    · rw [hchannel rfl]; rfl
    · rw [hzone rfl]; rfl
    iterate 5
      · rw [if_neg (by omega)]
    · rfl

theorem itemBytes_of_writable {w : Settings} {g i t : Nat} (h : writable g i t) :
    itemBytes w g i t = some (itemCoded w g i t) := by
  obtain ⟨p, hp⟩ := Option.isSome_iff_exists.1 ((paramOf_isSome_iff g i t).2 h)
  have hcoded := itemCoded_triple w p
  rw [triple_of_paramOf hp] at hcoded
  have hgroup : g ≠ 7 := by
    unfold writable at h
    omega
  rw [itemBytes, if_neg hgroup, hp, hcoded]
  rfl

theorem itemBytes_eq_none {w : Settings} {g i t : Nat} (hgroup : g ≠ 7) (h : ¬ writable g i t) :
    itemBytes w g i t = none := by
  rw [itemBytes, if_neg hgroup, Option.map_eq_none_iff, ← Option.not_isSome_iff_eq_none,
    paramOf_isSome_iff]
  exact h

theorem itemBytes_table (w : Settings) (i t : Nat) : itemBytes w 7 i t = tableItem w i t :=
  if_pos rfl

section Point
variable {w : Settings} {i : Nat} {p : Point} (h : w.table[i]? = some p)
include h

theorem tableItem_depth : tableItem w i 1 = some (byte16 p.depth) := by simp [tableItem, h]
theorem tableItem_volume : tableItem w i 2 = some (byte16 p.volume) := by simp [tableItem, h]
theorem tableItem_count : tableItem w i 3 = some (byte8 w.table.length) := by simp [tableItem, h]

end Point

theorem tableItem_eq_none {w : Settings} {i t : Nat}
    (h : w.table.length ≤ i ∨ t = 0 ∨ 3 < t) : tableItem w i t = none := by
  unfold tableItem
  split
  · rfl
  · next p hpoint =>
    have hindex : i < w.table.length := (List.getElem?_eq_some_iff.1 hpoint).1
    split
    iterate 3
      · omega
    · rfl

/-! ## The three answers of a GET -/

section Answers
variable {g i t : Byte} {s : State}

theorem exec_getParam_reading (htakes : s.takes) {r : Reading}
    (h : readingOf g.toNat i.toNat t.toNat = some r) : exec (.getParam [g, i, t]) s =
      .next ((r.clearFresh s).replied (plainReply 0x03 .ok .none ([g, i, t] ++ r.bytes s))) := by
  have hbytes : r.bytes s.heard = r.bytes s := by cases r <;> rfl
  have hclear : r.clearFresh s.heard = (r.clearFresh s).heard := by cases r <;> rfl
  have htx : (r.clearFresh s).link.tx = s.link.tx := by cases r <;> rfl
  refine next_request_answered (body := getRequest) htakes (Nat.le_of_ble_eq_true rfl) ?_ htx
  simp only [getRequest, h, hbytes, hclear]
  rfl

theorem exec_getParam_item (htakes : s.takes) {bs : List Byte}
    (hreading : readingOf g.toNat i.toNat t.toNat = none)
    (hitem : itemBytes s.par g.toNat i.toNat t.toNat = some bs) : exec (.getParam [g, i, t]) s =
      .next (s.replied (plainReply 0x03 .ok .none ([g, i, t] ++ bs))) := by
  have hpar : s.heard.par = s.par := rfl
  refine next_request_replied (body := getRequest) htakes (Nat.le_of_ble_eq_true rfl) ?_
  simp only [getRequest, hreading, hpar, hitem]
  rfl

theorem exec_getParam_refused (htakes : s.takes)
    (hreading : readingOf g.toNat i.toNat t.toNat = none)
    (hitem : itemBytes s.par g.toNat i.toNat t.toNat = none) : exec (.getParam [g, i, t]) s =
      .next (s.replied (plainReply 0x03 .refused .badValue [])) := by
  have hpar : s.heard.par = s.par := rfl
  refine next_request_replied (body := getRequest) htakes (Nat.le_of_ble_eq_true rfl) ?_
  simp only [getRequest, hreading, hpar, hitem]
  rfl

end Answers

/-- Settles O57: a reading group by its address, an item by its triple, a point by its place in the
table; whatever is left names nothing. -/
theorem getReportsWhatItNames : Obligations.GetReportsWhatItNames := by
  intro g i t s htakes
  have hpoints (i t : Byte) : readingOf (7 : Byte).toNat i.toNat t.toNat = none :=
    readingOf_eq_none_of_address (.inl (by decide))
  refine ⟨?_, storeBytes_eq, fun hwritable => ?_, ?_, ?_⟩
  · rintro c bs (⟨rfl, rfl, rfl, rfl, rfl⟩ | ⟨ch, rfl, hch, rfl, rfl, rfl⟩
      | ⟨z, rfl, hz, rfl, rfl, rfl⟩ | ⟨rfl, rfl, rfl, rfl, rfl⟩ | ⟨rfl, rfl, rfl, rfl, rfl⟩
      | ⟨rfl, rfl, rfl, rfl, rfl⟩ | ⟨rfl, rfl, rfl, rfl, rfl⟩ | ⟨rfl, rfl, rfl, rfl, rfl⟩)
    · rw [← measurementBytes_eq]
      exact exec_getParam_reading htakes (r := .measurement) rfl
    · rw [← channelBytes_eq]
      exact exec_getParam_reading htakes (readingOf_channel hch)
    · rw [← zoneBytes_eq]
      exact exec_getParam_reading htakes (readingOf_zone hz)
    · rw [← loopBytes_eq]
      exact exec_getParam_reading htakes (r := .loop) rfl
    · rw [← burnerBytes_eq]
      exact exec_getParam_reading htakes (r := .burner) rfl
    · rw [← fuelBytes_eq]
      exact exec_getParam_reading htakes (r := .fuel) rfl
    · exact exec_getParam_reading htakes (r := .store) rfl
    · rw [← settingsBytes_eq]
      exact exec_getParam_reading htakes (r := .settings) rfl
  · have hgroup : g.toNat < 16 := by
      unfold writable at hwritable
      omega
    exact exec_getParam_item htakes (readingOf_eq_none_of_address (.inl hgroup))
      (itemBytes_of_writable hwritable)
  · rintro p bs rfl hpoint (⟨rfl, rfl⟩ | ⟨rfl, rfl⟩ | ⟨rfl, rfl⟩)
    · exact exec_getParam_item htakes (hpoints i 1)
        ((itemBytes_table ..).trans (tableItem_depth hpoint))
    · exact exec_getParam_item htakes (hpoints i 2)
        ((itemBytes_table ..).trans (tableItem_volume hpoint))
    · exact exec_getParam_item htakes (hpoints i 3)
        ((itemBytes_table ..).trans (tableItem_count hpoint))
  · intro hnothing
    by_cases hgroup : g = 7
    · subst hgroup
      refine exec_getParam_refused htakes (hpoints i t)
        ((itemBytes_table ..).trans (tableItem_eq_none ?_))
      change s.sett.working.table.length ≤ i.toNat ∨ t.toNat = 0 ∨ 3 < t.toNat
      bv_omega
    · have hunwritable : ¬ writable g.toNat i.toNat t.toNat := by
        intro hwritable
        simp only [hwritable, not_true_eq_false, and_false, false_or] at hnothing
        unfold writable at hwritable
        bv_omega
      refine exec_getParam_refused htakes ?_ (itemBytes_eq_none (by bv_omega) hunwritable)
      by_cases hitem : t = 0
      · exact readingOf_eq_none_of_address (by bv_omega)
      · exact readingOf_eq_none_of_item (hitem ∘ (toNat_eq_zero_iff t).2)

end Sys2Proof.Machine
end

section
/-! PROOF. Every command completes and changes only the parts it owns or tells (O3). -/

namespace Sys2Proof.Machine

/-! ## Starts and the transmit line -/

/-- A start keeps the queue of waiting commands (R152). -/
@[simp] theorem abandonAll_pending (p : Phase) (s : State) : (abandonAll p s).pending = s.pending :=
  hide_eq_iff.1 (hide_cutArray (F := [.store, .free]) s (by decide) (by decide)) .pending (by decide)

/-- A start may change every part but the queue. -/
theorem changesOnly_of_pending {s t : State} (h : t.pending = s.pending) :
    s.changesOnly (Instr.touches .powerOn) t := by
  intro b hb
  cases b
  case pending => exact h
  all_goals exact absurd (by decide) hb

/-- A frame that has left TXD keeps the queue, and so does the start it may order (R152). -/
theorem transmitDone_pending (s : State) : (transmitDone s).pending = s.pending := by
  have sends : ∀ t : State, (sendNext t).pending = t.pending := fun t =>
    hide_eq_iff.1 (hide_sendNext (F := [.link]) t (by decide)) .pending (by decide)
  unfold transmitDone replySent
  split
  · dsimp only
    split
    · refine (abandonAll_pending .released _).trans ?_
      split <;> rfl
    · rw [sends]
      split <;> rfl
  · exact sends _

/-! ## Every command -/

/-- The restart order changes nothing before its reply has left (R152, R177). -/
theorem setRequest_restart (s : State) : (setRequest restartPayload s).1 = s := by
  unfold setRequest restartPayload
  dsimp only
  rw [show paramOf (1 : Byte).toNat (0 : Byte).toNat (2 : Byte).toNat = some .restart by decide]
  dsimp only
  rw [show Param.restart.decode [1] = some 1 by decide]
  dsimp only [setValue]
  (repeat' split) <;> trivial

theorem deliverStage_hide (who : StageTaker) (s : State) :
    (deliverStage who s).hide [.loop, .zone, .burn, .posts]
      = s.hide [.loop, .zone, .burn, .posts] := by
  unfold deliverStage
  (repeat' split) <;> simp

/-- What a command answers agrees with the state before it outside the parts it touches. -/
theorem exec_hide (c : Instr) (s : State) :
    ∃ t, exec c s = .next t ∧ t.hide (Instr.touches c) = s.hide (Instr.touches c) := by
  cases c with
  | powerOn =>
    exact ⟨_, rfl, hide_eq_iff.2 (changesOnly_of_pending (abandonAll_pending .unpowered s))⟩
  | lossOfSupply =>
    exact ⟨_, rfl, hide_eq_iff.2 (changesOnly_of_pending (abandonAll_pending .unpowered s))⟩
  | restart =>
    refine ⟨_, rfl, hide_eq_iff.2 (changesOnly_of_pending ?_)⟩
    split
    · rfl
    · exact abandonAll_pending _ _
  | transmitComplete =>
    refine ⟨_, rfl, hide_eq_iff.2 (changesOnly_of_pending ?_)⟩
    unfold whenRunning
    split
    · exact transmitDone_pending s
    · rfl
  | endMade z =>
    exact ⟨_, rfl, hide_edge _ _ _ _ (.head _) fun t =>
      hide_whenRunning _ _ fun _ => by simp [Instr.touches]⟩
  | endBroken z =>
    exact ⟨_, rfl, hide_edge _ _ _ _ (.head _) fun t =>
      hide_whenRunning _ _ fun _ => by simp [Instr.touches]⟩
  | fuelStage takers =>
    exact ⟨_, rfl, hide_whenRunning _ _ fun _ => hide_foldl _ (fun _ _ => deliverStage_hide _ _) _ _⟩
  | valveSenseRise =>
    exact ⟨_, rfl, hide_edge _ _ _ _ (by decide) fun t => hide_ifBurning _ _ fun _ =>
      hide_outsideHold _ _ fun _ => by simp [Instr.touches]⟩
  | valveSenseFall =>
    exact ⟨_, rfl, hide_edge _ _ _ _ (by decide) fun t => hide_ifBurning _ _ fun _ =>
      hide_outsideHold _ _ fun _ => by simp [Instr.touches]⟩
  | lockoutSenseRise =>
    exact ⟨_, rfl, hide_edge _ _ _ _ (by decide) fun t => hide_ifBurning _ _ fun _ =>
      hide_outsideHold _ _ fun _ => by simp [Instr.touches]⟩
  | lockoutSenseFall =>
    exact ⟨_, rfl, hide_edge _ _ _ _ (by decide) fun t => hide_ifBurning _ _ fun _ =>
      hide_outsideHold _ _ fun _ => by simp [Instr.touches]⟩
  | antiCycleExpiry =>
    exact ⟨_, rfl, hide_ifBurning _ _ fun _ => by simp [Instr.touches, endTogether]⟩
  | noStartExpiry =>
    exact ⟨_, rfl, hide_ifBurning _ _ fun _ => by simp [Instr.touches, endTogether]⟩
  | overrunTimerExpiry =>
    exact ⟨_, rfl, hide_ifBurning _ _ fun _ => by simp [Instr.touches, endTogether]⟩
  | serviceKeyEdge =>
    refine ⟨_, rfl, ?_⟩
    split
    · simp [Instr.touches]
    · rfl
  | restartOrder =>
    exact ⟨_, rfl, hide_request _ _ _ (.head _) fun t => congrArg _ (setRequest_restart t)⟩
  | _ =>
    exact ⟨_, rfl, by simp [Instr.touches, hide_whenRunning, hide_request, hide_edge,
      hide_ifBurning]⟩

theorem exec_changesOnly {c : Instr} {s t : State} (h : exec c s = .next t) :
    s.changesOnly (Instr.touches c) t := by
  obtain ⟨u, hu, hide⟩ := exec_hide c s
  rw [hu] at h
  cases h
  exact hide_eq_iff.1 hide

/-- No command owns the queue of waiting commands. -/
theorem pending_notMem_touches (c : Instr) : Block.pending ∉ Instr.touches c := by
  cases c <;> simp [Instr.touches]

/-- Settles O3. -/
theorem commandsCompleteWithinTheirParts : Obligations.CommandsCompleteWithinTheirParts := by
  refine ⟨fun c s => ?_, fun _ _ _ => exec_changesOnly⟩
  obtain ⟨t, ht, -⟩ := exec_hide c s
  exact ⟨t, ht, exec_changesOnly ht .pending (pending_notMem_touches c)⟩

end Sys2Proof.Machine
end

section
/-! PROOF. Invariants of the outputs, the demands and the poll ring: the changes they are kept by, and the
operations built of those changes (O5, O7, O17). -/

namespace Sys2Proof.Machine

/-! ## What keeps an invariant -/

/-- The parts that bear neither on a channel's drive nor on a demand nor on the poll ring. -/
def restParts : List Block := [.inputs, .scan, .gauge, .store, .link, .svc, .free, .pending]

/-- Two working sets have the same patterns for a channel (Table 2-2). -/
def samePatterns (v w : Settings) (ch : Fin 10) : Prop :=
  v.channels[ch].standby = w.channels[ch].standby ∧ v.channels[ch].failSafe = w.channels[ch].failSafe

/-- What Table 2-4 reads of two entries is the same (R22). -/
def Channel.sameDrive (c d : Channel) : Prop :=
  c.override.map Prod.fst = d.override.map Prod.fst ∧ c.effective = d.effective
    ∧ (c.load = .tripped ↔ d.load = .tripped)

/-- A family of invariants, each but for a set of channels that are still to be resolved, which the
elementary changes of the state keep: those that do not bear on it, and those that OUT's resolving, an owner's
telling and the poll ring make. The invariant itself is the one but for no channel. -/
structure Kept (Q : Set (Fin 10) → State → Prop) : Prop where
  mono {X Y s} : X ⊆ Y → Q X s → Q Y s
  rest {X s t} : t.hide restParts = s.hide restParts → Q X s → Q X t
  onLoop {X s} {f : StatLoop → StatLoop} :
    (f s.loop).lastPolled = s.loop.lastPolled → Q X s → Q X (s.onLoop f)
  poll {X s} : s.running = true → Q X s → Q X (openPollSlot s)
  onSett {X s} {f : SetBlock → SetBlock} :
    s.running = false ∨ (∀ ch ∉ X, samePatterns (f s.sett).working s.sett.working ch) →
    Q X s → Q X (s.onSett f)
  onSupply {X s} {f : Supply → Supply} :
    s.running = false ∨ X = Set.univ ∨ (f s.supply).hold = s.supply.hold → Q X s → Q X (s.onSupply f)
  onBurn {X s} {f : Burn → Burn} :
    (f s.burn).state = s.burn.state ∧ (f s.burn).pulseTimer.isSome = s.burn.pulseTimer.isSome →
    Q X s → Q X (s.onBurn f)
  burnState {X s st} : Q X s → Q X (burnTo st s)
  pulseBegins {X s} {f : Burn → Burn} :
    (f s.burn).state = s.burn.state ∧ (f s.burn).pulseTimer.isSome = true →
    Q X s → Q X (postDemand 1 true (s.onBurn f))
  pulseEnds {X s} : Q X s → Q X (endPulse s)
  onFuel {X s} {f : Fuel → Fuel} : (f s.fuel).lineHeat = s.fuel.lineHeat → Q X s → Q X (s.onFuel f)
  lineHeat {X s} : Q X s → Q X (evaluateLineHeat s)
  onZoneBlock {X s} {f : ZoneBlock → ZoneBlock} :
    (∀ z : Fin 6, (f s.zone).zones[z].state = s.zone.zones[z].state)
      ∧ (f s.zone).pumpDemand = s.zone.pumpDemand → Q X s → Q X (s.onZoneBlock f)
  zoneState {X s z st timer} : Q X s → Q X (zoneTo z st timer s)
  pump {X s} : Q X s → Q X (formPump s)
  onPosts {X s} {f : Posts → Posts} : (f s.posts).demand = s.posts.demand → Q X s → Q X (s.onPosts f)
  onOut {X s} {f : Out → Out} :
    (f s.out).channels = s.out.channels ∧ (X = Set.univ ∨ (f s.out).mode = s.out.mode) →
    Q X s → Q X (s.onOut f)
  onChan {X s} {ch : Fin 10} {f : Channel → Channel} :
    (f s.out.channels[ch]).demand = s.out.channels[ch].demand
      ∧ (ch ∈ X ∨ (f s.out.channels[ch]).sameDrive s.out.channels[ch]) → Q X s → Q X (s.onChan ch f)
  takePosted {X s v rest} {ch : Fin 10} : s.posts.demand[ch] = v :: rest →
    ch ∈ X ∨ v = s.out.channels[ch].demand → Q X s →
    Q X ((s.onPosts fun p => { p with demand := p.demand.set ch rest }).onChan ch
      fun c => { c with demand := v })
  takeLast {X s} {ch : Fin 10} : ch ∈ X → Q X s → Q X (takeLastDemand ch s)
  resolve {X s} {ch : Fin 10} : Q (insert ch X) s → Q X (resolveChannel ch s)
  withPhase {X s p} : (s.running = false ∧ p ≠ .running) ∨ (X = Set.univ ∧ p = .running) →
    Q X s → Q X (s.withPhase p)
  first {X s p} : p ≠ .running → Q X (abandonAll p s)

/-- The invariant of a kept family, but for the channels of `X`. -/
def Kept.holds {Q : Set (Fin 10) → State → Prop} (_ : Kept Q) (X : Set (Fin 10)) (s : State) : Prop := Q X s

variable {Q : Set (Fin 10) → State → Prop} {k : Kept Q} {X : Set (Fin 10)} {s t : State}

/-- The end of start-up stands where the phase is left alone. -/
theorem running_of_hide (F : List Block) (e : t.hide F = s.hide F) (hF : Block.phase ∉ F) :
    t.running = s.running := by
  have hp : t.phase = s.phase := hide_eq_iff.1 e .phase hF
  simp only [State.running, hp]

namespace Kept.holds

/-! ## The elementary changes -/

theorem first {p : Phase} (hp : p ≠ .running) : k.holds X (abandonAll p s) := k.first hp

section Updates
variable (h : k.holds X s)
include h

theorem mono {Y : Set (Fin 10)} (hY : X ⊆ Y) : k.holds Y s := k.mono hY h
theorem rest (e : t.hide restParts = s.hide restParts) : k.holds X t := k.rest e h
theorem onInputs {f} : k.holds X (s.onInputs f) := h.rest (hide_onInputs _ _ (by decide))
theorem onScan {f} : k.holds X (s.onScan f) := h.rest (hide_onScan _ _ (by decide))
theorem onGauge {f} : k.holds X (s.onGauge f) := h.rest (hide_onGauge _ _ (by decide))
theorem onStore {f} : k.holds X (s.onStore f) := h.rest (hide_onStore _ _ (by decide))
theorem onLink {f} : k.holds X (s.onLink f) := h.rest (hide_onLink _ _ (by decide))
theorem onSvc {f} : k.holds X (s.onSvc f) := h.rest (hide_onSvc _ _ (by decide))
theorem withPending {q} : k.holds X (s.withPending q) := h.rest (hide_withPending _ _ (by decide))

theorem onLoop {f : StatLoop → StatLoop} (hf : (f s.loop).lastPolled = s.loop.lastPolled) :
    k.holds X (s.onLoop f) := k.onLoop hf h

theorem onNode {n f} : k.holds X (s.onNode n f) := h.onLoop rfl

theorem openPollSlot (hrun : s.running = true) : k.holds X (openPollSlot s) := k.poll hrun h

theorem onSett {f : SetBlock → SetBlock}
    (hf : ∀ ch ∉ X, samePatterns (f s.sett).working s.sett.working ch) :
    k.holds X (s.onSett f) := k.onSett (.inr hf) h

theorem onSettMarks {f : SetBlock → SetBlock} (hf : (f s.sett).working = s.sett.working) :
    k.holds X (s.onSett f) := h.onSett fun _ _ => by rw [hf]; exact ⟨rfl, rfl⟩

theorem onSupply {f : Supply → Supply} (hf : (f s.supply).hold = s.supply.hold) :
    k.holds X (s.onSupply f) := k.onSupply (.inr (.inr hf)) h

/-- The hold begins or ends: every channel is to be resolved. -/
theorem onHold {f : Supply → Supply} : k.holds Set.univ (s.onSupply f) :=
  k.onSupply (.inr (.inl rfl)) (k.mono (Set.subset_univ X) h)

theorem onBurn {f : Burn → Burn} (hf : (f s.burn).state = s.burn.state)
    (hpulse : (f s.burn).pulseTimer.isSome = s.burn.pulseTimer.isSome) :
    k.holds X (s.onBurn f) := k.onBurn ⟨hf, hpulse⟩ h

theorem burnTo {st} : k.holds X (burnTo st s) := k.burnState h
theorem endPulse : k.holds X (endPulse s) := k.pulseEnds h

theorem onFuel {f : Fuel → Fuel} (hf : (f s.fuel).lineHeat = s.fuel.lineHeat) :
    k.holds X (s.onFuel f) :=
  k.onFuel hf h

theorem evaluateLineHeat : k.holds X (evaluateLineHeat s) := k.lineHeat h

theorem onZoneBlock {f : ZoneBlock → ZoneBlock} (hz : (f s.zone).zones = s.zone.zones)
    (hp : (f s.zone).pumpDemand = s.zone.pumpDemand) : k.holds X (s.onZoneBlock f) :=
  k.onZoneBlock ⟨fun _ => by rw [hz], hp⟩ h

theorem onZone {z : Fin 6} {f : Zone → Zone} (hf : (f s.zone.zones[z]).state = s.zone.zones[z].state) :
    k.holds X (s.onZone z f) := by
  refine k.onZoneBlock ⟨fun y => ?_, rfl⟩ h
  by_cases hy : z = y
  · subst hy
    simpa using hf
  · have hv : z.val ≠ y.val := fun e => hy (Fin.ext e)
    simp [hv]

theorem zoneTo {z st timer} : k.holds X (zoneTo z st timer s) := k.zoneState h
theorem formPump : k.holds X (formPump s) := k.pump h

theorem onPosts {f : Posts → Posts} (hf : (f s.posts).demand = s.posts.demand) :
    k.holds X (s.onPosts f) := k.onPosts hf h

theorem beginPulse {f : Burn → Burn} (hf : (f s.burn).state = s.burn.state)
    (hpulse : (f s.burn).pulseTimer.isSome = true) :
    k.holds X (postDemand 1 true (s.onBurn f)) := k.pulseBegins ⟨hf, hpulse⟩ h

theorem onPumpProven {v : Bool} : k.holds X (s.onOut fun o => { o with pumpProven := v }) :=
  k.onOut ⟨rfl, .inr rfl⟩ h

/-- A change of the output mode leaves every channel to be resolved. -/
theorem onMode {m : OutMode} {c : ModeCause} :
    k.holds Set.univ (s.onOut fun o => { o with mode := m, cause := c }) :=
  k.onOut ⟨rfl, .inl rfl⟩ (k.mono (Set.subset_univ X) h)

theorem onChan {ch : Fin 10} {f : Channel → Channel}
    (hd : (f s.out.channels[ch]).demand = s.out.channels[ch].demand)
    (hf : (f s.out.channels[ch]).sameDrive s.out.channels[ch]) : k.holds X (s.onChan ch f) :=
  k.onChan ⟨hd, .inr hf⟩ h

/-- A change of an entry leaves its channel to be resolved. -/
theorem onChanAny {ch : Fin 10} {f : Channel → Channel}
    (hd : (f s.out.channels[ch]).demand = s.out.channels[ch].demand) :
    k.holds (insert ch X) (s.onChan ch f) :=
  k.onChan ⟨hd, .inl (Set.mem_insert ch X)⟩ (k.mono (Set.subset_insert ch X) h)

theorem resolveChannel {ch} : k.holds X (resolveChannel ch s) :=
  k.resolve (k.mono (Set.subset_insert ch X) h)

/-! ## Operations that run others -/

theorem ite {c : Prop} [Decidable c] (ht : k.holds X t) : k.holds X (if c then s else t) := by
  split
  · exact h
  · exact ht

omit h in
theorem iteFst {c : Prop} [Decidable c] {a b : State × Reply} (ha : k.holds X a.1)
    (hb : k.holds X b.1) : k.holds X (if c then a else b).1 := by
  split
  · exact ha
  · exact hb

theorem foldl {α : Type} {f : State → α → State} {l : List α}
    (hf : ∀ t a, k.holds X t → k.holds X (f t a)) : k.holds X (l.foldl f s) := by
  induction l generalizing s with
  | nil => exact h
  | cons a rest ih => exact ih (hf s a h)

theorem eachZone {f : Fin 6 → State → State} (hf : ∀ z t, k.holds X t → k.holds X (f z t)) :
    k.holds X (eachZone f s) := h.foldl fun t z => hf z t

theorem eachChannel {f : Fin 10 → State → State}
    (hf : ∀ ch t, k.holds X t → k.holds X (f ch t)) : k.holds X (eachChannel f s) :=
  h.foldl fun t ch => hf ch t

theorem takeHeld {p : Held → Bool} {f : State → Held → State}
    (hf : ∀ t x, k.holds X t → k.holds X (f t x)) : k.holds X (takeHeld p f s) := h.onInputs.foldl hf

section Conditional
variable {f : State → State} (hf : ∀ t, k.holds X t → k.holds X (f t))
include hf

theorem whenRunning : k.holds X (whenRunning f s) := ite (hf s h) h
theorem ifBurning : k.holds X (ifBurning f s) := ite (hf s h) h
theorem outsideHold : k.holds X (outsideHold f s) := ite h (hf s h)
theorem ofNewest {n : Nat} : k.holds X (ofNewest n f s) := ite (hf s h) h
theorem tellBurn {stands : Bool} : k.holds X (tellBurn stands f s) := ite (hf s h) h.onInputs
theorem edge {x : Input} {v : Bool} : k.holds X (edge x v f s) :=
  ite (ite h.onInputs h) (ite (hf _ h.onInputs) h)

end Conditional

/-- A block's own event while the part runs, where it matters that the part runs. -/
theorem whenIsRunning {f : State → State} (hf : s.running = true → k.holds X (f s)) :
    k.holds X (Machine.whenRunning f s) := by
  unfold Machine.whenRunning
  split
  · next hrun => exact hf hrun
  · exact h

section Requests
variable {f : State → State × Reply} (hf : ∀ t, k.holds X t → k.holds X (f t).1)
include hf

theorem unlessBusy {kind : Byte} : k.holds X (unlessBusy kind f s).1 := iteFst (b := f s) h (hf s h)
theorem unlessHeld {kind : Byte} : k.holds X (unlessHeld kind f s).1 := iteFst (a := f s) (hf s h) h

end Requests

end Updates

/-- Channels resolved one after the other leave none of them to be resolved (R22). -/
theorem foldl_resolveChannel (l : List (Fin 10)) (h : k.holds (X ∪ {ch | ch ∈ l}) s) :
    k.holds X (l.foldl (fun t ch => Machine.resolveChannel ch t) s) := by
  induction l generalizing s with
  | nil => exact h.mono (by simp)
  | cons ch rest ih =>
    refine ih (k.resolve (h.mono fun c hc => ?_))
    rw [Set.mem_insert_iff, Set.mem_union, Set.mem_ofPred_eq]
    simp only [Set.mem_union, Set.mem_ofPred_eq, List.mem_cons] at hc
    tauto

/-- With all ten resolved none is left to be resolved (R22). -/
theorem resolveAll (h : k.holds Set.univ s) : k.holds X (resolveAll s) :=
  foldl_resolveChannel _ (h.mono fun c _ => .inr (mem_allChannels c))

end Kept.holds

end Sys2Proof.Machine
end

section
/-! PROOF. The operations of every block, built of the changes that keep an invariant (O5, O7, O17). -/

namespace Sys2Proof.Machine

variable {Q : Set (Fin 10) → State → Prop} {k : Kept Q} {X : Set (Fin 10)} {s t : State}

/-- A channel's entry written back changes nothing. -/
theorem onChan_self {s : State} (ch : Fin 10) {f : Channel → Channel} (hf : f (s.chan ch) = s.chan ch) :
    s.onChan ch f = s := by
  have hset : s.out.channels.set ch (f s.out.channels[ch]) = s.out.channels :=
    (congrArg (s.out.channels.set ch) hf).trans (vector_set_self _ _)
  simp only [State.onChan, State.onOut, hset]

/-- The channels whose patterns a stored parameter changes (Table 2-2). -/
def Param.repatterned : Param → Set (Fin 10)
  | .channel ch .failSafe => {ch}
  | .channel ch .standby => {ch}
  | _ => ∅

/-- A stored parameter leaves the patterns of every other channel (R177). -/
theorem store_samePatterns {p : Param} (v : Int) (w : Settings) {ch : Fin 10} (hch : ch ∉ p.repatterned) :
    samePatterns (p.store w v) w ch := by
  cases p with
  | channel c i =>
    by_cases hc : c = ch
    · subst hc
      cases i with
      | failSafe => exact (hch rfl).elim
      | standby => exact (hch rfl).elim
      | minMA => simp [samePatterns, Param.store, ChannelItem.store]
      | maxMA => simp [samePatterns, Param.store, ChannelItem.store]
    · have hv : c.val ≠ ch.val := fun e => hc (Fin.ext e)
      simp [samePatterns, Param.store, hv]
  | burner i => cases i <;> exact ⟨rfl, rfl⟩
  | tank i => cases i <;> exact ⟨rfl, rfl⟩
  | fuel i => cases i <;> exact ⟨rfl, rfl⟩
  | silence | restart | sink | zone => exact ⟨rfl, rfl⟩

theorem loseSlot_lastPolled (n : Fin 15) (l : StatLoop) : (loseSlot n l).lastPolled = l.lastPolled := by
  unfold loseSlot
  (repeat' split) <;> rfl

theorem minute_state (zn : Zone) : zn.minute.state = zn.state := by
  unfold Zone.minute
  split <;> rfl

theorem see_state (v : Sighted) (zn : Zone) : (zn.see v).state = zn.state := by
  unfold Zone.see
  split <;> rfl

theorem take_state (kind : NodeKind) (r : Report) (zn : Zone) : (zn.take kind r).state = zn.state := by
  unfold Zone.take
  dsimp only
  (repeat' split) <;> exact see_state _ _

namespace Kept.holds

variable (h : k.holds X s)
include h

/-! ## LINK's and STORE's shared operations -/

theorem startTask {kind : TaskKind} : k.holds X (startTask kind s) :=
  h.rest (by simp [restParts])

theorem postNotice {n : Notice} : k.holds X (postNotice n s) :=
  h.rest (by simp [restParts])

theorem endTask {o r size} : k.holds X (endTask o r size s) :=
  h.rest (by simp [restParts])

theorem endReading {r : ReadTask} : k.holds X (endReading r s) :=
  h.rest (by simp [restParts])

theorem startErase (e : startErase s = some t) : k.holds X t := by
  unfold Machine.startErase at e
  repeat' split at e
  all_goals cases e
  · exact h.onStore
  · exact h.onStore.onSettMarks rfl

theorem serveOnce (e : serveOnce s = some t) : k.holds X t := by
  unfold Machine.serveOnce at e
  split at e
  · cases e
    exact h.endReading
  · split at e
    · cases e
      exact h.onStore
    · exact h.startErase e

theorem serve {n} : k.holds X (serve n s) := by
  induction n generalizing s with
  | zero => exact h
  | succ n ih =>
    unfold Machine.serve
    split
    · split
      · next hserve => exact ih (h.serveOnce hserve)
      · exact h
    · exact h

theorem kick : k.holds X (kick s) := by
  unfold Machine.kick
  split
  · exact h.serve
  · exact ite h.onStore.serve h
  · exact h

theorem appendRecord {p tag} : k.holds X (appendRecord p tag s) := h.onStore.kick

theorem takeAnswers {n} (hanswer : ∀ t a, k.holds X t → k.holds X (burnAnswer a t)) :
    k.holds X (takeAnswers n s) := by
  induction n generalizing s with
  | zero => exact h
  | succ n ih =>
    unfold Machine.takeAnswers
    split
    · exact h
    · exact ih (hanswer _ _ h.onStore)

theorem postPump {v} : k.holds X (postPump v s) := h.onPosts rfl

theorem postStage {g} : k.holds X (postStage g s) := h.onPosts rfl

theorem postHeat {v} : k.holds X (postHeat v s) := h.onPosts rfl

theorem postOverrun {v} : k.holds X (postOverrun v s) := h.onPosts rfl

theorem lookAtRotation : k.holds X (lookAtRotation s) := h.onStore.kick

theorem keepVerified {image good} : k.holds X (keepVerified image good s) := by
  unfold Machine.keepVerified
  dsimp only
  repeat' split
  · exact (h.onStore.onStore.onSettMarks rfl).postNotice.endTask.appendRecord
  · exact (h.onStore.onStore.onSettMarks rfl).endTask.appendRecord
  · exact (h.onStore.onSettMarks rfl).endTask.kick

theorem keepBlockDone {good} : k.holds X (keepBlockDone good s) := by
  unfold Machine.keepBlockDone
  dsimp only
  split
  · split
    · exact h.onStore.onStore.kick
    · exact h.onStore.onStore.keepVerified
  · exact h.onStore.kick

theorem settingsErased : k.holds X (settingsErased s) := h.onStore.onSettMarks rfl

theorem eraseDone : k.holds X (eraseDone s) := by
  unfold Machine.eraseDone
  split
  · exact kick h.onStore
  · exact h.settingsErased.kick
  · exact h

theorem programDone {good} : k.holds X (programDone good s) := by
  unfold Machine.programDone
  split
  · exact h.onStore.lookAtRotation
  · exact h.onStore.lookAtRotation
  · exact h.keepBlockDone
  · exact h

theorem internalWrite {n i v} : k.holds X (internalWrite n i v s) := by
  unfold Machine.internalWrite
  split
  · exact h.onLoop rfl
  · exact h.onNode

theorem loopTakesStage {g} : k.holds X (loopTakesStage g s) :=
  foldl (h.onLoop rfl) fun _ _ h1 => ite h1.internalWrite h1

theorem markWriteFailed {n v} : k.holds X (markWriteFailed n v s) := by
  unfold Machine.markWriteFailed
  split
  · exact h.onZone rfl
  · exact h

theorem writeToZoneNode {z i v} : k.holds X (writeToZoneNode z i v s) := by
  unfold Machine.writeToZoneNode
  split
  · exact h.internalWrite
  · exact h

theorem queueStale {n z i} : k.holds X (queueStale n z i s) := by
  unfold Machine.queueStale
  split
  · split
    · exact (h.onLoop rfl).onNode
    · exact h
  · exact h

theorem writeOutcome {acknowledged} : k.holds X (writeOutcome acknowledged s) := by
  unfold Machine.writeOutcome
  split
  · exact h
  · split
    · exact (h.onLoop rfl).markWriteFailed
    · split
      · exact h.onLoop rfl
      · exact ite (h.onLoop rfl).markWriteFailed (h.onLoop rfl)

theorem unbindNode {n} : k.holds X (unbindNode n s) := by
  have hloop := h.onLoop (f := fun l =>
    { loseSlot n l with queue := l.queue.filter fun e => e.node != n }) (loseSlot_lastPolled n s.loop)
  exact ite hloop.onNode.postNotice hloop.onNode

theorem bindNode {n z} : k.holds X (bindNode n z s) := h.onNode

theorem rebindNode {n} : k.holds X (rebindNode n s) := by
  unfold Machine.rebindNode
  dsimp only
  split
  · exact h
  · split
    · exact (h.unbindNode.ite h).bindNode
    · exact h.unbindNode.ite h

theorem slotAfterPoll (hrun : s.running = true) : k.holds X (slotAfterPoll s) := by
  unfold Machine.slotAfterPoll
  split
  · exact h.openPollSlot hrun
  · exact h.onLoop rfl

theorem queueStaleItems {n z} : k.holds X (queueStaleItems n z s) :=
  h.queueStale.queueStale.queueStale

theorem rebindNodes : k.holds X (rebindNodes s) := by
  have hfold := h.foldl (l := allNodes) (f := fun t n => Machine.rebindNode n t)
    fun _ _ ht => ht.rebindNode
  unfold Machine.rebindNodes
  dsimp only
  split
  · next hrun => exact hfold.openPollSlot (Bool.and_eq_true_iff.1 hrun).1
  · exact hfold

theorem beginReply : k.holds X (beginReply s) :=
  h.rest (by simp [restParts])

theorem hunt : k.holds X (hunt s) :=
  h.rest (by simp [restParts])

theorem formHeat : k.holds X (formHeat s) := h.ite (h.onZoneBlock rfl rfl).postHeat

theorem formOutputs : k.holds X (formOutputs s) := h.formHeat.formPump

theorem enterOpening {z} : k.holds X (enterOpening z s) := h.zoneTo.zoneTo.ite h.zoneTo

theorem enterIdle {z} : k.holds X (enterIdle z s) := h.zoneTo.enterOpening.ite h.zoneTo

theorem enterClosing {z} : k.holds X (enterClosing z s) := h.zoneTo.ite h.zoneTo.enterIdle

theorem closeHolds : k.holds X (closeHolds s) := h.foldl (fun _ _ h1 => h1.enterClosing.ite h1)

theorem zonesTakeOverrun {v} : k.holds X (zonesTakeOverrun v s) :=
  ((h.onZoneBlock rfl rfl).ite (h.onZoneBlock rfl rfl).closeHolds).formOutputs

theorem zoneHoldBegins {z} : k.holds X (zoneHoldBegins z s) := h.zoneTo.writeToZoneNode.ite h.zoneTo

theorem enterFault {z cause} : k.holds X (enterFault z cause s) :=
  (h.zoneTo.onZone rfl).postNotice.writeToZoneNode

theorem callRises {z} : k.holds X (callRises z s) := by
  unfold Machine.callRises
  split
  · exact h.ite h.enterOpening
  · exact h.zoneTo
  · exact h

theorem closeOtherHolds {z} : k.holds X (closeOtherHolds z s) :=
  h.foldl (fun _ _ h1 => h1.enterClosing.ite h1)

theorem callFalls {z} : k.holds X (callFalls z s) := by
  unfold Machine.callFalls
  split
  · exact h.enterClosing
  · exact h.enterClosing.ite h.closeOtherHolds.zoneTo
  · exact h

theorem formCall {z} : k.holds X (formCall z s) :=
  h.ite (((h.onZone rfl).callRises.ite (h.onZone rfl).callFalls).formOutputs)

theorem evaluateCall {z} : k.holds X (evaluateCall z s) := (h.onZone rfl).formCall

theorem deriveTarget {z} : k.holds X (deriveTarget z s) :=
  h.ite (h.onZone rfl).writeToZoneNode.evaluateCall

theorem zoneHoldEnds {z} : k.holds X (zoneHoldEnds z s) := h.enterOpening.ite h

theorem zonesHoldEnds : k.holds X (zonesHoldEnds s) :=
  (h.eachZone (fun _ _ h1 => h1.zoneHoldEnds)).formOutputs

theorem resetView {z} : k.holds X (resetView z s) := h.onZone (see_state _ _)

theorem driveSink {z v} : k.holds X (driveSink z v s) := (h.onZone rfl).formCall

theorem evaluateBoilerFrost : k.holds X (evaluateBoilerFrost s) :=
  h.ite (h.onZoneBlock rfl rfl).driveSink.formOutputs

theorem modeChanged {z} : k.holds X (modeChanged z s) := h.deriveTarget.evaluateCall

theorem zonesTakeMode : k.holds X (zonesTakeMode s) :=
  (h.eachZone (fun _ _ h1 => h1.modeChanged)).formOutputs

theorem zoneLosesNode {z} : k.holds X (zoneLosesNode z s) := by
  have hseen := h.onZone (z := z) (f := fun zn =>
    { zn.see .blind with temp := none, dial := none, contact := none, statLost := true }) (see_state _ _)
  exact hseen.deriveTarget.evaluateCall.formOutputs

theorem zoneHasNoReport {z} : k.holds X (zoneHasNoReport z s) :=
  (h.onZone (see_state _ _)).evaluateCall.formOutputs.ite h

theorem zonesHoldBegins : k.holds X (zonesHoldBegins s) :=
  (h.eachZone (fun _ _ h1 => h1.zoneHoldBegins)).formOutputs

theorem zonesTakeStage {g} : k.holds X (zonesTakeStage g s) :=
  ((h.onZoneBlock rfl rfl).eachZone (fun _ _ h1 => h1.deriveTarget)).formOutputs

theorem zoneTakesReport {z r} : k.holds X (zoneTakesReport z r s) :=
  (h.onZone (take_state _ _ _)).deriveTarget.evaluateCall.formOutputs

theorem zoneChannelFault {z} : k.holds X (zoneChannelFault z s) := h.ite h.enterFault.formOutputs

theorem clearLeakFlag : k.holds X (clearLeakFlag s) := ite (postNotice (h.onFuel rfl)) h

theorem restartPeriod : k.holds X (restartPeriod s) := h.onFuel rfl

theorem ungaugedEnd : k.holds X (ungaugedEnd s) := restartPeriod (h.onFuel rfl)

theorem takeDeferred : k.holds X (takeDeferred s) := h.ungaugedEnd.ite h

theorem dropSettling : k.holds X (dropSettling s) := takeDeferred (h.onFuel rfl)

theorem raiseLeak {d} : k.holds X (raiseLeak d s) := postNotice (appendRecord (h.onFuel rfl))

theorem judgeLoss : k.holds X (judgeLoss s) :=
  ite (onFuel (h.onFuel rfl) rfl) (ite (onFuel (h.onFuel rfl) rfl) (raiseLeak (h.onFuel rfl)))

theorem setReference {v} : k.holds X (setReference v s) := h.onFuel rfl

theorem reconcile : k.holds X (reconcile s) := h.judgeLoss.appendRecord.setReference.restartPeriod

theorem setStage {g} : k.holds X (setStage g s) := ite h (postNotice (postStage (h.onFuel rfl)))

theorem fuelFaultEntered : k.holds X (fuelFaultEntered s) :=
  ite (dropSettling (h.onFuel rfl)) (h.onFuel rfl)

theorem fuelTableReplaced : k.holds X (fuelTableReplaced s) :=
  ite (dropSettling (h.onFuel rfl)) (h.onFuel rfl)

theorem rebase {v} : k.holds X (rebase v s) := restartPeriod (h.setReference.onFuel rfl)

theorem startSettling {v} : k.holds X (startSettling v s) := h.onFuel rfl

theorem confirmDelivery {final} : k.holds X (confirmDelivery final s) :=
  takeDeferred (postNotice (onFuel (setStage (clearLeakFlag (onFuel (setReference (appendRecord
    (h.onFuel rfl))) rfl))) rfl))

theorem finishSettling {final} : k.holds X (finishSettling final s) :=
  h.confirmDelivery.ite h.dropSettling

theorem settleValue {v x} : k.holds X (settleValue v x s) :=
  ite (finishSettling (h.onFuel rfl)) (h.onFuel rfl)

theorem actOnGood {v} : k.holds X (actOnGood v s) := by
  unfold Machine.actOnGood
  split
  · exact h.rebase
  · exact ite (startSettling (h.onFuel rfl)) h.rebase
  · split
    · exact h.settleValue
    · exact h.startSettling.ite h

theorem restoreFuel : k.holds X (restoreFuel s) := postStage (h.onFuel rfl)

theorem fuelMeters {sec} : k.holds X (fuelMeters sec s) := by
  unfold Machine.fuelMeters
  exact onGauge (h.onFuel rfl)

theorem computeStage {v} : k.holds X (computeStage v s) := h.setStage

theorem fuelTakesValue {v st} : k.holds X (fuelTakesValue v st s) :=
  ite (actOnGood (computeStage (h.onFuel rfl))) (computeStage (h.onFuel rfl))

theorem addTrendEntry : k.holds X (addTrendEntry s) := h.onFuel rfl

theorem periodEnds : k.holds X (periodEnds s) := ite (h.onFuel rfl) (ite h.reconcile h.ungaugedEnd)

theorem computeVolumes {depth} : k.holds X (computeVolumes depth s) :=
  h.rest (by simp [restParts])

theorem handValue {v st} : k.holds X (handValue v st s) := h.onGauge.fuelTakesValue

theorem replaceTable {ps} : k.holds X (replaceTable ps s) := by
  have hstored := (h.onSett (f := fun b => { b with working := { b.working with table := ps }, changed := true })
    fun _ _ => ⟨rfl, rfl⟩).fuelTableReplaced
  unfold Machine.replaceTable
  dsimp only
  split
  · exact hstored.computeVolumes.handValue
  · exact hstored.onGauge

theorem handEstimate : k.holds X (handEstimate s) := h.handValue

theorem handFiltered : k.holds X (handFiltered s) := h.computeVolumes.handValue

theorem leaveGaugeFault : k.holds X (leaveGaugeFault s) := postNotice (handFiltered h.onGauge)

theorem takeGood {c d} : k.holds X (takeGood c d s) :=
  h.onGauge.ite (h.onGauge.leaveGaugeFault.ite h.onGauge.handFiltered)

theorem enterGaugeFault {cause} : k.holds X (enterGaugeFault cause s) :=
  h.onGauge.fuelFaultEntered.handEstimate.postNotice

theorem takeFaulty {c} : k.holds X (takeFaulty c s) :=
  h.onGauge.onGauge.ite (h.onGauge.enterGaugeFault.ite h.onGauge.onGauge)

theorem takeSample {c} : k.holds X (takeSample c s) := h.takeFaulty.ite h.takeGood

theorem takeDue {c measureFault} : k.holds X (takeDue c measureFault s) :=
  ((h.ite h.takeSample).handEstimate).ite (h.ite h.takeSample)

theorem gaugeTakesMeasureFault : k.holds X (gaugeTakesMeasureFault s) := h.onGauge.ite h.enterGaugeFault

theorem endLoad {o r} : k.holds X (endLoad o r s) :=
  h.rest (by simp [restParts])

theorem gaugeTakesPass : k.holds X (gaugeTakesPass s) :=
  h.rest (by simp [restParts])

theorem restoreGauge : k.holds X (restoreGauge s) :=
  h.rest (by simp [restParts])

theorem runOverrun : k.holds X (runOverrun s) := ite (h.onBurn rfl rfl) (postOverrun (h.onBurn rfl rfl))

theorem stopOverrun : k.holds X (stopOverrun s) := ite (postOverrun (h.onBurn rfl rfl)) h

theorem askOverrun : k.holds X (askOverrun s) := h.stopOverrun.ite h.runOverrun

theorem addAntiCycle : k.holds X (addAntiCycle s) := ite h (h.onBurn rfl rfl)

theorem afterFiring : k.holds X (afterFiring s) := h.addAntiCycle.askOverrun

theorem enterFiring : k.holds X (enterFiring s) := h.burnTo.onBurn rfl rfl

theorem enterCalled : k.holds X (enterCalled s) :=
  ite (enterFiring (stopOverrun (h.burnTo.onBurn rfl rfl))) (stopOverrun (h.burnTo.onBurn rfl rfl))

theorem lookCall : k.holds X (lookCall s) := h.enterCalled.ite h

theorem goIdle : k.holds X (goIdle s) := h.burnTo.lookCall.ite h.burnTo

theorem endTogether : k.holds X (endTogether s) := h.onBurn rfl rfl

theorem withdraw : k.holds X (withdraw s) :=
  ite (ite (afterFiring (h.burnTo.onBurn rfl rfl)) (h.burnTo.onBurn rfl rfl)) (onBurn (goIdle (onBurn (ite
    (afterFiring (h.burnTo.onBurn rfl rfl)) (h.burnTo.onBurn rfl rfl)) rfl rfl)) rfl rfl)

theorem findStopping : k.holds X (findStopping s) := ite (h.burnTo.onBurn rfl rfl) h

theorem addReason {r} : k.holds X (addReason r s) := by
  unfold Machine.addReason
  dsimp only
  split
  · exact h
  · split
    · exact burnTo (h.onBurn rfl rfl)
    · exact withdraw (h.onBurn rfl rfl)
    · exact withdraw (h.onBurn rfl rfl)
    · exact withdraw (h.onBurn rfl rfl)
    · exact h.onBurn rfl rfl

theorem removeReason {r} : k.holds X (removeReason r s) :=
  ite (ite (goIdle (h.onBurn rfl rfl)) (h.onBurn rfl rfl)) h

theorem setReason {r v} : k.holds X (setReason r v s) := h.addReason.ite h.removeReason

theorem runAccumulator {v} : k.holds X (runAccumulator v s) := h.onBurn rfl rfl

theorem endNoStart : k.holds X (endNoStart s) := postNotice (appendRecord (withdraw (h.onBurn rfl rfl)))

theorem windowExpires : k.holds X (windowExpires s) := by
  unfold Machine.windowExpires
  split
  · exact ite (h.burnTo.onBurn rfl rfl) h.endNoStart
  · exact h.endNoStart

theorem setRunaway {v} : k.holds X (setRunaway v s) := ite h (postNotice (h.onBurn rfl rfl))

theorem runawayIfIdle : k.holds X (runawayIfIdle s) := h.setRunaway.ite h

theorem burnTakesPump {v} : k.holds X (burnTakesPump v s) :=
  ite h (ite (ite (lookCall (h.onBurn rfl rfl)) (h.onBurn rfl rfl))
    (ite (withdraw (h.onBurn rfl rfl)) (h.onBurn rfl rfl)))

theorem countStart : k.holds X (countStart s) := h.onBurn rfl rfl

theorem evaluateOverheat : k.holds X (evaluateOverheat s) := by
  unfold Machine.evaluateOverheat
  split
  · exact h
  · exact h.addReason.ite (h.removeReason.ite h)

theorem burnTakesFlow : k.holds X (burnTakesFlow s) :=
  h.evaluateOverheat.stopOverrun.ite h.evaluateOverheat

theorem burnTakesHeat {v} : k.holds X (burnTakesHeat v s) :=
  ite h (ite (ite (lookCall (h.onBurn rfl rfl)) (h.onBurn rfl rfl)) (postOverrun (ite (withdraw (h.onBurn rfl rfl))
    (h.onBurn rfl rfl))))

theorem burnValveFall : k.holds X (burnValveFall s) := by
  unfold Machine.burnValveFall
  split
  · exact h.burnTo
  · exact goIdle (h.onBurn rfl rfl)
  · exact h

theorem postFiring : k.holds X (postFiring s) := ite (h.onBurn rfl rfl) (fuelMeters (h.onBurn rfl rfl))

theorem valveRiseIn : k.holds X (valveRiseIn s) := by
  unfold Machine.valveRiseIn
  dsimp only
  split
  · exact h.enterFiring.countStart
  · exact h.enterFiring.countStart
  · exact ite h.countStart (afterFiring (h.countStart.onBurn rfl rfl))
  · exact h.setRunaway
  · exact h.setRunaway
  · exact h

theorem burnValveRise : k.holds X (burnValveRise s) := h.findStopping.valveRiseIn

theorem valveRises : k.holds X (valveRises s) := h.runAccumulator.burnValveRise

theorem valveFalls : k.holds X (valveFalls s) := h.setRunaway.runAccumulator.postFiring.burnValveFall

theorem burnTakesStage {g} : k.holds X (burnTakesStage g s) := setReason (h.onBurn rfl rfl)

theorem askStore {tag p} : k.holds X (askStore tag p s) := appendRecord (ite (h.onBurn rfl rfl) h)

theorem enterHeld {r} : k.holds X (enterHeld r s) := postNotice (h.burnTo.onBurn rfl rfl)

theorem endResetTask {o r} : k.holds X (endResetTask o r s) := ite (endTask (h.onBurn rfl rfl)) h

theorem askResetRecord : k.holds X (askResetRecord s) :=
  ((h.askStore.ite h.endResetTask.enterHeld).ite h.askStore).ite h

theorem askNow {a} : k.holds X (askNow s a) := by
  unfold Machine.askNow
  split
  · exact h.askStore
  · exact h.askResetRecord

theorem askOwed : k.holds X (askOwed s) := by
  unfold Machine.askOwed
  split
  · exact ite h (askStore (h.onBurn rfl rfl))
  · exact h

theorem askAll {l} : k.holds X (askAll l s) :=
  ite (h.foldl fun _ _ ht => ht.askNow) (askOwed (h.onBurn rfl rfl))

theorem askLockout : k.holds X (askLockout s) := by
  unfold Machine.askLockout
  split
  · exact ite h (askAll (h.onBurn rfl rfl))
  · exact h

theorem beginReset {o} : k.holds X (beginReset o s) :=
  ite (askLockout (h.burnTo.onBurn rfl rfl)) (askAll (h.burnTo.onBurn rfl rfl))

theorem evaluateUntasked : k.holds X (evaluateUntasked s) :=
  (h.beginReset.ite h.enterHeld).ite h.enterHeld

theorem owedStored : k.holds X (owedStored s) :=
  ite (foldl (onBurn (h.onBurn rfl rfl) rfl rfl) fun _ _ ht => ht.askNow) (askOwed (h.onBurn rfl rfl))

theorem enterLatched {r} : k.holds X (enterLatched r s) :=
  endResetTask (postNotice (askAll (endPulse (h.burnTo.onBurn rfl rfl))))

theorem startProofLimit : k.holds X (startProofLimit s) := ite (h.onBurn rfl rfl) h

theorem takeDark : k.holds X (takeDark s) := by
  unfold Machine.takeDark
  dsimp only
  split
  · exact h.askLockout.enterLatched
  · exact goIdle (startProofLimit (onBurn (askAll (onBurn (ite h.askLockout h) rfl rfl)) rfl rfl))

theorem takePress : k.holds X (takePress s) := by
  unfold Machine.takePress
  split
  · exact h.beginReset
  · exact h.ite h.beginReset
  · exact ite (h.onBurn rfl rfl) h
  · exact h

theorem takeWaiting : k.holds X (takeWaiting s) :=
  ite (takeDark (h.onBurn rfl rfl)) (ite (takePress (h.onBurn rfl rfl)) (h.onBurn rfl rfl))

theorem awaitMains : k.holds X (awaitMains s) := h.burnTo.onBurn rfl rfl

theorem resetRefused : k.holds X (resetRefused s) :=
  ite h.endResetTask.enterHeld (takeDark (h.endResetTask.enterHeld.onBurn rfl rfl))

theorem lockoutRefused : k.holds X (lockoutRefused s) := by
  unfold Machine.lockoutRefused
  dsimp only
  split
  · exact ite (awaitMains (h.onBurn rfl rfl))
      (takeWaiting (enterHeld (endResetTask (onBurn (h.onBurn rfl rfl) rfl rfl))))
  · exact resetRefused (h.onBurn rfl rfl)
  · exact h.onBurn rfl rfl

theorem enterCooldown : k.holds X (enterCooldown s) := h.burnTo.onBurn rfl rfl

theorem lockedHoldEnds : k.holds X (lockedHoldEnds s) := by
  unfold Machine.lockedHoldEnds
  split
  · split
    · exact h.enterCooldown
    · exact enterHeld (h.onBurn rfl rfl)
    · exact h.onBurn rfl rfl
  · exact h.goIdle

theorem retryHeld : k.holds X (retryHeld s) := (h.askLockout.ite (h.ite h.evaluateUntasked)).ite h

theorem setHeldReason {r} : k.holds X (setHeldReason r s) := ite h (postNotice (h.onBurn rfl rfl))

theorem evaluateHeld : k.holds X (evaluateHeld s) :=
  (((h.ite h.beginReset).ite h.setHeldReason).ite h.setHeldReason).ite h

theorem heldMinute : k.holds X (heldMinute s) := h.retryHeld.ite h.evaluateHeld

theorem raiseRelock : k.holds X (raiseRelock s) := h.onBurn rfl rfl

theorem enterLocked {cause left} : k.holds X (enterLocked cause left s) :=
  askAll (onBurn (ite (ite (endResetTask (raiseRelock (onBurn (postNotice (onBurn (ite (askOverrun
    (h.burnTo.onBurn rfl rfl)) (h.burnTo.onBurn rfl rfl)) rfl rfl)) rfl rfl))) (raiseRelock (onBurn (postNotice (onBurn
    (ite (askOverrun (h.burnTo.onBurn rfl rfl)) (h.burnTo.onBurn rfl rfl)) rfl rfl)) rfl rfl))) (postNotice (onBurn (ite
    (askOverrun (h.burnTo.onBurn rfl rfl)) (h.burnTo.onBurn rfl rfl)) rfl rfl))) rfl rfl)

theorem burnStateHoldEnds : k.holds X (burnStateHoldEnds s) := by
  unfold Machine.burnStateHoldEnds
  split
  · exact h.lockedHoldEnds.ite h
  · exact h.heldMinute.ite h.takeDark
  · exact (h.enterLocked.ite (h.goIdle.ite h)).ite h

theorem resetSucceeds : k.holds X (resetSucceeds s) := goIdle (h.onBurn rfl rfl)

theorem burnLampFall : k.holds X (burnLampFall s) := by
  unfold Machine.burnLampFall
  split
  · exact h.takeDark
  · exact h.takeDark
  · exact ite (h.onBurn rfl rfl) h
  · split
    · exact h.onBurn rfl rfl
    · exact h
    · exact h.resetSucceeds
  · exact h

theorem abandonReset : k.holds X (abandonReset s) :=
  ite (askAll (awaitMains (h.endPulse.onBurn rfl rfl))) (awaitMains (h.endPulse.onBurn rfl rfl))

theorem askMissingLatch : k.holds X (askMissingLatch s) := by
  unfold Machine.askMissingLatch
  split
  · exact askAll (h.onBurn rfl rfl)
  · exact h

theorem lockoutStoredDecides : k.holds X (lockoutStoredDecides s) := by
  unfold Machine.lockoutStoredDecides
  split
  · exact h.enterLatched
  · exact h.awaitMains.ite h.enterCooldown.takeWaiting

theorem lockoutStored : k.holds X (lockoutStored s) := by
  unfold Machine.lockoutStored
  dsimp only
  split
  · exact lockoutStoredDecides (h.onBurn rfl rfl)
  · exact lockoutStoredDecides (h.onBurn rfl rfl)
  · split
    · exact enterLatched (h.onBurn rfl rfl)
    · exact askAll (h.onBurn rfl rfl)
  · exact h.onBurn rfl rfl

theorem resetStoredActs : k.holds X (resetStoredActs s) := by
  unfold Machine.resetStoredActs
  exact ite (h.startProofLimit.beginPulse rfl rfl) h.startProofLimit.resetSucceeds

theorem resetStored {o stamp} : k.holds X (resetStored o stamp s) := by
  unfold Machine.resetStored
  dsimp only
  split
  · exact askAll (onBurn (ite (h.onBurn rfl rfl) h) rfl rfl)
  · exact ite (resetStoredActs (ite (h.onBurn rfl rfl) h)) (ite (h.onBurn rfl rfl) h)

theorem resetRecordRefused : k.holds X (resetRecordRefused s) :=
  ite (h.onBurn rfl rfl) (ite h.resetRefused h)

theorem becomesOwed {p} : k.holds X (becomesOwed p s) := h.onBurn rfl rfl

theorem refuseAsk {a} : k.holds X (refuseAsk s a) := by
  unfold Machine.refuseAsk
  split
  · exact h.ofNewest fun _ ht => ht.lockoutRefused
  · exact h.becomesOwed
  · exact h.onBurn rfl rfl
  · exact h.resetRecordRefused
  · exact h
  · exact h.resetRecordRefused

theorem owedRefused : k.holds X (owedRefused s) := foldl (h.onBurn rfl rfl) fun _ _ ht => ht.refuseAsk

theorem clearLatch : k.holds X (Machine.postNotice .latch (s.onBurn fun b =>
    { b with ackAwaited := false, relock := 0, latchReason := none })) := (h.onBurn rfl rfl).postNotice

theorem ackStored : k.holds X (ackStored s) :=
  ite (ite (awaitMains (h.clearLatch.onBurn rfl rfl))
    (ite (enterCooldown (h.clearLatch.onBurn rfl rfl)) (goIdle (h.clearLatch.onBurn rfl rfl)))) (h.onBurn rfl rfl)

theorem burnAnswer {a} : k.holds X (burnAnswer a s) := by
  unfold Machine.burnAnswer
  split
  · exact h.ofNewest (fun _ h1 => h1.lockoutStored)
  · exact h.ofNewest (fun _ h1 => h1.lockoutRefused)
  · split
    · exact h.resetStored
    · exact h
  · exact h.resetRecordRefused
  · exact h
  · exact h.becomesOwed
  · exact h.owedStored
  · exact h.owedRefused
  · exact h.ackStored
  · exact h.onBurn rfl rfl

theorem burnHoldBegins : k.holds X (burnHoldBegins s) := by
  unfold Machine.burnHoldBegins
  lift_lets
  intro t u
  have ht : k.holds X t := h.postFiring.runAccumulator.onBurn rfl rfl
  have hu : k.holds X u := by
    dsimp only [u]
    split
    case h_6 => exact awaitMains (ht.onBurn rfl rfl)
    case h_7 => exact ht.abandonReset
    case h_8 => exact ht
    all_goals exact ht.burnTo
  exact endResetTask (stopOverrun (hu.onBurn rfl rfl))

theorem burnMinute : k.holds X (burnMinute s) := heldMinute (askOwed (h.onBurn rfl rfl))

theorem burnSeesValve : k.holds X (burnSeesValve s) :=
  h.runAccumulator.runawayIfIdle.ite h.runAccumulator

theorem proveExpires : k.holds X (proveExpires s) :=
  ite (h.onBurn rfl rfl).askAll.postNotice.endResetTask (h.onBurn rfl rfl).askAll.postNotice

theorem settle : k.holds X (settle s) := h.takeAnswers fun _ _ ht => ht.burnAnswer

theorem deriveBurner : k.holds X (deriveBurner s) :=
  burnSeesValve (ite (postNotice (burnTo ((h.onPosts rfl).onBurn rfl rfl)))
    (ite (enterLocked ((h.onPosts rfl).onBurn rfl rfl)) (goIdle ((h.onPosts rfl).onBurn rfl rfl))))

theorem lampRiseIn : k.holds X (lampRiseIn s) := by
  unfold Machine.lampRiseIn
  split
  · exact ite (h.onBurn rfl rfl) h
  · exact ite (h.onBurn rfl rfl) h
  · exact h.enterLocked.ite h

theorem burnLampRise : k.holds X (burnLampRise s) := h.findStopping.lampRiseIn

theorem pulseExpires : k.holds X (pulseExpires s) :=
  ite (h.endPulse.onBurn rfl rfl) h.endPulse.resetSucceeds

theorem burnHoldEnds : k.holds X (burnHoldEnds s) := burnSeesValve (burnStateHoldEnds (h.onBurn rfl rfl))

theorem takeAck : k.holds X (takeAck s) := by
  unfold Machine.takeAck
  split
  · exact ite h (askAll (h.onBurn rfl rfl))
  · exact h

theorem cooldownExpires : k.holds X (cooldownExpires s) := by
  unfold Machine.cooldownExpires
  lift_lets
  intro t
  have ht : k.holds X t := h.onBurn rfl rfl
  split
  · exact ht.beginReset
  · split
    · exact ht.beginReset.ite (ht.endResetTask.evaluateUntasked.ite
        (ht.beginReset.ite ht.endResetTask.evaluateUntasked))
    · exact ht.evaluateUntasked

theorem restoreBurn : k.holds X (restoreBurn s) := by
  unfold Machine.restoreBurn
  exact h.onBurn rfl rfl

theorem checkExpires : k.holds X (checkExpires s) :=
  ite (enterLatched (endResetTask (askAll (raiseRelock (h.onBurn rfl rfl))))) (enterCooldown
    (endResetTask (askAll (raiseRelock (h.onBurn rfl rfl)))))

theorem evaluatePump : k.holds X (evaluatePump s) := h.ite h.onPumpProven.postPump

theorem tellLoad {ch new} : k.holds X (tellLoad ch new s) := by
  unfold Machine.tellLoad
  split
  · exact h.zoneChannelFault.ite h
  · exact ite h.setReason (ite (h.onBurn rfl rfl) h)

theorem setLoad {ch : Fin 10} {new} (hload : new = .tripped → ch ∈ X)
    (hcleared : s.out.channels[ch].load = .tripped → ch ∈ X) : k.holds X (setLoad ch new s) := by
  have hchan : k.holds X (s.onChan ch fun c => { c with load := new }) := by
    refine k.onChan ⟨rfl, ?_⟩ h
    by_cases hX : ch ∈ X
    · exact .inl hX
    · exact .inr ⟨rfl, rfl, ⟨fun e => (hX (hload e)).elim, fun e => (hX (hcleared e)).elim⟩⟩
  exact h.ite (hchan.postNotice.tellLoad.evaluatePump.ite hchan.postNotice.tellLoad)

/-- A load state that neither trips nor clears a trip bears on no drive (R22). -/
theorem setLoadOf {ch : Fin 10} {new} {f : Channel → Channel} (hnew : new ≠ .tripped)
    (hload : (s.chan ch).load ≠ .tripped)
    (hd : (f s.out.channels[ch]).demand = s.out.channels[ch].demand := by rfl)
    (hf : (f s.out.channels[ch]).sameDrive s.out.channels[ch] := by exact ⟨rfl, rfl, Iff.rfl⟩) :
    k.holds X (Machine.setLoad ch new (s.onChan ch f)) := by
  refine (h.onChan hd hf).setLoad (fun e => (hnew e).elim) fun e => ?_
  obtain ⟨-, -, hsame⟩ := hf
  have he : (f s.out.channels[ch]).load = .tripped := by simpa [State.onChan, State.onOut] using e
  exact (hload (hsame.1 he)).elim

theorem judgeHigh {ch} : k.holds X (judgeHigh ch s) := by
  unfold Machine.judgeHigh
  refine ite (k.resolve (setLoad (h.onChanAny rfl) ?_ ?_)) (h.onChan rfl ⟨rfl, rfl, Iff.rfl⟩)
  · exact fun _ => Set.mem_insert ch X
  · exact fun _ => Set.mem_insert ch X

theorem judgeLeaking {ch} : k.holds X (judgeLeaking ch s) := by
  unfold Machine.judgeLeaking
  split
  · next hoff =>
    obtain ⟨-, hload⟩ := hoff
    exact h.setLoadOf (by simp) (by rintro e; simp [e] at hload)
  · exact h.onChan rfl ⟨rfl, rfl, Iff.rfl⟩

omit h in
theorem outHoldEnds (h : k.holds Set.univ s) : k.holds X (outHoldEnds s) := by
  unfold Machine.outHoldEnds
  exact (h.eachChannel fun ch t ht => ht.onChan rfl ⟨rfl, rfl, Iff.rfl⟩).resolveAll

theorem clearAllCounts : k.holds X (clearAllCounts s) :=
  h.eachChannel fun ch _ ht => ht.onChan (ch := ch) (f := Channel.clearCounts) rfl ⟨rfl, rfl, Iff.rfl⟩

theorem outTakesMeasureFault {set} : k.holds X (outTakesMeasureFault set s) :=
  h.clearAllCounts.evaluatePump.ite h.clearAllCounts

theorem judgeLow {ch} : k.holds X (judgeLow ch s) := by
  unfold Machine.judgeLow
  split
  · next hload => exact ite (h.setLoadOf (by simp) (by simp [hload])) (h.onChan rfl ⟨rfl, rfl, Iff.rfl⟩)
  · exact h.onChan rfl ⟨rfl, rfl, Iff.rfl⟩

theorem judgeWithin {ch} : k.holds X (judgeWithin ch s) := by
  unfold Machine.judgeWithin
  dsimp only
  split
  · next hload => exact h.setLoadOf (by simp) (by simp [hload])
  · exact h.onChan rfl ⟨rfl, rfl, Iff.rfl⟩

theorem judgeQuiet {ch} : k.holds X (judgeQuiet ch s) := by
  unfold Machine.judgeQuiet
  dsimp only
  split
  · next hload => exact h.setLoadOf (by simp) (by simp [hload])
  · exact h.onChan rfl ⟨rfl, rfl, Iff.rfl⟩

theorem judge {ch ma} : k.holds X (judge ch ma s) :=
  (h.judgeLow.ite (h.judgeHigh.ite h.judgeWithin)).ite (h.judgeLeaking.ite h.judgeQuiet)

theorem countOverrides : k.holds X (countOverrides s) := by
  unfold Machine.countOverrides
  refine h.eachChannel fun ch t ht => ht.onChan rfl ⟨?_, rfl, Iff.rfl⟩
  simp [Function.comp_def]

theorem setOverride {ch o} : k.holds X (setOverride ch o s) := k.resolve (h.onChanAny rfl)

theorem takeCurrent {ch ma} : k.holds X (takeCurrent ch ma s) :=
  h.ite ((h.onChan rfl ⟨rfl, rfl, Iff.rfl⟩).ite (h.ite h.judge))

theorem outTakesPass : k.holds X (outTakesPass s) :=
  (h.eachChannel (fun _ _ h1 => h1.takeCurrent)).evaluatePump

omit h in
theorem outHoldBegins (h : k.holds Set.univ s) : k.holds X (outHoldBegins s) := h.resolveAll.clearAllCounts

theorem setMode {m cause} : k.holds X (setMode m cause s) :=
  h.ite h.onMode.postNotice.zonesTakeMode.resolveAll



theorem clearTrip {ch} : k.holds X (clearTrip ch s) := by
  unfold Machine.clearTrip
  refine k.resolve (setLoad (h.onChanAny rfl) ?_ ?_)
  · exact fun _ => Set.mem_insert ch X
  · exact fun _ => Set.mem_insert ch X

theorem tellMeasureFault {v} : k.holds X (tellMeasureFault v s) :=
  postNotice (evaluateBoilerFrost (evaluateOverheat (ite (gaugeTakesMeasureFault
    (outTakesMeasureFault h.onScan)) (outTakesMeasureFault h.onScan))))

theorem writeRecords {p} : k.holds X (writeRecords p s) :=
  h.rest (by simp [restParts])

theorem settleVerdict {pass} : k.holds X (settleVerdict pass s) :=
  ite (ite (ite (tellMeasureFault h.onScan) h.onScan) h.onScan) (ite h.onScan
    (tellMeasureFault h.onScan))

theorem settleTest {ref p} : k.holds X (settleTest ref p s) := h.onScan.settleVerdict.ite h.onScan

theorem endSelfTest : k.holds X (endSelfTest s) :=
  h.rest (by simp [restParts])

theorem offerPass : k.holds X (offerPass s) :=
  h.outTakesPass.gaugeTakesPass.evaluateLineHeat.burnTakesFlow.evaluateBoilerFrost

theorem completePass {p} : k.holds X (completePass p s) := by
  unfold Machine.completePass
  split
  · exact settle (endSelfTest (offerPass (writeRecords (settleTest h.onScan))))
  · exact h

theorem startPass : k.holds X (startPass s) :=
  h.rest (by simp [restParts])

omit h in
theorem tellHoldEnds (h : k.holds Set.univ s) : k.holds X (tellHoldEnds s) :=
  ((h.outHoldEnds.tellBurn fun _ ht => ht.burnHoldEnds).zonesHoldEnds).onGauge.lookAtRotation.settle

theorem endHold : k.holds X (endHold s) := h.onHold.appendRecord.postNotice.tellHoldEnds

theorem drainHeat : k.holds X (drainHeat s) := (h.onPosts rfl).foldl fun _ _ h1 => h1.burnTakesHeat

theorem drainPump : k.holds X (drainPump s) := (h.onPosts rfl).foldl fun _ _ h1 => h1.burnTakesPump

theorem drainFirst {order} : k.holds X (drainFirst order s) := by
  unfold Machine.drainFirst
  split
  · exact h
  · exact h.drainHeat
  · exact h.drainPump

theorem burnTakesHold {order} : k.holds X (burnTakesHold order s) := h.drainFirst.burnHoldBegins

omit h in
theorem tellHoldBegins {order} (h : k.holds Set.univ s) : k.holds X (tellHoldBegins order s) :=
  settle (tellBurn h.outHoldBegins.zonesHoldBegins.onGauge fun _ ht => ht.burnTakesHold)

theorem beginHold {order} : k.holds X (beginHold order s) := h.onHold.postNotice.tellHoldBegins

theorem mainsFalls {order} : k.holds X (mainsFalls order s) := ((h.onSupply rfl).ite h.beginHold).ite h

theorem mainsRises : k.holds X (mainsRises s) := (h.onSupply rfl).ite h

theorem bindingChanged {z} : k.holds X (bindingChanged z s) :=
  h.resetView.rebindNodes.deriveTarget.evaluateCall.formOutputs

theorem loadSettings (hstill : s.running = false) : k.holds X (loadSettings s) := by
  unfold Machine.loadSettings
  split
  · exact k.onSett (.inl hstill) h
  · exact postNotice (k.onSett (.inl hstill) h)

theorem reloadSilence : k.holds X (reloadSilence s) :=
  h.rest (by simp [restParts])

theorem sinkChanged {old} : k.holds X (sinkChanged old s) := h.driveSink.driveSink.formOutputs.ite h

theorem targetsChanged {z} : k.holds X (targetsChanged z s) := h.deriveTarget.evaluateCall.formOutputs

omit h in
theorem changeEffect {old} {p : Param} (h : k.holds (X ∪ p.repatterned) s) :
    k.holds X (changeEffect old p s) := by
  have stands (hp : p.repatterned = ∅) : k.holds X s := h.mono (by simp [hp])
  have patterned ch (hp : p.repatterned = {ch}) : k.holds X (Machine.resolveChannel ch s) :=
    k.resolve (h.mono (by simp [hp]))
  unfold Machine.changeEffect
  split
  · exact (stands rfl).reloadSilence
  · exact stands rfl
  · exact (stands rfl).sinkChanged
  · exact (stands rfl).bindingChanged
  · exact (stands rfl).bindingChanged
  · exact (stands rfl).bindingChanged
  · exact (stands rfl).targetsChanged
  · exact (stands rfl).targetsChanged
  · exact (stands rfl).targetsChanged
  · exact (stands rfl).targetsChanged
  · exact (stands rfl).targetsChanged
  · exact stands rfl
  · exact (stands rfl).modeChanged.formOutputs.ite (stands rfl)
  · exact patterned _ rfl
  · exact patterned _ rfl
  · exact (stands rfl).onChan rfl ⟨rfl, rfl, Iff.rfl⟩
  · exact (stands rfl).onChan rfl ⟨rfl, rfl, Iff.rfl⟩
  · exact (stands rfl).evaluateHeld.settle
  · exact (stands rfl).evaluateHeld.settle
  · exact stands rfl
  · exact (stands rfl).onGauge
  · exact (stands rfl).onGauge
  · exact (stands rfl).onGauge
  · exact stands rfl
  · exact stands rfl
  · exact (stands rfl).restartPeriod
  · exact (stands rfl).computeStage
  · exact (stands rfl).computeStage
  · exact (stands rfl).computeStage
  · exact stands rfl
  · exact stands rfl
  · exact stands rfl

theorem beforeChange {p} : k.holds X (beforeChange p s) := h.postFiring.ite h

theorem storeWorking {p : Param} {v} : k.holds (X ∪ p.repatterned) (storeWorking (p.store s.par v) s) :=
  onSett (h.mono Set.subset_union_left) fun _ hch =>
    store_samePatterns v s.par fun hp => hch (.inr hp)

theorem storeParam {p v} : k.holds X (storeParam p v s) :=
  h.ite h.beforeChange.storeWorking.changeEffect

theorem storeChecked {p v} : k.holds X (storeChecked p v s).1 := iteFst h.storeParam h

theorem setValue {p v} : k.holds X (setValue p v s).1 := iteFst h (iteFst h (iteFst h h.storeChecked))

theorem setRequest {payload} : k.holds X (setRequest payload s).1 := by
  unfold Machine.setRequest
  split
  · split
    · exact h
    · split
      · exact h
      · exact h.setValue
  · exact h

theorem setLevel {x v} : k.holds X (setLevel x v s) :=
  h.rest (by simp [restParts])

theorem zonesBegin : k.holds X (zonesBegin s) := by
  unfold Machine.zonesBegin
  refine formOutputs (h.eachZone fun z t ht => evaluateCall (onZone (ite (ht.onZone ?_) ht) rfl))
  exact see_state _ _

theorem handSupply {mains} (hstill : s.running = false) : k.holds X (handSupply mains s) :=
  k.onSupply (.inl hstill) h

theorem supplyBegins : k.holds X (supplyBegins s) :=
  h.rest (by simp [restParts])

theorem linkBegins : k.holds X (linkBegins s) :=
  h.rest (by simp [restParts])

theorem fuelBegins : k.holds X (fuelBegins s) := h.restartPeriod.onFuel rfl



omit h in
theorem outBegins (h : k.holds Set.univ s) : k.holds X (outBegins s) :=
  resolveAll (h.eachChannel fun _ _ ht => k.takeLast (Set.mem_univ _) ht)

omit h in
/-- The end of start-up resolves every channel (R155). -/
theorem beginWork (h : k.holds Set.univ s) : k.holds X (beginWork s) := by
  have hstart : k.holds Set.univ (s.withPhase .running) := k.withPhase (.inr ⟨rfl, rfl⟩) h
  have hrun : (Machine.zonesBegin (Machine.outBegins (Machine.startPass (s.withPhase .running)))).running
      = true :=
    running_of_hide (s := s.withPhase .running) [.scan, .out, .loop, .zone, .posts] (by simp) (by decide)
  exact (hstart.startPass.outBegins.zonesBegin.openPollSlot hrun).fuelBegins.linkBegins.supplyBegins
    |>.askMissingLatch.settle

theorem beginScan (hstill : s.running = false) : k.holds X (beginScan s) :=
  onStore (k.withPhase (.inl ⟨hstill, by decide⟩) h)

theorem handSettings (hstill : s.running = false) : k.holds X (handSettings s) := by
  refine (h.loadSettings hstill).foldl fun t n ht => ?_
  split
  · exact ht.bindNode
  · exact ht

theorem handHistory : k.holds X (handHistory s) := h.restoreGauge.restoreFuel.restoreBurn

theorem supplyTakesHeld {x} : k.holds X (supplyTakesHeld s x) := by
  unfold Machine.supplyTakesHeld
  split
  · exact h.setLevel.mainsRises.ite h.setLevel.mainsFalls
  · exact h

theorem handMains : k.holds X (handMains s) := h.takeHeld (fun _ _ h1 => h1.supplyTakesHeld)

theorem handRest (hstill : s.running = false) : k.holds X (handRest s) := by
  unfold Machine.handRest
  split
  · next v _ =>
    have hhistory : (Machine.handHistory (Machine.handSupply v s)).running = false :=
      (running_of_hide [.burn, .gauge, .fuel, .supply, .posts] (by simp) (by decide)).trans hstill
    have hphase := k.withPhase (p := .burnerWait) (.inl ⟨hhistory, by decide⟩)
      (h.handSupply hstill).handHistory
    exact (lookAtRotation hphase).handMains
  · exact k.withPhase (.inl ⟨hstill, by decide⟩) h

theorem handTime : k.holds X (handTime s) := ite h h.onStore

theorem handOver : k.holds X (handOver s) := by
  unfold Machine.handOver
  split
  · next hdone =>
    have hscan : s.running = false := by
      simp only [State.scanDone, Bool.and_eq_true, beq_iff_eq] at hdone
      simp [State.running, hdone.1]
    have htime : (Machine.handTime s).running = false :=
      (running_of_hide [.store] (by simp) (by decide)).trans hscan
    have hset : (Machine.handSettings (Machine.handTime s)).running = false :=
      (running_of_hide [.loop, .link, .sett] (by simp) (by decide)).trans htime
    exact (h.handTime.handSettings htime).handRest hset
  · split
    · next hwait => exact h.handRest (by simp [State.running, hwait.1])
    · exact h

theorem burnTakesHeld {x} : k.holds X (burnTakesHeld s x) := by
  unfold Machine.burnTakesHeld
  split
  · exact h.setLevel.outsideHold fun _ ht => (ite ht.burnLampRise ht.burnLampFall).settle
  · exact h.setLevel.outsideHold fun _ ht => ite ht.valveRises ht.valveFalls
  · exact h
  · exact (ite h.burnHoldBegins h.burnHoldEnds).settle

theorem deriveAndFollow (hstill : s.running = false) : k.holds X (deriveAndFollow s) := by
  have hfollowed := h.deriveBurner.settle.takeHeld (p := Held.ofBurn)
    (f := Machine.burnTakesHeld) fun _ _ h1 => h1.burnTakesHeld
  refine k.withPhase (.inl ⟨?_, by decide⟩) hfollowed
  refine (running_of_hide [.inputs, .burn, .gauge, .fuel, .store, .link, .sett, .posts] ?_ (by decide)).trans hstill
  rw [hide_takeHeld _ _ _ (by decide) fun _ _ => by simp]
  simp

theorem resumeRequest {payload} : k.holds X (resumeRequest payload s).1 := by
  unfold Machine.resumeRequest
  split
  · split
    · exact h.setMode
    · exact h
  · exact h

theorem overrideExpires {ch} : k.holds X (overrideExpires ch s) := by
  unfold Machine.overrideExpires
  split
  · exact h.setOverride
  · exact h

theorem deliverDemand {ch : Fin 10} : k.holds X (deliverDemand ch s) := by
  unfold Machine.deliverDemand
  split
  · exact h
  · next v rest hposted =>
    unfold takeDemand
    split
    · next hsame =>
      have htaken := k.takePosted hposted (.inr hsame) h
      rwa [onChan_self ch (by rw [hsame])] at htaken
    · exact k.resolve (k.takePosted hposted (.inl (Set.mem_insert ch X)) (h.mono (Set.subset_insert ch X)))

theorem takeOverride {ch v m} : k.holds X (takeOverride ch v m s).1 := h.setOverride

theorem overrideChannel {ch v m} : k.holds X (overrideChannel ch v m s).1 := by
  unfold Machine.overrideChannel
  split
  · exact h
  · split
    · exact h.takeOverride
    · exact h.takeOverride
    · exact h.setOverride
    · exact h

theorem overrideRequest {payload} : k.holds X (overrideRequest payload s).1 := by
  unfold Machine.overrideRequest
  split
  · split
    · exact h.overrideChannel
    · exact h
  · exact h

theorem clearTripChannel {ch} : k.holds X (clearTripChannel ch s).1 :=
  iteFst h (iteFst h (iteFst h h.clearTrip))

theorem silenceExpires : k.holds X (silenceExpires s) := ite (setMode h.onLink) h

theorem clearTripRequest {payload} : k.holds X (clearTripRequest payload s).1 := by
  unfold Machine.clearTripRequest
  split
  · split
    · exact h.clearTripChannel
    · exact h
  · exact h

theorem takeMiss {n z} : k.holds X (takeMiss n z s) :=
  h.onNode.ite (h.onNode.onNode.postNotice.zoneLosesNode.ite
    (h.onNode.onNode.ite h.onNode.onNode.zoneHasNoReport))

theorem endBreaks {z} : k.holds X (endBreaks z s) := by
  unfold Machine.endBreaks
  split
  · exact h
  · split
    · exact h.enterIdle.formOutputs
    · exact h.enterFault.formOutputs
    · exact h.enterFault.formOutputs
    · exact h

theorem endMakes {z} : k.holds X (endMakes z s) := h.ite (h.zoneTo.formOutputs.ite h)

theorem travelExpires {z} : k.holds X (travelExpires z s) := by
  unfold Machine.travelExpires
  split
  · exact h.enterFault.formOutputs
  · exact h.enterFault.formOutputs
  · exact h

theorem hostWrite {n i v} : k.holds X (hostWrite n i v s).1 := by
  unfold Machine.hostWrite
  split
  · exact h
  · split
    · next q _ => exact h.onLoop (f := fun l => { l with queue := q }) rfl
    · exact h

theorem setHostMode {z m} : k.holds X (setHostMode z m s) :=
  (h.onZone rfl).modeChanged.formOutputs.ite (h.onZone rfl)

theorem zoneModeRequest {payload} : k.holds X (zoneModeRequest payload s).1 := by
  unfold Machine.zoneModeRequest
  split
  · split
    · exact h.setHostMode
    · exact h
  · exact h

theorem writeEnds {acknowledged} (hrun : s.running = true) : k.holds X (writeEnds acknowledged s) := by
  unfold Machine.writeEnds
  split
  · refine openPollSlot (h.ite h.writeOutcome) ((running_of_hide [.loop, .zone] ?_ (by decide)).trans hrun)
    simp
  · exact h

theorem goodReport {n z r} : k.holds X (goodReport n z r s) :=
  ((h.onNode.postNotice.ite h.onNode).zoneTakesReport).queueStaleItems

theorem pollResult {n ans} : k.holds X (pollResult n ans s) := by
  unfold Machine.pollResult
  split
  · exact h
  · exact h.goodReport
  · exact h.takeMiss

theorem blindAt {z p} : k.holds X (blindAt z p s) := (h.onZone rfl).evaluateCall.formOutputs

theorem statWriteRequest {payload} : k.holds X (statWriteRequest payload s).1 := by
  unfold Machine.statWriteRequest
  split
  · split
    · exact iteFst h.hostWrite h
    · exact h
  · exact h

theorem deliverOverrun : k.holds X (deliverOverrun s) := by
  unfold Machine.deliverOverrun
  split
  · exact h
  · exact (h.onPosts rfl).zonesTakeOverrun

theorem pollEnds {ans} (hrun : s.running = true) : k.holds X (pollEnds ans s) := by
  unfold Machine.pollEnds
  split
  · refine slotAfterPoll (h.ite h.pollResult)
      ((running_of_hide [.loop, .zone, .link, .posts] ?_ (by decide)).trans hrun)
    simp
  · exact h

theorem retryExpires {z} : k.holds X (retryExpires z s) := by
  unfold Machine.retryExpires
  dsimp only
  split
  · exact (ite h.zoneTo.postNotice.writeToZoneNode.enterOpening
      h.zoneTo.postNotice.writeToZoneNode).formOutputs
  · exact h

theorem deliverStage {who} : k.holds X (deliverStage who s) := by
  unfold Machine.deliverStage
  split
  · split
    · exact h
    · exact (h.onPosts rfl).burnTakesStage
  · split
    · exact h
    · exact (h.onPosts rfl).zonesTakeStage
  · split
    · exact h
    · exact (h.onPosts rfl).loopTakesStage

theorem stopExpires : k.holds X (stopExpires s) :=
  goIdle (ite (setRunaway (h.onBurn rfl rfl)) (h.onBurn rfl rfl))

theorem holdExpires : k.holds X (holdExpires s) :=
  (h.onSvc.ifBurning (fun _ h1 => h1.takeAck.settle)).ite h.onSvc

theorem takeBurnerReset {o} : k.holds X (takeBurnerReset o s).1 :=
  ite (settle (beginReset (h.startTask.onBurn rfl rfl))) (h.startTask.onBurn rfl rfl)

theorem burnerResetAnswer : k.holds X (burnerResetAnswer s).1 :=
  iteFst h <| iteFst h <| iteFst h <| iteFst h <| iteFst h.takeBurnerReset <|
    iteFst h <| iteFst h h.takeBurnerReset

theorem releaseEdge : k.holds X (releaseEdge s) :=
  (h.onSvc.ifBurning (fun _ h1 => h1.takePress.settle)).ite h.onSvc

theorem deliverHeat : k.holds X (deliverHeat s) := by
  unfold Machine.deliverHeat
  split
  · exact h
  · exact (h.onPosts rfl).burnTakesHeat

theorem deliverPump : k.holds X (deliverPump s) := by
  unfold Machine.deliverPump
  split
  · exact h
  · exact (h.onPosts rfl).burnTakesPump

theorem windowExpires1440 : k.holds X (windowExpires1440 s) :=
  ite h (settle (evaluateHeld (h.onBurn rfl rfl)))

theorem burnerResetRequest {payload} : k.holds X (burnerResetRequest payload s).1 := by
  unfold Machine.burnerResetRequest
  split
  · exact h.unlessBusy fun _ ht => ht.burnerResetAnswer
  · exact h

theorem clearLeakAnswer : k.holds X (clearLeakAnswer s).1 :=
  iteFst (appendRecord (clearLeakFlag (h.onFuel rfl))) h

theorem clearLeakRequest {payload} : k.holds X (clearLeakRequest payload s).1 := by
  unfold Machine.clearLeakRequest
  split
  · exact h.clearLeakAnswer
  · exact h

theorem settlingTimesOut : k.holds X (settlingTimesOut s) := by
  unfold Machine.settlingTimesOut
  split
  · exact h.finishSettling.ite h
  · exact h

theorem takeTrendEntry : k.holds X (takeTrendEntry s) := ite h.addTrendEntry.onLink h

theorem takePeriodEnd : k.holds X (takePeriodEnd s) := h.periodEnds.ite h

theorem takeDuePass : k.holds X (takeDuePass s) := by
  unfold Machine.takeDuePass
  split
  · exact takeDue h.onGauge
  · exact h

theorem finishLoad {l} : k.holds X (finishLoad l s) := by
  unfold Machine.finishLoad
  split
  · exact h.replaceTable.endLoad
  · exact h.endLoad

theorem tableEndRequest {payload} : k.holds X (tableEndRequest payload s).1 := by
  unfold Machine.tableEndRequest
  split
  · split
    · exact h.finishLoad
    · exact h
  · exact h

theorem takeHistoryRead {start count} : k.holds X (takeHistoryRead start count s).1 :=
  h.startTask.onLink.onStore.kick.settle

theorem historyAnswer {start count} : k.holds X (historyAnswer start count s).1 :=
  iteFst h h.takeHistoryRead

theorem historyRequest {payload} : k.holds X (historyRequest payload s).1 := by
  unfold Machine.historyRequest
  split
  · exact h.unlessBusy fun _ h1 => h1.unlessHeld fun _ h2 => h2.historyAnswer
  · exact h

theorem takeKeep : k.holds X (takeKeep s).1 := settle (kick (h.startTask.onStore))

theorem keepRequest {payload} : k.holds X (keepRequest payload s).1 := by
  unfold Machine.keepRequest
  split
  · exact h.unlessBusy fun _ ht => ht.takeKeep
  · exact h

theorem zonesMinute : k.holds X (zonesMinute s) :=
  h.eachZone fun _ _ h1 => h1.onZone (minute_state _)

theorem blocksMinute : k.holds X (blocksMinute s) :=
  settle (whenRunning (ifBurning (whenRunning (ite h.lookAtRotation h) fun _ ht =>
    ht.countOverrides.zonesMinute) fun _ ht => ht.burnMinute) fun _ ht => ht.onFuel rfl)

theorem sendNext : k.holds X (sendNext s) :=
  h.rest (by simp [restParts])

theorem releaseBuffer : k.holds X (releaseBuffer s) :=
  h.rest (by simp [restParts])

theorem dropTask {kind} : k.holds X (dropTask kind s) := by
  unfold Machine.dropTask
  split
  · exact h.onScan
  · exact h.onBurn rfl rfl
  · exact h.onGauge
  · exact h.onStore.lookAtRotation
  · exact h.onStore

theorem abortAnswer : k.holds X (abortAnswer s).1 := by
  unfold Machine.abortAnswer
  split
  · exact h
  · exact iteFst h h.dropTask.endTask

theorem abortRequest {payload} : k.holds X (abortRequest payload s).1 := by
  unfold Machine.abortRequest
  split
  · exact h.abortAnswer
  · exact h

theorem passMillisecond : k.holds X (passMillisecond s) := by
  unfold Machine.passMillisecond
  refine ite h ?_
  refine onSvc (onLink (onSupply (onStore (onGauge (onBurn ?_ rfl ?_))) rfl))
  · exact k.onZoneBlock ⟨fun z => by simp [Zone.tick], rfl⟩ h.onScan
  · simp [Burn.tick]

theorem quiet : k.holds X (quiet s) := h.sendNext.ite h.passMillisecond

/-! ## Starts, frames and the transmit line -/

omit h in
theorem beginRestart : k.holds X (beginRestart s) := first (by decide)

omit h in
theorem loseSupply : k.holds X (loseSupply s) := onStore (first (by decide))

omit h in
theorem orderedRestart : k.holds X (orderedRestart s) := beginScan beginRestart rfl

theorem takeFrame {f} (hf : ∀ t, k.holds X t → k.holds X (f t).1) : k.holds X (takeFrame f s) :=
  ite (onLink h.onLink) (beginReply (onLink (hf _ h.onLink)))

theorem request {payload f} (hf : ∀ t, k.holds X t → k.holds X (f payload t).1) :
    k.holds X (request payload f s) := ite (ite (h.takeFrame hf) h.hunt) h

theorem replySent {r} : k.holds X (replySent r s) :=
  ite orderedRestart (sendNext (ite (releaseBuffer h.onLink) h.onLink))

theorem transmitDone : k.holds X (transmitDone s) := by
  unfold Machine.transmitDone
  split
  · exact h.replySent
  · exact sendNext h.onLink

end Kept.holds

end Sys2Proof.Machine
end

section
/-! PROOF. A kept invariant through every command and every step (O5, O7, O17). -/

namespace Sys2Proof.Machine

variable {Q : Set (Fin 10) → State → Prop} {k : Kept Q} {X : Set (Fin 10)} {s t : State}

/-- A footprint may be widened. -/
theorem hide_of_subset {F G : List Block} (hFG : F ⊆ G) (h : t.hide F = s.hide F) : t.hide G = s.hide G :=
  hide_eq_iff.2 fun b hb => hide_eq_iff.1 h b fun hF => hb (hFG hF)

namespace Kept.holds

variable (h : k.holds X s)
include h

theorem exec (c : Instr) : ∃ t, exec c s = .next t ∧ k.holds X t := by
  cases c with
  | powerOn => exact ⟨_, rfl, loseSupply.beginScan rfl⟩
  | restart => exact ⟨_, rfl, ite h beginRestart⟩
  | resetNRelease =>
    refine ⟨_, rfl, ?_⟩
    split
    · next hphase => exact h.beginScan (by simp [State.running, hphase])
    · exact h
  | handOver => exact ⟨_, rfl, h.handOver⟩
  | burnerDerivation =>
    refine ⟨_, rfl, ?_⟩
    split
    · next hwait => exact h.deriveAndFollow (by simp [State.running, hwait.1])
    · exact h
  | endOfStartUp => exact ⟨_, rfl, ite (beginWork (h.mono (Set.subset_univ X))) h⟩
  | passCompletion counts => exact ⟨_, rfl, h.whenRunning fun _ ht => ht.completePass⟩
  | jobDemandChange ch => exact ⟨_, rfl, h.whenRunning fun _ ht => ht.deliverDemand⟩
  | resume payload => exact ⟨_, rfl, h.request fun _ ht => ht.resumeRequest⟩
  | silenceTimerExpiry => exact ⟨_, rfl, h.whenRunning fun _ ht => ht.silenceExpires⟩
  | override payload => exact ⟨_, rfl, h.request fun _ ht => ht.overrideRequest⟩
  | overrideExpiry ch => exact ⟨_, rfl, h.whenRunning fun _ ht => ht.overrideExpires⟩
  | clearTrip payload => exact ⟨_, rfl, h.request fun _ ht => ht.clearTripRequest⟩
  | runMinute => exact ⟨_, rfl, ite (blocksMinute h.onStore) h⟩
  | windowStampExpiry => exact ⟨_, rfl, h.ifBurning fun _ ht => ht.windowExpires1440⟩
  | pollSlotEnd answer => exact ⟨_, rfl, h.whenIsRunning h.pollEnds⟩
  | writeSlotEnd acknowledged => exact ⟨_, rfl, h.whenIsRunning h.writeEnds⟩
  | statWrite payload => exact ⟨_, rfl, h.request fun _ ht => ht.statWriteRequest⟩
  | zoneMode payload => exact ⟨_, rfl, h.request fun _ ht => ht.zoneModeRequest⟩
  | blindCycleStart z => exact ⟨_, rfl, h.whenRunning fun _ ht => ite ht.blindAt ht⟩
  | blindDutyEnd z => exact ⟨_, rfl, h.whenRunning fun _ ht => ite ht.blindAt ht⟩
  | endMade z => exact ⟨_, rfl, h.edge fun _ h1 => h1.whenRunning fun _ h2 => h2.endMakes⟩
  | endBroken z => exact ⟨_, rfl, h.edge fun _ h1 => h1.whenRunning fun _ h2 => h2.endBreaks⟩
  | travelTimerExpiry z => exact ⟨_, rfl, h.whenRunning fun _ ht => ht.travelExpires⟩
  | faultRetryExpiry z => exact ⟨_, rfl, h.whenRunning fun _ ht => ht.retryExpires⟩
  | heatRequest => exact ⟨_, rfl, h.ifBurning fun _ ht => ht.deliverHeat⟩
  | pumpProven => exact ⟨_, rfl, h.ifBurning fun _ ht => ht.deliverPump⟩
  | overrunState => exact ⟨_, rfl, h.whenRunning fun _ ht => ht.deliverOverrun⟩
  | fuelStage takers =>
    exact ⟨_, rfl, h.whenRunning fun _ h1 => h1.foldl fun _ _ h2 => h2.deliverStage⟩
  | valveSenseRise =>
    exact ⟨_, rfl, h.edge fun _ h1 => h1.ifBurning fun _ h2 => h2.outsideHold fun _ h3 =>
      h3.valveRises⟩
  | valveSenseFall =>
    exact ⟨_, rfl, h.edge fun _ h1 => h1.ifBurning fun _ h2 => h2.outsideHold fun _ h3 =>
      h3.valveFalls⟩
  | ignitionWindowExpiry =>
    exact ⟨_, rfl, h.ifBurning fun _ ht => ite ht.windowExpires.settle ht⟩
  | stopTimerExpiry => exact ⟨_, rfl, h.ifBurning fun _ ht => ite ht.stopExpires ht⟩
  | antiCycleExpiry =>
    exact ⟨_, rfl, h.ifBurning fun _ ht => ite (removeReason (endTogether (ht.onBurn rfl rfl))) ht⟩
  | noStartExpiry =>
    exact ⟨_, rfl, h.ifBurning fun _ ht => ite (removeReason (endTogether (ht.onBurn rfl rfl))) ht⟩
  | overrunTimerExpiry =>
    exact ⟨_, rfl, h.ifBurning fun _ ht => ite ht.endTogether.stopOverrun ht⟩
  | accumulatorFull =>
    exact ⟨_, rfl, h.ifBurning fun _ ht => ite (postFiring (ht.onBurn rfl rfl)) ht⟩
  | lockoutSenseRise =>
    exact ⟨_, rfl, h.edge fun _ h1 => h1.ifBurning fun _ h2 => h2.outsideHold fun _ h3 =>
      h3.burnLampRise.settle⟩
  | lockoutSenseFall =>
    exact ⟨_, rfl, h.edge fun _ h1 => h1.ifBurning fun _ h2 => h2.outsideHold fun _ h3 =>
      h3.burnLampFall.settle⟩
  | cooldownExpiry => exact ⟨_, rfl, h.ifBurning fun _ ht => ite ht.cooldownExpires.settle ht⟩
  | pulseTimerExpiry => exact ⟨_, rfl, h.ifBurning fun _ ht => ite ht.pulseExpires.settle ht⟩
  | checkTimerExpiry => exact ⟨_, rfl, h.ifBurning fun _ ht => ite ht.checkExpires.settle ht⟩
  | proveTimerExpiry => exact ⟨_, rfl, h.ifBurning fun _ ht => ite ht.proveExpires.settle ht⟩
  | burnerReset payload => exact ⟨_, rfl, h.request fun _ ht => ht.burnerResetRequest⟩
  | proofLimitExpiry => exact ⟨_, rfl, h.ifBurning fun _ ht => ite ht.endResetTask ht⟩
  | holdTimerExpiry => exact ⟨_, rfl, ite h.holdExpires h⟩
  | localResetRelease => exact ⟨_, rfl, h.edge fun _ ht => ht.releaseEdge⟩
  | duePass => exact ⟨_, rfl, h.whenRunning fun _ ht => ht.takeDuePass⟩
  | settlingTimeout => exact ⟨_, rfl, h.whenRunning fun _ ht => ht.settlingTimesOut⟩
  | periodEnd => exact ⟨_, rfl, h.whenRunning fun _ ht => ht.takePeriodEnd⟩
  | clearLeak payload => exact ⟨_, rfl, h.request fun _ ht => ht.clearLeakRequest⟩
  | trendEntry => exact ⟨_, rfl, h.whenRunning fun _ ht => ht.takeTrendEntry⟩
  | tableEnd payload => exact ⟨_, rfl, h.request fun _ ht => ht.tableEndRequest⟩
  | programCompletion good => exact ⟨_, rfl, ite h.programDone.settle h⟩
  | eraseCompletion =>
    exact ⟨_, rfl, ite h.onStore (ite h.eraseDone.settle h)⟩
  | historyRead payload => exact ⟨_, rfl, h.request fun _ ht => ht.historyRequest⟩
  | keep payload => exact ⟨_, rfl, h.request fun _ ht => ht.keepRequest⟩
  | mainsOkFall order => exact ⟨_, rfl, h.edge fun _ ht => ht.mainsFalls⟩
  | mainsOkRise => exact ⟨_, rfl, h.edge fun _ ht => ht.mainsRises⟩
  | returnTimerExpiry => exact ⟨_, rfl, ite h.endHold h⟩
  | setParam payload => exact ⟨_, rfl, h.request fun _ ht => ht.setRequest⟩
  | abort payload => exact ⟨_, rfl, h.request fun _ ht => ht.abortRequest⟩
  | transmitComplete => exact ⟨_, rfl, h.whenRunning fun _ ht => ht.transmitDone⟩
  | lossOfSupply => exact ⟨_, rfl, loseSupply⟩

  | _ =>
    obtain ⟨t, ht, hide⟩ := exec_hide _ s
    exact ⟨t, ht, h.rest (hide_of_subset (by simp [Instr.touches, restParts]) hide)⟩

theorem exec_next {c : Instr} (e : Machine.exec c s = .next t) : k.holds X t := by
  obtain ⟨u, hu, hkept⟩ := h.exec c
  rw [hu] at e
  cases e
  exact hkept

/-- Every step keeps a kept invariant. -/
theorem step (e : step s = .next t) : k.holds X t := by
  unfold Machine.step idleStep at e
  split at e
  · exact h.withPending.exec_next e
  · split at e
    · exact h.exec_next e
    · cases e
      exact h.quiet

end Kept.holds

end Sys2Proof.Machine
end

section
/-! PROOF. Every relay driven as Table 2-4 says, through every step (O5). -/

namespace Sys2Proof.Machine

variable {X : Set (Fin 10)} {s t : State}

/-! ## What Table 2-4 reads -/

/-- Table 2-4 as a function of what it reads: the end of start-up, the hold, the mode, the channel's settings
and its entry (R22, R35, R36). -/
def tableDrive (running hold : Bool) (mode : OutMode) (p : ChannelSettings) (c : Channel) : Bool :=
  if running = false then false
  else if hold then false
  else if c.load = .tripped then false
  else match mode with
    | .run => (c.override.map Prod.fst).getD c.demand
    | .standby => match p.standby with
      | .forceOn => true
      | .forceOff => false
      | .follow => c.demand
    | .failsafe => match p.failSafe with
      | .forceOn => true
      | .forceOff => false
      | .follow => c.demand

theorem tableEffective_eq (s : State) (ch : Fin 10) : s.tableEffective ch =
    tableDrive s.running s.supply.hold s.out.mode s.sett.working.channels[ch] s.out.channels[ch] := by
  unfold State.tableEffective State.running tableDrive
  generalize s.out.channels[ch] = c
  generalize s.sett.working.channels[ch] = p
  cases s.phase <;> simp
  cases c.override <;> rfl

/-- What the operations resolve a channel by is Table 2-4 (R22). -/
theorem resolved_eq_tableEffective (s : State) (ch : Fin 10) : s.resolved ch = s.tableEffective ch := by
  rw [tableEffective_eq]
  unfold State.resolved State.patternNow State.chan State.chanSet tableDrive
  generalize s.out.channels[ch] = c
  generalize s.sett.working.channels[ch] = p
  cases s.running
  · simp
  · cases s.out.mode with
    | run => cases c.override <;> simp
    | standby => cases p.standby <;> simp
    | failsafe => cases p.failSafe <;> simp

theorem tableDrive_stopped {hold : Bool} {mode p c} : tableDrive false hold mode p c = false := rfl

/-- Table 2-4 gives the same where all it reads is the same. -/
theorem tableEffective_congr {ch : Fin 10} (hrun : t.running = s.running)
    (hhold : t.supply.hold = s.supply.hold) (hmode : t.out.mode = s.out.mode)
    (hset : samePatterns t.sett.working s.sett.working ch)
    (hdemand : t.out.channels[ch].demand = s.out.channels[ch].demand)
    (hover : t.out.channels[ch].override.map Prod.fst = s.out.channels[ch].override.map Prod.fst)
    (hload : t.out.channels[ch].load = .tripped ↔ s.out.channels[ch].load = .tripped) :
    t.tableEffective ch = s.tableEffective ch := by
  obtain ⟨hstandby, hfailSafe⟩ := hset
  simp only [tableEffective_eq, tableDrive, hrun, hhold, hmode, hdemand, hover, hload, hstandby, hfailSafe]

/-! ## The invariant but for channels still to be resolved -/

/-- Every relay but those of `X` is driven as Table 2-4 says (R22). -/
def State.drivenBut (X : Set (Fin 10)) (s : State) : Prop :=
  ∀ ch : Fin 10, ch ∉ X → s.out.channels[ch].effective = s.tableEffective ch

theorem drivenBut_empty : s.drivenBut ∅ ↔ s.outputsByTable :=
  forall_congr' fun ch => by simp

/-- Operations that leave the phase, OUT, SUPPLY and the working set as they are. -/
theorem drivenBut_of_hide (F : List Block) (e : t.hide F = s.hide F)
    (hF : Block.phase ∉ F ∧ Block.out ∉ F ∧ Block.supply ∉ F ∧ Block.sett ∉ F) (h : s.drivenBut X) :
    t.drivenBut X := by
  obtain ⟨hphase, hout, hsupply, hsett⟩ := hF
  have same := hide_eq_iff.1 e
  have eout : t.out = s.out := same .out hout
  have esupply : t.supply = s.supply := same .supply hsupply
  have esett : t.sett = s.sett := same .sett hsett
  intro ch hch
  rw [eout, h ch hch, tableEffective_eq, tableEffective_eq, running_of_hide F e hphase, eout, esupply, esett]

/-- Before the end of start-up, every relay is released (R35, R152). -/
theorem drivenBut_stopped (hstill : s.running = false) :
    s.drivenBut X ↔ ∀ ch : Fin 10, ch ∉ X → s.out.channels[ch].effective = false := by
  simp only [State.drivenBut, tableEffective_eq, hstill, tableDrive_stopped]

theorem entered_effective (v : Bool) (c : Channel) : (c.entered v).effective = v := by
  unfold Channel.entered
  split
  · assumption
  · rfl

/-- R23's effects leave what Table 2-4 reads of the entry. -/
theorem entered_drive (v : Bool) (c : Channel) : (c.entered v).demand = c.demand
    ∧ (c.entered v).override = c.override ∧ (c.entered v).load = c.load := by
  unfold Channel.entered
  split <;> exact ⟨rfl, rfl, rfl⟩

theorem evaluatePump_mode (s : State) : (evaluatePump s).out.mode = s.out.mode := by
  unfold evaluatePump
  split <;> rfl

theorem resolveChannel_mode (ch : Fin 10) (s : State) : (resolveChannel ch s).out.mode = s.out.mode := by
  unfold resolveChannel
  dsimp only
  repeat' split
  · rfl
  · exact evaluatePump_mode _
  · rfl

/-- An entry of the channel table after one of them was set. -/
theorem channels_set (v : Vector Channel 10) (ch c : Fin 10) (x : Channel) :
    (v.set ch x)[c] = if c = ch then x else v[c] := by
  by_cases hc : c = ch
  · subst hc
    simp
  · have hv : ch.val ≠ c.val := fun e => hc (Fin.ext e.symm)
    simp [hc, hv]

theorem resolveChannel_drive (ch c : Fin 10) (s : State) :
    (resolveChannel ch s).out.channels[c].demand = s.out.channels[c].demand
      ∧ (resolveChannel ch s).out.channels[c].override = s.out.channels[c].override
      ∧ (resolveChannel ch s).out.channels[c].load = s.out.channels[c].load := by
  rw [resolveChannel_channels, channels_set]
  split
  · next hc =>
    subst hc
    exact entered_drive _ _
  · exact ⟨rfl, rfl, rfl⟩

/-- Resolving a channel leaves what Table 2-4 gives every channel (R22). -/
theorem resolveChannel_tableEffective (ch c : Fin 10) (s : State) :
    (resolveChannel ch s).tableEffective c = s.tableEffective c := by
  have e : (resolveChannel ch s).hide [.out, .posts] = s.hide [.out, .posts] := by simp
  have hsupply : (resolveChannel ch s).supply = s.supply := hide_eq_iff.1 e .supply (by decide)
  have hsett : (resolveChannel ch s).sett = s.sett := hide_eq_iff.1 e .sett (by decide)
  obtain ⟨hdemand, hover, hload⟩ := resolveChannel_drive ch c s
  exact tableEffective_congr (running_of_hide _ e (by decide)) (by rw [hsupply]) (resolveChannel_mode ch s)
    (by rw [hsett]; exact ⟨rfl, rfl⟩) hdemand (by rw [hover]) (by rw [hload])

theorem drivenBut_resolve {ch : Fin 10} (h : s.drivenBut (insert ch X)) :
    (resolveChannel ch s).drivenBut X := by
  intro c hc
  rw [resolveChannel_tableEffective, resolveChannel_channels, channels_set]
  split
  · next heq =>
    subst heq
    rw [entered_effective, resolved_eq_tableEffective]
  · next hne => exact h c fun hin => hin.elim hne hc

/-- A change of one entry that is not to be resolved keeps what Table 2-4 reads of it. -/
theorem drivenBut_onChan {ch : Fin 10} {f : Channel → Channel}
    (hf : ch ∈ X ∨ (f s.out.channels[ch]).demand = s.out.channels[ch].demand
      ∧ (f s.out.channels[ch]).sameDrive s.out.channels[ch]) (h : s.drivenBut X) :
    (s.onChan ch f).drivenBut X := by
  intro c hc
  have hchan : (s.onChan ch f).out.channels[c] = if c = ch then f s.out.channels[ch] else s.out.channels[c] :=
    channels_set _ _ _ _
  have same : (s.onChan ch f).out.channels[c].demand = s.out.channels[c].demand
      ∧ (s.onChan ch f).out.channels[c].sameDrive s.out.channels[c] := by
    rw [hchan]
    split
    · next heq =>
      subst heq
      exact hf.resolve_left hc
    · exact ⟨rfl, rfl, rfl, Iff.rfl⟩
  obtain ⟨hdemand, hover, heff, hload⟩ := same
  rw [heff, h c hc]
  exact (tableEffective_congr (s := s) (t := s.onChan ch f) rfl rfl rfl ⟨rfl, rfl⟩ hdemand hover hload).symm

/-! ## The elementary changes -/

theorem drivenBut_onSett {f : SetBlock → SetBlock}
    (hf : s.running = false ∨ ∀ ch ∉ X, samePatterns (f s.sett).working s.sett.working ch)
    (h : s.drivenBut X) : (s.onSett f).drivenBut X := by
  obtain hstill | hsame := hf
  · exact (drivenBut_stopped (s := s.onSett f) hstill).2 ((drivenBut_stopped hstill).1 h)
  · intro ch hch
    exact (h ch hch).trans
      (tableEffective_congr (s := s) (t := s.onSett f) rfl rfl rfl (hsame ch hch) rfl rfl Iff.rfl).symm

theorem drivenBut_onSupply {f : Supply → Supply}
    (hf : s.running = false ∨ X = Set.univ ∨ (f s.supply).hold = s.supply.hold)
    (h : s.drivenBut X) : (s.onSupply f).drivenBut X := by
  obtain hstill | rfl | hhold := hf
  · exact (drivenBut_stopped (s := s.onSupply f) hstill).2 ((drivenBut_stopped hstill).1 h)
  · exact fun ch hch => absurd (Set.mem_univ ch) hch
  · intro ch hch
    exact (h ch hch).trans
      (tableEffective_congr (s := s) (t := s.onSupply f) rfl hhold rfl ⟨rfl, rfl⟩ rfl rfl Iff.rfl).symm

theorem drivenBut_onOut {f : Out → Out}
    (hf : (f s.out).channels = s.out.channels ∧ (X = Set.univ ∨ (f s.out).mode = s.out.mode))
    (h : s.drivenBut X) : (s.onOut f).drivenBut X := by
  obtain ⟨hchannels, rfl | hmode⟩ := hf
  · exact fun ch hch => absurd (Set.mem_univ ch) hch
  · intro ch hch
    have hsame : (s.onOut f).out.channels = s.out.channels := hchannels
    rw [hsame, h ch hch]
    exact (tableEffective_congr (s := s) (t := s.onOut f) rfl rfl hmode ⟨rfl, rfl⟩ (by rw [hsame])
      (by rw [hsame]) (by rw [hsame])).symm

theorem drivenBut_withPhase {p : Phase}
    (hp : (s.running = false ∧ p ≠ .running) ∨ (X = Set.univ ∧ p = .running))
    (h : s.drivenBut X) : (s.withPhase p).drivenBut X := by
  obtain ⟨hstill, hp⟩ | ⟨rfl, -⟩ := hp
  · have hstopped : (s.withPhase p).running = false := by simpa [State.running, State.withPhase] using hp
    exact (drivenBut_stopped hstopped).2 ((drivenBut_stopped hstill).1 h)
  · exact fun ch hch => absurd (Set.mem_univ ch) hch

/-- After a reset every relay is released (R35). -/
theorem drivenBut_first {p : Phase} (hp : p ≠ .running) : (abandonAll p s).drivenBut X := by
  have hstopped : (abandonAll p s).running = false := by simpa [State.running, abandonAll] using hp
  refine (drivenBut_stopped hstopped).2 fun ch _ => ?_
  change Out.first.channels[ch].effective = false
  simp [Out.first, Channel.first]

/-- A demand taken leaves its channel to be resolved, or is the one that OUT holds (R18). -/
theorem drivenBut_takePosted {ch : Fin 10} {v : Bool} {rest : List Bool}
    (hv : ch ∈ X ∨ v = s.out.channels[ch].demand) (h : s.drivenBut X) :
    ((s.onPosts fun p => { p with demand := p.demand.set ch rest }).onChan ch
      fun c => { c with demand := v }).drivenBut X :=
  drivenBut_onChan (s := s.onPosts _) (hv.imp_right fun e => ⟨e, rfl, rfl, Iff.rfl⟩) h

theorem drivenBut_takeLastDemand {ch : Fin 10} (hch : ch ∈ X) (h : s.drivenBut X) :
    (takeLastDemand ch s).drivenBut X := by
  unfold takeLastDemand
  split
  · next v _ => exact drivenBut_onChan (f := fun c => { c with demand := v }) (.inl hch) h
  · exact h

/-- The family of O5 is kept. -/
theorem kept_drivenBut : Kept State.drivenBut where
  mono hXY h := fun ch hch => h ch fun hX => hch (hXY hX)
  rest e h := drivenBut_of_hide _ e (by decide) h
  onLoop _ h := h
  poll _ h := drivenBut_of_hide [.loop] (by simp) (by decide) h
  onSett := drivenBut_onSett
  onSupply := drivenBut_onSupply
  onBurn _ h := h
  burnState h := drivenBut_of_hide [.burn, .posts] (by simp) (by decide) h
  pulseBegins _ h := h
  pulseEnds h := drivenBut_of_hide [.burn, .posts] (by simp) (by decide) h
  onFuel _ h := h
  lineHeat h := drivenBut_of_hide [.fuel, .posts] (by simp) (by decide) h
  onZoneBlock _ h := h
  zoneState h := drivenBut_of_hide [.zone, .posts] (by simp) (by decide) h
  pump h := drivenBut_of_hide [.zone, .posts] (by simp) (by decide) h
  onPosts _ h := h
  onOut := drivenBut_onOut
  onChan hf h := drivenBut_onChan (hf.2.imp_right fun hs => ⟨hf.1, hs⟩) h
  takePosted _ := drivenBut_takePosted
  takeLast := drivenBut_takeLastDemand
  resolve := drivenBut_resolve
  withPhase := drivenBut_withPhase
  first := drivenBut_first

/-- Settles O5: Table 2-4 holds but for no channel, and so it does after every step. -/
theorem everyStepDrivesByTable : Obligations.EveryStepDrivesByTable := by
  intro s t h e
  have hdriven : kept_drivenBut.holds ∅ s := drivenBut_empty.2 h
  exact drivenBut_empty.1 (hdriven.step e)

end Sys2Proof.Machine
end

section
/-! PROOF. What the owners have told OUT is what their own state calls for, through every step (O7). -/

namespace Sys2Proof.Machine

variable {X : Set (Fin 10)} {s t : State}

/-! ## What a channel's owner calls for -/

/-- What the owner of a channel calls for: BURN's call and pulse, ZONE's pump demand, FUEL's line heat, and the
valve of a VALVE channel's zone (R18, Table 0-6). -/
def State.calledFor (s : State) (ch : Fin 10) : Bool :=
  match channelZone ch with
  | some z => s.zone.zones[z].state.valveDemand
  | none =>
    if ch = 0 then s.burn.state.calling else if ch = 1 then s.burn.pulseTimer.isSome
    else if ch = 2 then s.zone.pumpDemand else s.fuel.lineHeat

/-- Every channel is one of the four of BURN, ZONE and FUEL, or a VALVE channel (Table 0-6). -/
theorem channel_cases {p : Fin 10 → Prop} (h0 : p 0) (h1 : p 1) (h2 : p 2) (h3 : p 3)
    (hvalve : ∀ z, p (valveChannel z)) (ch : Fin 10) : p ch := by
  obtain ⟨n, hn⟩ := ch
  match n, hn with
  | 0, _ => exact h0
  | 1, _ => exact h1
  | 2, _ => exact h2
  | 3, _ => exact h3
  | n + 4, hn => exact hvalve ⟨n, by omega⟩

theorem valveChannel_inj {y z : Fin 6} : valveChannel y = valveChannel z ↔ y = z := by
  simp [valveChannel, Fin.ext_iff]

theorem calledFor_valve (s : State) (z : Fin 6) :
    s.calledFor (valveChannel z) = s.zone.zones[z].state.valveDemand := by
  have hz : channelZone (valveChannel z) = some z := by simp [channelZone, valveChannel]
  simp only [State.calledFor, hz]

theorem demandsTold_iff : s.demandsTold ↔ ∀ ch, s.toldDemand ch = s.calledFor ch := by
  constructor
  · rintro ⟨hcall, hpulse, hpump, hheat, hvalves⟩
    exact channel_cases hcall hpulse hpump hheat fun z => (hvalves z).trans (calledFor_valve s z).symm
  · intro h
    exact ⟨h 0, h 1, h 2, h 3, fun z => (h _).trans (calledFor_valve s z)⟩

/-- What is called for depends on these parts only. -/
theorem calledFor_congr (hcall : t.burn.state.calling = s.burn.state.calling)
    (hpulse : t.burn.pulseTimer.isSome = s.burn.pulseTimer.isSome)
    (hpump : t.zone.pumpDemand = s.zone.pumpDemand) (hheat : t.fuel.lineHeat = s.fuel.lineHeat)
    (hvalves : ∀ z : Fin 6, t.zone.zones[z].state.valveDemand = s.zone.zones[z].state.valveDemand) (ch) :
    t.calledFor ch = s.calledFor ch := by
  unfold State.calledFor
  split
  · exact hvalves _
  · rw [hcall, hpulse, hpump, hheat]

/-! ## What OUT was told -/

/-- The told demand of a channel by its posts and its entry (R18). -/
theorem toldDemand_congr {ch : Fin 10} (hposts : t.posts.demand[ch] = s.posts.demand[ch])
    (hchan : t.out.channels[ch].demand = s.out.channels[ch].demand) : t.toldDemand ch = s.toldDemand ch := by
  rw [State.toldDemand, hposts, hchan]
  rfl

/-- A demand posted is the one told last for its channel (R18). -/
theorem toldDemand_postDemand (ch c : Fin 10) (v : Bool) (s : State) :
    (postDemand ch v s).toldDemand c = if c = ch then v else s.toldDemand c := by
  by_cases hc : c = ch
  · subst hc
    simp [State.toldDemand, postDemand, State.onPosts]
  · have hv : ch.val ≠ c.val := fun e => hc (Fin.ext e.symm)
    simp [State.toldDemand, postDemand, State.onPosts, hc, hv]

/-! ## The elementary changes -/

/-- Nothing told and nothing called for otherwise. -/
theorem demandsTold_of_same (htold : ∀ ch, t.toldDemand ch = s.toldDemand ch)
    (hcalled : ∀ ch, t.calledFor ch = s.calledFor ch) (h : s.demandsTold) : t.demandsTold :=
  demandsTold_iff.2 fun ch => by rw [htold, hcalled, demandsTold_iff.1 h]

/-- An owner that changes what it calls for tells OUT (R18). -/
theorem demandsTold_postDemand {ch : Fin 10} {v : Bool} (htold : ∀ c, t.toldDemand c = s.toldDemand c)
    (hcalled : ∀ c, t.calledFor c = if c = ch then v else s.calledFor c) (h : s.demandsTold) :
    (postDemand ch v t).demandsTold := by
  refine demandsTold_iff.2 fun c => ?_
  have hposted : (postDemand ch v t).calledFor c = t.calledFor c := rfl
  rw [toldDemand_postDemand, hposted, hcalled, htold, demandsTold_iff.1 h]

theorem demandsTold_of_hide (F : List Block) (e : t.hide F = s.hide F)
    (hF : Block.out ∉ F ∧ Block.burn ∉ F ∧ Block.zone ∉ F ∧ Block.fuel ∉ F)
    (hposts : t.posts.demand = s.posts.demand) (h : s.demandsTold) : t.demandsTold := by
  obtain ⟨hout, hburn, hzone, hfuel⟩ := hF
  have same := hide_eq_iff.1 e
  have eout : t.out = s.out := same .out hout
  have eburn : t.burn = s.burn := same .burn hburn
  have ezone : t.zone = s.zone := same .zone hzone
  have efuel : t.fuel = s.fuel := same .fuel hfuel
  refine demandsTold_of_same (fun ch => toldDemand_congr (by rw [hposts]) (by rw [eout])) ?_ h
  exact calledFor_congr (by rw [eburn]) (by rw [eburn]) (by rw [ezone]) (by rw [efuel]) fun z => by rw [ezone]

theorem demandsTold_onBurn {f : Burn → Burn}
    (hf : (f s.burn).state = s.burn.state ∧ (f s.burn).pulseTimer.isSome = s.burn.pulseTimer.isSome)
    (h : s.demandsTold) : (s.onBurn f).demandsTold :=
  demandsTold_of_same (s := s) (t := s.onBurn f) (fun _ => rfl)
    (calledFor_congr (congrArg BurnState.calling hf.1) hf.2 rfl rfl fun _ => rfl) h

/-- BURN tells OUT a change of its call (R62). -/
theorem demandsTold_burnTo {st : BurnState} (h : s.demandsTold) : (burnTo st s).demandsTold := by
  unfold burnTo
  dsimp only
  split
  · next hsame =>
    exact demandsTold_of_same (s := s) (t := s.onBurn _) (fun _ => rfl)
      (calledFor_congr hsame.symm rfl rfl rfl fun _ => rfl) h
  · refine demandsTold_postDemand (s := s) (fun _ => rfl) (channel_cases ?_ rfl rfl rfl fun z => ?_) h <;> rfl

/-- BURN tells OUT that its pulse begins (R88). -/
theorem demandsTold_pulseBegins {f : Burn → Burn}
    (hf : (f s.burn).state = s.burn.state ∧ (f s.burn).pulseTimer.isSome = true) (h : s.demandsTold) :
    (postDemand 1 true (s.onBurn f)).demandsTold :=
  demandsTold_postDemand (s := s) (fun _ => rfl)
    (channel_cases (congrArg BurnState.calling hf.1) hf.2 rfl rfl fun _ => rfl) h

/-- BURN tells OUT that its pulse ends (R88, R89). -/
theorem demandsTold_endPulse (h : s.demandsTold) : (endPulse s).demandsTold := by
  unfold endPulse
  dsimp only
  split
  · exact demandsTold_postDemand (s := s) (fun _ => rfl) (channel_cases rfl rfl rfl rfl fun _ => rfl) h
  · next hnone =>
    exact demandsTold_of_same (s := s) (t := s.onBurn _) (fun _ => rfl)
      (calledFor_congr rfl (by simpa using hnone) rfl rfl fun _ => rfl) h

/-- FUEL tells OUT a change of the line heat (R133). -/
theorem demandsTold_evaluateLineHeat (h : s.demandsTold) : (evaluateLineHeat s).demandsTold := by
  unfold evaluateLineHeat
  dsimp only
  split
  · exact h
  · exact demandsTold_postDemand (s := s) (fun _ => rfl) (channel_cases rfl rfl rfl rfl fun _ => rfl) h

theorem demandsTold_onZoneBlock {f : ZoneBlock → ZoneBlock}
    (hf : (∀ z : Fin 6, (f s.zone).zones[z].state = s.zone.zones[z].state)
      ∧ (f s.zone).pumpDemand = s.zone.pumpDemand) (h : s.demandsTold) : (s.onZoneBlock f).demandsTold :=
  demandsTold_of_same (s := s) (t := s.onZoneBlock f) (fun _ => rfl)
    (calledFor_congr rfl rfl hf.2 rfl fun z => congrArg ZoneState.valveDemand (hf.1 z)) h

/-- ZONE tells OUT a change of the pump demand (R59). -/
theorem demandsTold_formPump (h : s.demandsTold) : (formPump s).demandsTold := by
  unfold formPump
  split
  · exact h
  · exact demandsTold_postDemand (s := s) (fun _ => rfl) (channel_cases rfl rfl rfl rfl fun _ => rfl) h

/-- The states of the zones, once one of them was set. -/
theorem zones_set_state (z y : Fin 6) (st : ZoneState) (timer : ZoneTimer) (s : State) :
    (s.onZone z fun zn => { zn with state := st, timer := timer }).zone.zones[y].state
      = if y = z then st else s.zone.zones[y].state := by
  by_cases hy : y = z
  · subst hy
    simp [State.onZone, State.onZoneBlock]
  · have hv : z.val ≠ y.val := fun e => hy (Fin.ext e.symm)
    simp [State.onZone, State.onZoneBlock, hy, hv]

/-- ZONE tells OUT a change of a valve's demand (R57). -/
theorem demandsTold_zoneTo {z : Fin 6} {st : ZoneState} {timer : ZoneTimer} (h : s.demandsTold) :
    (zoneTo z st timer s).demandsTold := by
  unfold zoneTo
  dsimp only
  split
  · next hsame =>
    refine demandsTold_of_same (s := s) (fun _ => rfl) (calledFor_congr rfl rfl rfl rfl fun y => ?_) h
    rw [zones_set_state]
    split
    · next hy =>
      subst hy
      exact hsame.symm
    · rfl
  · refine demandsTold_postDemand (s := s) (fun _ => rfl) (channel_cases rfl rfl rfl rfl fun y => ?_) h
    rw [calledFor_valve, calledFor_valve, zones_set_state]
    simp only [valveChannel_inj]
    split <;> rfl

theorem demandsTold_onPosts {f : Posts → Posts} (hf : (f s.posts).demand = s.posts.demand)
    (h : s.demandsTold) : (s.onPosts f).demandsTold :=
  demandsTold_of_same (s := s) (t := s.onPosts f)
    (fun ch => toldDemand_congr (congrArg (·[ch]) hf) rfl) (fun _ => rfl) h

theorem demandsTold_onOut {f : Out → Out} (hf : (f s.out).channels = s.out.channels)
    (h : s.demandsTold) : (s.onOut f).demandsTold :=
  demandsTold_of_same (s := s) (t := s.onOut f)
    (fun ch => toldDemand_congr rfl (congrArg (fun v : Vector Channel 10 => v[ch].demand) hf)) (fun _ => rfl) h

theorem demandsTold_onChan {ch : Fin 10} {f : Channel → Channel}
    (hf : (f s.out.channels[ch]).demand = s.out.channels[ch].demand) (h : s.demandsTold) :
    (s.onChan ch f).demandsTold := by
  refine demandsTold_of_same (s := s) (fun c => toldDemand_congr rfl ?_) (fun _ => rfl) h
  have hchan : (s.onChan ch f).out.channels[c] = if c = ch then f s.out.channels[ch] else s.out.channels[c] :=
    channels_set _ _ _ _
  rw [hchan]
  split
  · next hc =>
    subst hc
    exact hf
  · rfl

/-- OUT takes the oldest demand on its way: the last one told stays the last (R18). -/
theorem demandsTold_takePosted {ch : Fin 10} {v : Bool} {rest : List Bool}
    (hposted : s.posts.demand[ch] = v :: rest) (h : s.demandsTold) :
    ((s.onPosts fun p => { p with demand := p.demand.set ch rest }).onChan ch
      fun c => { c with demand := v }).demandsTold := by
  refine demandsTold_of_same (s := s) (fun c => ?_) (fun _ => rfl) h
  by_cases hc : c = ch
  · subst hc
    simp only [Fin.getElem_fin] at hposted
    simp [State.toldDemand, State.onChan, State.onOut, State.onPosts, hposted, List.getLast?_cons]
  · have hv : ch.val ≠ c.val := fun e => hc (Fin.ext e.symm)
    simp [State.toldDemand, State.onChan, State.onOut, State.onPosts, hv]

theorem evaluatePump_demandPosts (s : State) : (evaluatePump s).posts.demand = s.posts.demand := by
  unfold evaluatePump
  split <;> rfl

theorem resolveChannel_demandPosts (ch : Fin 10) (s : State) :
    (resolveChannel ch s).posts.demand = s.posts.demand := by
  unfold resolveChannel
  dsimp only
  repeat' split
  · rfl
  · exact evaluatePump_demandPosts _
  · rfl

/-- Resolving a channel takes no demand (R22). -/
theorem demandsTold_resolve {ch : Fin 10} (h : s.demandsTold) : (resolveChannel ch s).demandsTold := by
  have e : (resolveChannel ch s).hide [.out, .posts] = s.hide [.out, .posts] := by simp
  have same := hide_eq_iff.1 e
  have eburn : (resolveChannel ch s).burn = s.burn := same .burn (by decide)
  have ezone : (resolveChannel ch s).zone = s.zone := same .zone (by decide)
  have efuel : (resolveChannel ch s).fuel = s.fuel := same .fuel (by decide)
  refine demandsTold_of_same (fun c => ?_) ?_ h
  · exact toldDemand_congr (by rw [resolveChannel_demandPosts]) (resolveChannel_drive ch c s).1
  · exact calledFor_congr (by rw [eburn]) (by rw [eburn]) (by rw [ezone]) (by rw [efuel]) fun z => by rw [ezone]

theorem demandsTold_takeLast {ch : Fin 10} (h : s.demandsTold) : (takeLastDemand ch s).demandsTold := by
  refine demandsTold_of_same (fun c => takeLastDemand_toldDemand ch c s) (fun c => ?_) h
  unfold takeLastDemand
  split <;> rfl

theorem openPollSlot_posts (s : State) : (openPollSlot s).posts = s.posts := by
  unfold openPollSlot
  split <;> rfl

/-- The family of O7 is kept; nothing is to be resolved for it. -/
theorem kept_demandsTold : Kept fun _ s => s.demandsTold where
  mono _ h := h
  rest e h := demandsTold_of_hide _ e (by decide)
    (congrArg Posts.demand (hide_eq_iff.1 e .posts (by decide))) h
  onLoop _ h := h
  poll _ h := demandsTold_of_hide [.loop] (by simp) (by decide) (by rw [openPollSlot_posts]) h
  onSett _ h := h
  onSupply _ h := h
  onBurn := demandsTold_onBurn
  burnState := demandsTold_burnTo
  pulseBegins := demandsTold_pulseBegins
  pulseEnds := demandsTold_endPulse
  onFuel {_ s f} hf h := demandsTold_of_same (s := s) (t := s.onFuel f) (fun _ => rfl)
    (calledFor_congr rfl rfl rfl hf fun _ => rfl) h
  lineHeat := demandsTold_evaluateLineHeat
  onZoneBlock := demandsTold_onZoneBlock
  zoneState := demandsTold_zoneTo
  pump := demandsTold_formPump
  onPosts := demandsTold_onPosts
  onOut hf h := demandsTold_onOut hf.1 h
  onChan hf h := demandsTold_onChan hf.1 h
  takePosted hposted _ h := demandsTold_takePosted hposted h
  takeLast _ h := demandsTold_takeLast h
  resolve h := demandsTold_resolve h
  withPhase _ h := h
  first _ := reset_demandsTold

/-- Settles O7: what the owners told is what they call for after every step. -/
theorem everyStepKeepsDemandsTold : Obligations.EveryStepKeepsDemandsTold := by
  intro s t h e
  have hkept : kept_demandsTold.holds ∅ s := h
  exact hkept.step e

end Sys2Proof.Machine
end

section
/-! PROOF. Before the end of start-up no node has been polled (O17). -/

namespace Sys2Proof.Machine

variable {s t : State}

/-- Where the phase and the loop are left alone. -/
theorem ringRests_of_hide (F : List Block) (e : t.hide F = s.hide F)
    (hF : Block.phase ∉ F ∧ Block.loop ∉ F) (h : s.ringRests) : t.ringRests := by
  obtain ⟨hphase, hloop⟩ := hF
  have eloop : t.loop = s.loop := hide_eq_iff.1 e .loop hloop
  intro hstill
  rw [eloop]
  exact h ((running_of_hide F e hphase).symm.trans hstill)

/-- Taking demands leaves the loop. -/
theorem ringRests_takeLast {ch : Fin 10} (h : s.ringRests) : (takeLastDemand ch s).ringRests := by
  unfold takeLastDemand
  split <;> exact h

/-- The family of O17's invariant is kept; nothing is to be resolved for it. -/
theorem kept_ringRests : Kept fun _ s => s.ringRests where
  mono _ h := h
  rest e h := ringRests_of_hide _ e (by decide) h
  onLoop hf h hstill := hf.trans (h hstill)
  poll {_ s} hrun _ hstill := by
    have hsame : (openPollSlot s).running = s.running := running_of_hide [.loop] (by simp) (by decide)
    simp [hsame, hrun] at hstill
  onSett _ h := h
  onSupply _ h := h
  onBurn _ h := h
  burnState h := ringRests_of_hide [.burn, .posts] (by simp) (by decide) h
  pulseBegins _ h := h
  pulseEnds h := ringRests_of_hide [.burn, .posts] (by simp) (by decide) h
  onFuel _ h := h
  lineHeat h := ringRests_of_hide [.fuel, .posts] (by simp) (by decide) h
  onZoneBlock _ h := h
  zoneState h := ringRests_of_hide [.zone, .posts] (by simp) (by decide) h
  pump h := ringRests_of_hide [.zone, .posts] (by simp) (by decide) h
  onPosts _ h := h
  onOut _ h := h
  onChan _ h := h
  takePosted _ _ h := h
  takeLast _ h := ringRests_takeLast h
  resolve h := ringRests_of_hide [.out, .posts] (by simp) (by decide) h
  withPhase {_ s p} hp h hstill := by
    obtain ⟨hbefore, -⟩ | ⟨-, rfl⟩ := hp
    · exact h hbefore
    · exact absurd hstill (by simp [State.running, State.withPhase])
  first _ _ := rfl

theorem reset_ringRests : State.reset.ringRests := fun _ => rfl

/-- Every step keeps it. -/
theorem step_ringRests (h : s.ringRests) (e : step s = .next t) : t.ringRests := by
  have hkept : kept_ringRests.holds ∅ s := h
  exact hkept.step e

end Sys2Proof.Machine
end

section
/-! PROOF. A channel resolved alone: JOB_DEMAND_CHANGE and OVERRIDE_EXPIRY (O24), OVERRIDE (O26). -/

namespace Sys2Proof.Machine

variable {s t u : State}

/-! ## Pump proven -/

theorem pumpIsProven_eq (s : State) : s.pumpIsProven = s.pumpProvenByRule := by
  unfold State.pumpIsProven State.pumpProvenByRule
  rw [Bool.or_comm]
  rfl

/-- Evaluating pump proven, and telling BURN of a changed one (R33). -/
theorem evaluatePump_proven (s : State) : (evaluatePump s).out.pumpProven = s.pumpIsProven := by
  unfold evaluatePump
  split
  · next hsame => exact hsame.symm
  · rfl

theorem evaluatePump_posts (s : State) : (evaluatePump s).posts.pump = s.posts.pump
    ++ (if s.pumpIsProven = s.out.pumpProven then [] else [s.pumpIsProven]) := by
  unfold evaluatePump
  split
  · exact (List.append_nil _).symm
  · rfl

/-- What R33 reads stands where the channels and the passes do. -/
theorem evaluatePump_byRule (s : State) :
    (evaluatePump s).out.pumpProven = (evaluatePump s).pumpProvenByRule := by
  have e : (evaluatePump s).hide [.out, .posts] = s.hide [.out, .posts] := by simp
  have hscan : (evaluatePump s).scan = s.scan := hide_eq_iff.1 e .scan (by decide)
  rw [evaluatePump_proven, pumpIsProven_eq, State.pumpProvenByRule, State.pumpProvenByRule,
    evaluatePump_channels, hscan]

/-! ## A channel resolved -/

/-- An entry after a channel was resolved: R23's effects by Table 2-4, on its own entry alone (R22). -/
theorem resolveChannel_entry (ch c : Fin 10) (s : State) : (resolveChannel ch s).out.channels[c]
    = if c = ch then s.out.channels[ch].entered ((resolveChannel ch s).tableEffective ch)
      else s.out.channels[c] := by
  rw [resolveChannel_channels, channels_set, resolveChannel_tableEffective, resolved_eq_tableEffective]

theorem onChan_entry (ch c : Fin 10) (f : Channel → Channel) (s : State) :
    (s.onChan ch f).out.channels[c] = if c = ch then f s.out.channels[ch] else s.out.channels[c] :=
  channels_set _ _ _ _

/-- An entry changed and its channel resolved: the channel is driven by Table 2-4 (R22, R23). -/
theorem resolve_onChan_self (ch : Fin 10) (f : Channel → Channel) (s : State) :
    (resolveChannel ch (s.onChan ch f)).out.channels[ch]
      = (f s.out.channels[ch]).entered ((resolveChannel ch (s.onChan ch f)).tableEffective ch) := by
  rw [resolveChannel_entry, if_pos rfl, onChan_entry, if_pos rfl]

/-- The other channels stand. -/
theorem resolve_onChan_other {ch c : Fin 10} (hc : c ≠ ch) (f : Channel → Channel) (s : State) :
    (resolveChannel ch (s.onChan ch f)).out.channels[c] = s.out.channels[c] := by
  rw [resolveChannel_entry, if_neg hc, onChan_entry, if_neg hc]

/-- Resolving another channel than CH2 leaves pump proven, and what BURN was told of it (R23). -/
theorem resolveChannel_pump {ch : Fin 10} (hch : ch ≠ 2) (s : State) :
    (resolveChannel ch s).out.pumpProven = s.out.pumpProven
      ∧ (resolveChannel ch s).posts.pump = s.posts.pump := by
  unfold resolveChannel
  dsimp only
  rw [if_neg hch]
  split <;> exact ⟨rfl, rfl⟩

/-- Resolving CH2 evaluates pump proven again where its effective state changes (R23, R33). -/
theorem resolveChannel_two (s : State) : resolveChannel 2 s =
    if s.resolved 2 = s.out.channels[2].effective then s
    else evaluatePump (s.onChan 2 (Channel.switch (s.resolved 2))) := rfl

/-- A channel changed but for its effective state, and resolved: pump proven follows (R23, R33). -/
theorem pumpFollows_resolve {ch : Fin 10} {f : Channel → Channel}
    (hf : (f s.out.channels[ch]).effective = s.out.channels[ch].effective) :
    s.pumpFollows (resolveChannel ch (s.onChan ch f)) := by
  by_cases hch : ch = 2
  · subst hch
    have hsame : (s.onChan 2 f).out.channels[2].effective = s.out.channels[2].effective :=
      (congrArg Channel.effective (onChan_entry 2 2 f s)).trans hf
    rw [resolveChannel_two]
    split
    · next heq => exact ⟨fun hne => absurd hsame hne, fun _ => rfl, by simp [State.onChan, State.onOut]⟩
    · next hne =>
      refine ⟨fun _ => evaluatePump_byRule _, fun heq => absurd heq ?_, ?_⟩
      · rw [evaluatePump_channels]
        have hnew : ((s.onChan 2 f).onChan 2 (Channel.switch ((s.onChan 2 f).resolved 2))).out.channels[2].effective
            = (s.onChan 2 f).resolved 2 := congrArg Channel.effective (onChan_entry 2 2 _ (s.onChan 2 f))
        intro heq
        exact hne (hnew.symm.trans (heq.trans hsame.symm))
      · rw [evaluatePump_posts, evaluatePump_proven]
        rfl
  · obtain ⟨hproven, hposts⟩ := resolveChannel_pump hch (s.onChan ch f)
    have hother : (resolveChannel ch (s.onChan ch f)).out.channels[2] = s.out.channels[2] :=
      resolve_onChan_other (Ne.symm hch) f s
    refine ⟨fun hne => absurd (congrArg Channel.effective hother) hne, fun _ => hproven, ?_⟩
    rw [hproven, hposts]
    exact (List.append_nil _).symm.trans (by rw [if_pos]; rfl; rfl)

/-! ## JOB_DEMAND_CHANGE and OVERRIDE_EXPIRY (O24) -/

/-- The oldest demand on its way, taken from the list. -/
def State.demandTaken (ch : Fin 10) (rest : List Bool) (s : State) : State :=
  s.onPosts fun p => { p with demand := p.demand.set ch rest }

/-- A demand on its way reaches OUT (R18). -/
theorem exec_jobDemandChange {ch : Fin 10} {v : Bool} {rest : List Bool} (hrun : s.running = true)
    (hposted : s.posts.demand[ch] = v :: rest) :
    exec (.jobDemandChange ch) s = .next (takeDemand ch v (s.demandTaken ch rest)) := by
  change Host.Outcome.next (whenRunning (deliverDemand ch) s) = _
  rw [whenRunning, if_pos hrun, deliverDemand]
  simp only [hposted]
  rfl

theorem exec_overrideExpiry {ch : Fin 10} {v : Bool} (hrun : s.running = true)
    (hover : s.out.channels[ch].override = some (v, 0)) :
    exec (.overrideExpiry ch) s = .next (setOverride ch none s) := by
  change Host.Outcome.next (whenRunning (overrideExpires ch) s) = _
  have hchan : (s.chan ch).override = some (v, 0) := hover
  rw [whenRunning, if_pos hrun, overrideExpires]
  simp only [hchan]

/-- Settles O24, from what resolving one channel does. -/
theorem demandsAndExpiriesResolveTheirChannel : Obligations.DemandsAndExpiriesResolveTheirChannel := by
  intro ch s hrun
  refine ⟨fun v rest hposted hnew => ?_, fun rest hposted => ?_, fun v hover => ?_⟩
  · have e := exec_jobDemandChange hrun hposted
    have hv : takeDemand ch v (s.demandTaken ch rest)
        = resolveChannel ch ((s.demandTaken ch rest).onChan ch fun c => { c with demand := v }) := if_neg hnew
    rw [hv] at e
    refine ⟨_, e, ?_, ?_, resolve_onChan_self ch _ (s.demandTaken ch rest),
      fun c hc => resolve_onChan_other hc _ (s.demandTaken ch rest), ?_⟩
    · exact hide_eq_iff.1 (by simp [State.demandTaken])
    · rw [resolveChannel_demandPosts]
      rfl
    · exact pumpFollows_resolve (s := s.demandTaken ch rest) rfl
  · rw [exec_jobDemandChange hrun hposted]
    exact congrArg Host.Outcome.next (if_pos rfl)
  · refine ⟨_, exec_overrideExpiry hrun hover, hide_eq_iff.1 (by simp), resolve_onChan_self ch _ s,
      fun c hc => resolve_onChan_other hc _ s, pumpFollows_resolve rfl⟩

/-! ## A request that has an effect -/

/-- The line stands as the frame left it: what LINK sends, the receiver and the silence timer. -/
def Link.sameLine (l m : Link) : Prop := l.tx = m.tx ∧ l.receiver = m.receiver ∧ l.silence = m.silence

/-- A request with an effect: the block's change, and LINK's reply (R159, R161, R165, R173). -/
theorem request_answers {payload : List Byte} {body : List Byte → State → State × Reply} {r : Reply}
    (htakes : s.takes) (hlength : payload.length ≤ maxPayload) (hbody : body payload s.heard = (u, r))
    (hline : u.link.sameLine s.heard.link) :
    ∃ l : Link, Host.Outcome.next (request payload body s) = (.next (u.onLink fun _ => l) : Result)
      ∧ s.answered (u.onLink fun _ => l) r ∧ l.notices = u.link.notices := by
  obtain ⟨hrun, howed⟩ := htakes
  obtain ⟨htx, hreceiver, hsilence⟩ := hline
  rw [request_answered payload body s u r hrun hlength howed hbody htx]
  exact ⟨_, rfl, ⟨rfl, hreceiver, hsilence, rfl⟩, rfl⟩

theorem heard_hide {F : List Block} (hlink : Block.link ∈ F) : s.heard.hide F = s.hide F :=
  hide_onLink s (fun l => { l with silence := some (1000 * s.par.silence), receiver := .hunting }) hlink

/-- The parts a request changes, from those its block changes. -/
theorem changesOnly_onLink {F : List Block} (hlink : Block.link ∈ F) (e : u.hide F = s.heard.hide F) (l : Link) :
    s.changesOnly F (u.onLink fun _ => l) :=
  hide_eq_iff.1 ((hide_onLink _ _ hlink).trans (e.trans (heard_hide hlink)))

/-! ## OVERRIDE (O26) -/

theorem overrideMinutes_eq (m : Nat) : overrideMinutes m = max 1 (min m 240) := by
  unfold overrideMinutes
  split <;> omega

/-- An override of a channel, set or removed by a request. -/
theorem override_answers {c v m : Byte} {ch : Fin 10} {o : Option (Bool × Nat)} {r : Reply} (htakes : s.takes)
    (hbody : overrideRequest [c, v, m] s.heard = (setOverride ch o s.heard, r)) :
    ∃ t, exec (.override [c, v, m]) s = .next t ∧ s.changesOnly [.out, .link, .posts] t ∧ s.answered t r
      ∧ t.out.channels[ch]
        = ({ s.out.channels[ch] with override := o } : Channel).entered (t.tableEffective ch)
      ∧ ∀ x : Fin 10, x ≠ ch → t.out.channels[x] = s.out.channels[x] := by
  have e : (setOverride ch o s.heard).hide [.out, .posts] = s.heard.hide [.out, .posts] := by simp
  have hlink : (setOverride ch o s.heard).link = s.heard.link := hide_eq_iff.1 e .link (by decide)
  obtain ⟨l, hexec, hanswered, -⟩ := request_answers (body := overrideRequest) htakes
    (Nat.le_of_ble_eq_true rfl) hbody (by rw [hlink]; exact ⟨rfl, rfl, rfl⟩)
  exact ⟨_, hexec, changesOnly_onLink (by decide) (hide_of_subset (by simp) e) l, hanswered,
    resolve_onChan_self ch _ s.heard, fun x hx => resolve_onChan_other hx _ s.heard⟩

theorem overrideRequest_channel {c v m : Byte} {ch : Fin 10} (hc : c.toNat = ch.val) :
    overrideRequest [c, v, m] s = overrideChannel ch v.toNat m.toNat s := by
  simp only [overrideRequest, channelOfIndex_eq_some.2 hc]

/-- The reply to an override set: the stored override, and whether its minutes were clamped (Table 2-5). -/
theorem takeOverride_eq (ch : Fin 10) (on : Bool) (m : Byte) (s : State) : takeOverride ch on m.toNat s
    = (setOverride ch (some (on, max 1 (min m.toNat 240))) s,
      plainReply 0x08 (if 1 ≤ m.toNat ∧ m.toNat ≤ 240 then .ok else .clamped) .none
        [if on then 0 else 1, 1, if m = 0 then 1 else if 240 < m.toNat then 240 else m]) := by
  have hminutes : BitVec.ofNat 8 (max 1 (min m.toNat 240))
      = if m = 0 then 1 else if 240 < m.toNat then 240 else m := by
    split
    · next h0 => simp [h0]
    · next h0 =>
      have hpos : m.toNat ≠ 0 := fun e => h0 (BitVec.eq_of_toNat_eq e)
      split
      · next hbig => rw [show max 1 (min m.toNat 240) = 240 by omega]; rfl
      · rw [show max 1 (min m.toNat 240) = m.toNat by omega, BitVec.ofNat_toNat, BitVec.setWidth_eq]
  have hbytes : overrideBytes (some (on, max 1 (min m.toNat 240)))
      = [if on then 0 else 1, 1, if m = 0 then 1 else if 240 < m.toNat then 240 else m] := by
    rw [← hminutes]
    cases on <;> rfl
  unfold takeOverride
  dsimp only
  rw [overrideMinutes_eq, hbytes]
  by_cases hin : 1 ≤ m.toNat ∧ m.toNat ≤ 240
  · rw [if_pos hin, if_pos (by omega)]
    rfl
  · rw [if_neg hin, if_neg (by omega)]
    rfl

/-- Settles O26, row by row of Table 2-5. -/
theorem overrideActsByItsTable : Obligations.OverrideActsByItsTable := by
  intro c v m s htakes
  have hlength : [c, v, m].length ≤ maxPayload := Nat.le_of_ble_eq_true rfl
  refine ⟨fun hbad => ?_, fun ch hc hch => ⟨fun hv => ?_, fun hv => ?_⟩⟩
  · refine next_request_replied (body := overrideRequest) htakes hlength ?_
    cases hch : channelOfIndex c.toNat with
    | none => simp only [overrideRequest, hch]; rfl
    | some ch =>
      have hc := channelOfIndex_eq_some.1 hch
      have hlt := ch.isLt
      rw [overrideRequest_channel hc]
      unfold overrideChannel
      split
      · rfl
      · have hv : 2 < v.toNat := by omega
        split
        · omega
        · omega
        · omega
        · rfl
  · subst hv
    refine override_answers htakes ?_
    rw [overrideRequest_channel hc]
    unfold overrideChannel
    rw [if_neg (by omega)]
    rfl
  · refine override_answers htakes ?_
    rw [overrideRequest_channel hc]
    unfold overrideChannel
    rw [if_neg (by omega)]
    obtain e | e := Nat.le_one_iff_eq_zero_or_eq_one.1 hv
    · obtain rfl : v = 0 := BitVec.eq_of_toNat_eq e
      exact takeOverride_eq ch true m s.heard
    · obtain rfl : v = 1 := BitVec.eq_of_toNat_eq e
      exact takeOverride_eq ch false m s.heard

end Sys2Proof.Machine
end

section
/-! PROOF. What the calling and releasing of the burner leave of BURN's entry: all but its state, its call's
timers, the overrun and the inhibit set; and what becomes of the inhibit set (R62 to R74). -/

namespace Sys2Proof.Machine

variable {s t : State}

/-! ## The rest of the entry -/

/-- BURN's entry without what a call, its release and the inhibit set change. -/
def Burn.steady (b : Burn) : Burn :=
  { b with
    state := .idle, stoppingLeft := false, proveTimer := none, overrun := false, overrunTimer := none
    firedInCall := false, ignitionTimer := none, stopTimer := none, inhibit := InhibitSet.empty
    antiCycle := none }

/-- A field that stands where the rest of the entry does. -/
theorem steady_field {β : Type} (g : Burn → β) (hg : ∀ b : Burn, g b.steady = g b)
    (h : t.burn.steady = s.burn.steady) : g t.burn = g s.burn := by
  rw [← hg, h, hg]

@[simp] theorem burnTo_steady (st : BurnState) (s : State) : (burnTo st s).burn.steady = s.burn.steady := by
  unfold burnTo
  dsimp only
  split <;> rfl

@[simp] theorem stopOverrun_steady (s : State) : (stopOverrun s).burn.steady = s.burn.steady := by
  unfold stopOverrun
  split <;> rfl

@[simp] theorem askOverrun_steady (s : State) : (askOverrun s).burn.steady = s.burn.steady := by
  unfold askOverrun runOverrun
  dsimp only
  split
  · exact stopOverrun_steady s
  · split <;> rfl

@[simp] theorem afterFiring_steady (s : State) : (afterFiring s).burn.steady = s.burn.steady := by
  rw [afterFiring, askOverrun_steady, addAntiCycle]
  split <;> rfl

@[simp] theorem enterFiring_steady (s : State) : (enterFiring s).burn.steady = s.burn.steady :=
  burnTo_steady .firing s

@[simp] theorem enterCalled_steady (s : State) : (enterCalled s).burn.steady = s.burn.steady := by
  have hstopped : ∀ f : Burn → Burn, (∀ b : Burn, (f b).steady = b.steady) →
      (stopOverrun ((burnTo .called s).onBurn f)).burn.steady = s.burn.steady := fun f hf =>
    (stopOverrun_steady _).trans ((hf _).trans (burnTo_steady .called s))
  unfold enterCalled
  dsimp only
  split
  · exact (enterFiring_steady _).trans (hstopped _ fun _ => rfl)
  · exact hstopped _ fun _ => rfl

@[simp] theorem goIdle_steady (s : State) : (goIdle s).burn.steady = s.burn.steady := by
  unfold goIdle lookCall
  split
  · split
    · rw [enterCalled_steady, burnTo_steady]
    · exact burnTo_steady .idle s
  · exact burnTo_steady .inhibited s

/-- The call withdrawn, before the valve is looked at (R71). -/
def withdrawn (s : State) : State :=
  let t := (burnTo .stopping s).onBurn fun b =>
    { b with ignitionTimer := none, stopTimer := secondsTimer stopSeconds }
  if s.burn.firedInCall then afterFiring t else t

theorem withdraw_eq (s : State) : withdraw s = if (withdrawn s).valveOpen then withdrawn s
    else (goIdle ((withdrawn s).onBurn fun b => { b with stopTimer := none })).onBurn fun b =>
      { b with stoppingLeft := true } := rfl

theorem withdrawn_steady (s : State) : (withdrawn s).burn.steady = s.burn.steady := by
  unfold withdrawn
  dsimp only
  split
  · exact (afterFiring_steady _).trans (burnTo_steady .stopping s)
  · exact burnTo_steady .stopping s

@[simp] theorem withdraw_steady (s : State) : (withdraw s).burn.steady = s.burn.steady := by
  rw [withdraw_eq]
  split
  · exact withdrawn_steady s
  · exact (goIdle_steady _).trans (withdrawn_steady s)

@[simp] theorem addReason_steady (r : Reason) (s : State) : (addReason r s).burn.steady = s.burn.steady := by
  unfold addReason
  dsimp only
  split
  · rfl
  · split
    · exact burnTo_steady _ _
    · exact withdraw_steady _
    · exact withdraw_steady _
    · exact withdraw_steady _
    · rfl

@[simp] theorem removeReason_steady (r : Reason) (s : State) :
    (removeReason r s).burn.steady = s.burn.steady := by
  unfold removeReason
  dsimp only
  split
  · split
    · exact goIdle_steady _
    · rfl
  · rfl

/-! ## The inhibit set (R63) -/

theorem burnTo_inhibit (st : BurnState) (s : State) : (burnTo st s).burn.inhibit = s.burn.inhibit := by
  unfold burnTo
  dsimp only
  split <;> rfl

theorem stopOverrun_inhibit (s : State) : (stopOverrun s).burn.inhibit = s.burn.inhibit := by
  unfold stopOverrun
  split <;> rfl

theorem enterCalled_inhibit (s : State) : (enterCalled s).burn.inhibit = s.burn.inhibit := by
  have hstopped : ∀ f : Burn → Burn, (∀ b : Burn, (f b).inhibit = b.inhibit) →
      (stopOverrun ((burnTo .called s).onBurn f)).burn.inhibit = s.burn.inhibit := fun f hf =>
    (stopOverrun_inhibit _).trans ((hf _).trans (burnTo_inhibit .called s))
  unfold enterCalled
  dsimp only
  split
  · exact (burnTo_inhibit .firing _).trans (hstopped _ fun _ => rfl)
  · exact hstopped _ fun _ => rfl

theorem goIdle_inhibit (s : State) : (goIdle s).burn.inhibit = s.burn.inhibit := by
  unfold goIdle lookCall
  split
  · split
    · rw [enterCalled_inhibit, burnTo_inhibit]
    · exact burnTo_inhibit .idle s
  · exact burnTo_inhibit .inhibited s

@[simp] theorem has_put (i : InhibitSet) (v : Bool) (r r' : Reason) :
    (i.put v r).has r' = if r' = r then v else i.has r' := by
  cases r <;> cases r' <;> rfl

/-- A release adds ANTI_CYCLE alone (R66). -/
theorem afterFiring_has {r : Reason} (hr : r ≠ .antiCycle) (s : State) :
    (afterFiring s).burn.inhibit.has r = s.burn.inhibit.has r := by
  have hasked : (afterFiring s).burn.inhibit = (addAntiCycle s).burn.inhibit := by
    unfold afterFiring askOverrun runOverrun
    dsimp only
    split
    · exact stopOverrun_inhibit _
    · split <;> rfl
  rw [hasked, addAntiCycle]
  split
  · rfl
  · exact (has_put _ _ _ _).trans (if_neg hr)

theorem withdrawn_has {r : Reason} (hr : r ≠ .antiCycle) (s : State) :
    (withdrawn s).burn.inhibit.has r = s.burn.inhibit.has r := by
  have hentry := congrArg (InhibitSet.has · r) (burnTo_inhibit .stopping s)
  unfold withdrawn
  dsimp only
  split
  · exact (afterFiring_has hr _).trans hentry
  · exact hentry

theorem withdraw_has {r : Reason} (hr : r ≠ .antiCycle) (s : State) :
    (withdraw s).burn.inhibit.has r = s.burn.inhibit.has r := by
  rw [withdraw_eq]
  split
  · exact withdrawn_has hr s
  · exact (congrArg (InhibitSet.has · r) (goIdle_inhibit _)).trans (withdrawn_has hr s)

/-- A reason added stands; of the others only ANTI_CYCLE can have come with it (R63, R66). -/
theorem addReason_has (r : Reason) {r' : Reason} (hr : r' ≠ .antiCycle) (s : State) :
    (addReason r s).burn.inhibit.has r' = if r' = r then true else s.burn.inhibit.has r' := by
  unfold addReason
  dsimp only
  split
  · next hin =>
    split
    · next heq => rw [heq, hin]
    · rfl
  · split
    · exact (congrArg (InhibitSet.has · r') (burnTo_inhibit _ _)).trans (has_put _ _ _ _)
    · exact (withdraw_has hr _).trans (has_put _ _ _ _)
    · exact (withdraw_has hr _).trans (has_put _ _ _ _)
    · exact (withdraw_has hr _).trans (has_put _ _ _ _)
    · exact has_put _ _ _ _

/-- A reason removed stands no more, and the others stand (R63). -/
theorem removeReason_has (r r' : Reason) (s : State) :
    (removeReason r s).burn.inhibit.has r' = if r' = r then false else s.burn.inhibit.has r' := by
  unfold removeReason
  dsimp only
  split
  · split
    · exact (congrArg (InhibitSet.has · r') (goIdle_inhibit _)).trans (has_put _ _ _ _)
    · exact has_put _ _ _ _
  · next hout =>
    split
    · next heq => rw [heq]; exact Bool.eq_false_iff.2 hout
    · rfl

theorem setReason_has (r : Reason) (v : Bool) {r' : Reason} (hr : r' ≠ .antiCycle) (s : State) :
    (setReason r v s).burn.inhibit.has r' = if r' = r then v else s.burn.inhibit.has r' := by
  cases v
  · exact removeReason_has r r' s
  · exact addReason_has r hr s

@[simp] theorem setReason_steady (r : Reason) (v : Bool) (s : State) :
    (setReason r v s).burn.steady = s.burn.steady := by
  cases v
  · exact removeReason_steady r s
  · exact addReason_steady r s

end Sys2Proof.Machine
end

section
/-! PROOF. CLEAR_TRIP (O27): a load state set back to OK, and what it tells. -/

namespace Sys2Proof.Machine

variable {s t u : State}

/-! ## A changed load state -/

/-- What follows a change of a load state, before pump proven is looked at (R32). -/
def loadTold (ch : Fin 10) (new : LoadState) (s : State) : State :=
  tellLoad ch new (postNotice .channelFault (s.onChan ch fun c => { c with load := new }))

theorem setLoad_changed {ch : Fin 10} {new : LoadState} (h : new ≠ s.out.channels[ch].load) :
    setLoad ch new s = if ch = 2 then evaluatePump (loadTold ch new s) else loadTold ch new s := if_neg h

/-- Pump proven apart, a changed load state leaves what it told. -/
theorem setLoad_hide {ch : Fin 10} {new : LoadState} (h : new ≠ s.out.channels[ch].load) :
    (setLoad ch new s).hide [.out, .posts] = (loadTold ch new s).hide [.out, .posts] := by
  rw [setLoad_changed h]
  split
  · simp
  · rfl

/-- A load that is OK again reaches BURN alone (R32). -/
theorem tellLoad_ok_hide (ch : Fin 10) (s : State) :
    (tellLoad ch .ok s).hide [.burn, .posts] = s.hide [.burn, .posts] := by
  unfold tellLoad
  split
  · rfl
  · split
    · simp
    · split <;> simp

/-- PUMP leaves the inhibit set with CH2's fault, and CH0's leaves the call controlled again (R32). -/
theorem tellLoad_ok_burn (ch : Fin 10) (s : State) :
    (ch = 2 → (tellLoad ch .ok s).burn.inhibit.pump = false)
      ∧ (ch ≠ 0 → ch ≠ 2 → (tellLoad ch .ok s).burn = s.burn)
      ∧ (ch = 0 → (tellLoad ch .ok s).burn = { s.burn with uncontrolled := false }) := by
  refine ⟨fun h2 => ?_, fun h0 h2 => ?_, fun h0 => ?_⟩
  · subst h2
    exact removeReason_has .pump .pump s
  · unfold tellLoad
    split
    · rfl
    · rw [if_neg h2, if_neg h0]
  · subst h0
    rfl

/-! ## A trip cleared -/

/-- The entry of the cleared channel before it is resolved (R31). -/
def Channel.cleared (c : Channel) : Channel := { c.recounted with load := .ok, judgement := .none }

/-- A trip cleared: the channel is OK, its counts and judgement begun again, and it is driven by Table 2-4
(R31). -/
theorem clearTrip_entry (ch c : Fin 10) (s : State) : (clearTrip ch s).out.channels[c] =
    if c = ch then s.out.channels[ch].cleared.entered ((clearTrip ch s).tableEffective ch)
    else s.out.channels[c] := by
  unfold clearTrip
  rw [resolveChannel_entry, setLoad_channels, channels_set, channels_set, if_pos rfl, onChan_entry,
    if_pos rfl, onChan_entry]
  split <;> rfl

/-- Nothing but OUT, BURN and the notice is reached (R32). -/
theorem clearTrip_told {ch : Fin 10} (hload : s.out.channels[ch].load = .tripped) :
    (clearTrip ch s).zone = s.zone ∧ (clearTrip ch s).loop = s.loop
      ∧ (clearTrip ch s).link = (postNotice .channelFault s).link
      ∧ (ch = 2 → (clearTrip ch s).burn.inhibit.pump = false)
      ∧ (ch ≠ 0 → ch ≠ 2 → (clearTrip ch s).burn = s.burn)
      ∧ (ch = 0 → (clearTrip ch s).burn = { s.burn with uncontrolled := false }) := by
  let v := s.onChan ch fun c => { c.clearCounts with judgement := .none }
  let w := postNotice .channelFault (v.onChan ch fun c => { c with load := .ok })
  have hnew : LoadState.ok ≠ v.out.channels[ch].load := by
    have hv : v.out.channels[ch].load = s.out.channels[ch].load := by rw [onChan_entry, if_pos rfl]; rfl
    rw [hv, hload]
    decide
  have e : (clearTrip ch s).hide [.out, .posts] = (tellLoad ch .ok w).hide [.out, .posts] :=
    (hide_resolveChannel ch _ (by decide) (by decide)).trans (setLoad_hide hnew)
  have same := hide_eq_iff.1 e
  have told := hide_eq_iff.1 (tellLoad_ok_hide ch w)
  have hburn : (clearTrip ch s).burn = (tellLoad ch .ok w).burn := same .burn (by decide)
  obtain ⟨htwo, hother, hzero⟩ := tellLoad_ok_burn ch w
  refine ⟨(same .zone (by decide)).trans (told .zone (by decide)),
    (same .loop (by decide)).trans (told .loop (by decide)),
    (same .link (by decide)).trans (told .link (by decide)), ?_, ?_, ?_⟩ <;> rw [hburn]
  · exact htwo
  · exact hother
  · exact hzero

theorem clearTripRequest_channel {c : Byte} {ch : Fin 10} (hc : c.toNat = ch.val) :
    clearTripRequest [c] s = clearTripChannel ch s := by
  simp only [clearTripRequest, channelOfIndex_eq_some.2 hc]

/-- Settles O27, row by row of Table 2-8. -/
theorem clearTripActsByItsTable : Obligations.ClearTripActsByItsTable := by
  intro c s htakes
  have hlength : [c].length ≤ maxPayload := Nat.le_of_ble_eq_true rfl
  refine ⟨fun hbad => ?_, fun ch hc => ⟨fun hch hkey => ?_, fun hallowed => ⟨fun hnot => ?_, fun hload hfault => ?_⟩⟩⟩
  · refine next_request_replied (body := clearTripRequest) htakes hlength ?_
    have hnone : channelOfIndex c.toNat = none := by
      rw [← Option.not_isSome_iff_eq_none, channelOfIndex_isSome]
      omega
    simp only [clearTripRequest, hnone]
    rfl
  · refine next_request_replied (body := clearTripRequest) htakes hlength ?_
    have hlocked : s.heard.keyActive = false := by simpa [State.keyActive, State.heard] using hkey
    rw [clearTripRequest_channel hc, clearTripChannel, hlocked, decide_eq_true hch]
    rfl
  all_goals
    have hfree : (decide (ch.val ≤ 1) && !s.heard.keyActive) = false := by
      obtain hch | hkey := hallowed
      · simp [show ¬ ch.val ≤ 1 by omega]
      · simp [State.keyActive, State.heard, hkey]
  · refine next_request_replied (body := clearTripRequest) htakes hlength ?_
    rw [clearTripRequest_channel hc, clearTripChannel, hfree]
    by_cases hload : s.out.channels[ch].load = .tripped
    · have hfault : s.scan.measureFault = true := hnot.resolve_left (not_not.2 hload)
      exact (if_neg (not_not.2 hload)).trans (if_pos hfault)
    · exact if_pos hload
  · have hbody : clearTripRequest [c] s.heard = (clearTrip ch s.heard, plainReply 0x09 .ok .none []) := by
      rw [clearTripRequest_channel hc, clearTripChannel, hfree]
      exact (if_neg (not_not.2 hload)).trans (if_neg (by simpa [State.heard] using hfault))
    obtain ⟨hzone, hloop, hlink, htwo, hother, hzero⟩ := clearTrip_told (s := s.heard) hload
    obtain ⟨l, hexec, hanswered, hnotices⟩ := request_answers (body := clearTripRequest) htakes hlength hbody
      (by rw [hlink]; exact ⟨rfl, rfl, rfl⟩)
    refine ⟨_, hexec, changesOnly_onLink (by decide) (by simp) l, hanswered, ?_, ?_, fun x hx => ?_, hzone, hloop,
      htwo, fun h0 h2 => hother (fun e => h0 (congrArg Fin.val e)) h2, hzero⟩
    · change Notice.channelFault ∈ l.notices
      rw [hnotices, hlink]
      exact mem_insertNotice.2 (.inl rfl)
    · exact (clearTrip_entry ch ch s.heard).trans (if_pos rfl)
    · exact (clearTrip_entry ch x s.heard).trans (if_neg hx)

end Sys2Proof.Machine
end

section
/-! PROOF. ZONE's plans: what calls and valves leave of the zones, and the targets derived again (R47, R48, O25). -/

namespace Sys2Proof.Machine

variable {s t u : State}

/-! ## What calls and valves leave of a zone -/

/-- A zone without its calls and its valve sequence: what it was told, and its target. -/
def Zone.plan (zn : Zone) : Zone :=
  { zn with modeCall := false, frostCall := false, call := false, state := .idle, timer := .stopped }

/-- A part of the plan is the same where the plan is. -/
theorem plan_field {β : Type} (g : Zone → β) (hg : ∀ zn : Zone, g zn.plan = g zn) {a b : Zone}
    (h : a.plan = b.plan) : g a = g b := by
  rw [← hg, h, hg]

/-- The zones have the same plans, and ZONE the same view of the plant (R48, R58, R60). -/
def State.samePlans (s t : State) : Prop :=
  t.zone.stage = s.zone.stage ∧ t.zone.overrun = s.zone.overrun ∧ t.zone.boilerFrost = s.zone.boilerFrost
    ∧ ∀ z : Fin 6, t.zone.zones[z].plan = s.zone.zones[z].plan

/-- A zone's entry, once one of them was set. -/
theorem onZone_entry (z y : Fin 6) (f : Zone → Zone) (s : State) :
    (s.onZone z f).zone.zones[y] = if y = z then f s.zone.zones[z] else s.zone.zones[y] := by
  by_cases hy : y = z
  · subst hy
    simp [State.onZone, State.onZoneBlock]
  · have hv : z.val ≠ y.val := fun e => hy (Fin.ext e.symm)
    simp [State.onZone, State.onZoneBlock, hy, hv]

namespace State.samePlans

theorem refl (s : State) : s.samePlans s := ⟨rfl, rfl, rfl, fun _ => rfl⟩

section Updates
variable (h : s.samePlans u)
include h

theorem ite {c : Prop} [Decidable c] (ht : s.samePlans t) : s.samePlans (if c then u else t) := by
  split
  · exact h
  · exact ht

theorem of_zone (e : t.zone = u.zone) : s.samePlans t := by
  rw [State.samePlans, e]
  exact h

theorem foldl {α : Type} {f : State → α → State} {l : List α}
    (hf : ∀ v a, s.samePlans v → s.samePlans (f v a)) : s.samePlans (l.foldl f u) := by
  induction l generalizing u with
  | nil => exact h
  | cons a rest ih => exact ih (hf u a h)

theorem onZone {z : Fin 6} {f : Zone → Zone} (hf : ∀ zn : Zone, (f zn).plan = zn.plan) :
    s.samePlans (u.onZone z f) := by
  obtain ⟨hstage, hoverrun, hfrost, hplans⟩ := h
  refine ⟨hstage, hoverrun, hfrost, fun y => ?_⟩
  rw [onZone_entry]
  split
  · next hy =>
    subst hy
    exact (hf _).trans (hplans y)
  · exact hplans y

theorem zoneTo {z st timer} : s.samePlans (zoneTo z st timer u) := by
  have hset : s.samePlans (u.onZone z fun zn => { zn with state := st, timer := timer }) :=
    h.onZone fun _ => rfl
  unfold Machine.zoneTo
  dsimp only
  split
  · exact hset
  · exact of_zone hset rfl

theorem formHeat : s.samePlans (formHeat u) := by
  unfold Machine.formHeat
  split <;> exact h

theorem formPump : s.samePlans (formPump u) := by
  unfold Machine.formPump
  split <;> exact h

theorem formOutputs : s.samePlans (formOutputs u) := h.formHeat.formPump

theorem enterOpening {z} : s.samePlans (enterOpening z u) := h.zoneTo.zoneTo.ite h.zoneTo

theorem enterIdle {z} : s.samePlans (enterIdle z u) := h.zoneTo.enterOpening.ite h.zoneTo

theorem enterClosing {z} : s.samePlans (enterClosing z u) := h.zoneTo.ite h.zoneTo.enterIdle

theorem callRises {z} : s.samePlans (callRises z u) := by
  unfold Machine.callRises
  split
  · exact h.ite h.enterOpening
  · exact h.zoneTo
  · exact h

theorem callFalls {z} : s.samePlans (callFalls z u) := by
  have hclosed : s.samePlans (closeOtherHolds z u) := h.foldl fun _ _ hv => hv.enterClosing.ite hv
  unfold Machine.callFalls
  split
  · exact h.enterClosing
  · exact h.enterClosing.ite hclosed.zoneTo
  · exact h

theorem formCall {z} : s.samePlans (formCall z u) := by
  have hcalled : ∀ v, s.samePlans (u.onZone z fun y => { y with call := v }) := fun v => h.onZone fun _ => rfl
  exact h.ite (((hcalled _).callRises.ite (hcalled _).callFalls).formOutputs)

theorem evaluateCall {z} : s.samePlans (evaluateCall z u) := by
  have hcalls : ∀ (a b : Bool) (zn : Zone), ({ zn with modeCall := a, frostCall := b } : Zone).plan = zn.plan :=
    fun _ _ _ => rfl
  unfold Machine.evaluateCall
  exact formCall (onZone h (hcalls _ _))

end Updates

end State.samePlans

/-! ## Targets -/

/-- The targets that ZONE derives are R48's. -/
theorem targetOf_eq (s : State) (z : Fin 6) : s.targetOf z = s.targetByRule z := by
  unfold State.targetOf State.targetByRule
  have hmode : s.modeInForce z = s.servedMode z := rfl
  have hzone : s.zoneSet z = s.sett.working.zones[z] := rfl
  have hdial : (s.zoneAt z).dial = s.zone.zones[z].dial := rfl
  rw [hmode, hzone, hdial]
  generalize s.sett.working.zones[z] = p
  generalize s.zone.zones[z].dial = d
  cases s.servedMode z with
  | economy => rfl
  | frost => rfl
  | off => rfl
  | comfort =>
    have hscarce : s.zone.stage.scarce = true ↔ s.zone.stage = .reserve ∨ s.zone.stage = .dry := by
      cases s.zone.stage <;> decide
    simp only [hscarce]
    split
    · rfl
    · unfold comfortTarget
      cases hkind : p.kind
      · simp
      · cases d with
        | none => simp
        | some d =>
          simp only [if_true, clampInt]
          split
          · rfl
          · split <;> rfl
      · simp

/-- The target of a zone depends on these parts only (R47, R48). -/
theorem targetOf_congr {z : Fin 6} (hmode : t.out.mode = s.out.mode) (hsett : t.sett = s.sett)
    (hstage : t.zone.stage = s.zone.stage) (hhost : t.zone.zones[z].hostMode = s.zone.zones[z].hostMode)
    (hdial : t.zone.zones[z].dial = s.zone.zones[z].dial) : t.targetOf z = s.targetOf z := by
  have hserved : t.servedMode z = s.servedMode z := by rw [State.servedMode, hmode, hhost, hsett]; rfl
  rw [targetOf_eq, targetOf_eq, State.targetByRule, hserved, hstage, hdial, hsett]
  rfl

/-- The targets of the zones of a list were derived again; the others stand, and so does what targets are derived
of (R48). -/
def State.retargets (l : List (Fin 6)) (s t : State) : Prop :=
  t.out = s.out ∧ t.sett = s.sett ∧ t.zone.stage = s.zone.stage
    ∧ (∀ z : Fin 6, t.zone.zones[z].hostMode = s.zone.zones[z].hostMode
      ∧ t.zone.zones[z].dial = s.zone.zones[z].dial)
    ∧ ∀ z : Fin 6, t.zone.zones[z].target = if z ∈ l then s.targetOf z else s.zone.zones[z].target

namespace State.retargets
variable {l : List (Fin 6)} {z : Fin 6}

theorem nil (s : State) : s.retargets [] s := ⟨rfl, rfl, rfl, fun _ => ⟨rfl, rfl⟩, fun _ => rfl⟩

section After
variable (h : s.retargets l t)
include h

/-- Deriving reads nothing that deriving changes. -/
theorem targetOf (y : Fin 6) : t.targetOf y = s.targetOf y := by
  obtain ⟨hout, hsett, hstage, hsame, -⟩ := h
  obtain ⟨hhost, hdial⟩ := hsame y
  exact targetOf_congr (by rw [hout]) hsett hstage hhost hdial

theorem target (hz : z ∈ l) : t.zone.zones[z].target = t.targetOf z := by
  have htarget : t.targetOf z = s.targetOf z := h.targetOf z
  obtain ⟨-, -, -, -, htargets⟩ := h
  rw [htargets z, if_pos hz, htarget]

/-- One zone more. -/
theorem cons (hu : t.retargets [z] u) : s.retargets (z :: l) u := by
  have htarget : ∀ y, t.targetOf y = s.targetOf y := h.targetOf
  obtain ⟨hout, hsett, hstage, hsame, htargets⟩ := h
  obtain ⟨hout', hsett', hstage', hsame', htargets'⟩ := hu
  refine ⟨hout'.trans hout, hsett'.trans hsett, hstage'.trans hstage,
    fun y => ⟨(hsame' y).1.trans (hsame y).1, (hsame' y).2.trans (hsame y).2⟩, fun y => ?_⟩
  rw [htargets' y, htargets y, htarget]
  by_cases hyz : y = z
  · subst hyz
    rw [if_pos List.mem_cons_self, if_pos List.mem_cons_self]
  · simp only [List.mem_cons, hyz, false_or, List.not_mem_nil, if_false]

theorem samePlans (hout : u.out = t.out) (hsett : u.sett = t.sett) (hu : t.samePlans u) : s.retargets l u := by
  obtain ⟨hout', hsett', hstage, hsame, htargets⟩ := h
  obtain ⟨hstage', -, -, hplans⟩ := hu
  exact ⟨hout.trans hout', hsett.trans hsett', hstage'.trans hstage,
    fun y => ⟨(plan_field Zone.hostMode (fun _ => rfl) (hplans y)).trans (hsame y).1,
      (plan_field Zone.dial (fun _ => rfl) (hplans y)).trans (hsame y).2⟩,
    fun y => (plan_field Zone.target (fun _ => rfl) (hplans y)).trans (htargets y)⟩

end After

/-- A zone's new target, stored. -/
theorem onZone {f : Zone → Zone} (hhost : (f s.zone.zones[z]).hostMode = s.zone.zones[z].hostMode)
    (hdial : (f s.zone.zones[z]).dial = s.zone.zones[z].dial)
    (htarget : (f s.zone.zones[z]).target = s.targetOf z) : s.retargets [z] (s.onZone z f) := by
  refine ⟨rfl, rfl, rfl, fun y => ?_, fun y => ?_⟩ <;> rw [onZone_entry]
  · split
    · next hy =>
      subst hy
      exact ⟨hhost, hdial⟩
    · exact ⟨rfl, rfl⟩
  · simp only [List.mem_singleton]
    split
    · next hy =>
      subst hy
      exact htarget
    · rfl

/-- A zone's call evaluated after its target was derived (R49 to R52). -/
theorem evaluateCall (y : Fin 6) (h : s.retargets l t) : s.retargets l (Machine.evaluateCall y t) := by
  have e : (Machine.evaluateCall y t).hide [.zone, .posts] = t.hide [.zone, .posts] := by simp
  exact h.samePlans (hide_eq_iff.1 e .out (by decide)) (hide_eq_iff.1 e .sett (by decide))
    (State.samePlans.refl t).evaluateCall

/-- A write to the zone's node changes LOOP alone (R44). -/
theorem writeToZoneNode (y : Fin 6) (i : Item) (n : Nat) (h : s.retargets l t) :
    s.retargets l (Machine.writeToZoneNode y i n t) := by
  have e : (Machine.writeToZoneNode y i n t).hide [.loop] = t.hide [.loop] := by simp
  exact h.samePlans (hide_eq_iff.1 e .out (by decide)) (hide_eq_iff.1 e .sett (by decide))
    (State.samePlans.of_zone (State.samePlans.refl t) (hide_eq_iff.1 e .zone (by decide)))

/-- One zone's target derived; a change is told to its node and its call evaluated (R48). -/
theorem deriveTarget (z : Fin 6) (s : State) : s.retargets [z] (deriveTarget z s) := by
  unfold Machine.deriveTarget
  split
  · next hsame =>
    refine ⟨rfl, rfl, rfl, fun _ => ⟨rfl, rfl⟩, fun y => ?_⟩
    simp only [List.mem_singleton]
    split
    · next hy =>
      subst hy
      exact hsame.symm
    · rfl
  · exact evaluateCall z (writeToZoneNode z _ _ (onZone rfl rfl rfl))

/-- A change of the mode in force (R47). -/
theorem modeChanged (z : Fin 6) (s : State) : s.retargets [z] (modeChanged z s) :=
  evaluateCall z (deriveTarget z s)

/-- Every zone of a list, one after the other. -/
theorem foldl {f : Fin 6 → State → State} (hf : ∀ (z : Fin 6) (v : State), v.retargets [z] (f z v))
    {l m : List (Fin 6)} (h : s.retargets l t) :
    s.retargets (m.reverse ++ l) (m.foldl (fun v z => f z v) t) := by
  induction m generalizing l t with
  | nil => exact h
  | cons z rest ih =>
    rw [List.reverse_cons, List.append_assoc]
    exact ih (h.cons (hf z t))

end State.retargets

/-- Every zone derived, its target is that of its mode in force (R47, R48). -/
theorem eachZone_targets {f : Fin 6 → State → State} (hf : ∀ (z : Fin 6) (v : State), v.retargets [z] (f z v))
    (s : State) (z : Fin 6) : (eachZone f s).zone.zones[z].target = (eachZone f s).targetOf z := by
  have h := State.retargets.foldl (m := allZones) hf (State.retargets.nil s)
  exact h.target (List.mem_append_left _ (List.mem_reverse.2 (mem_allZones z)))

end Sys2Proof.Machine
end

section
/-! PROOF. RESUME and the silence timer: the output mode and what follows it (O25). -/

namespace Sys2Proof.Machine

variable {s t u : State}

/-! ## The mode through the resolving of channels -/

theorem evaluatePump_cause (s : State) : (evaluatePump s).out.cause = s.out.cause := by
  unfold evaluatePump
  split <;> rfl

theorem resolveChannel_cause (ch : Fin 10) (s : State) : (resolveChannel ch s).out.cause = s.out.cause := by
  unfold resolveChannel
  dsimp only
  repeat' split
  · rfl
  · exact evaluatePump_cause _
  · rfl

/-- What a fold's steps leave, the fold leaves. -/
theorem foldl_keeps {α β : Type} {f : State → α → State} (g : State → β) (hf : ∀ v a, g (f v a) = g v)
    (l : List α) (s : State) : g (l.foldl f s) = g s := by
  induction l generalizing s with
  | nil => rfl
  | cons a rest ih => exact (ih (f s a)).trans (hf s a)

theorem resolveAll_mode (s : State) : (resolveAll s).out.mode = s.out.mode := by
  unfold resolveAll eachChannel
  exact foldl_keeps (fun v => v.out.mode) (fun v ch => resolveChannel_mode ch v) _ s

theorem resolveAll_cause (s : State) : (resolveAll s).out.cause = s.out.cause := by
  unfold resolveAll eachChannel
  exact foldl_keeps (fun v => v.out.cause) (fun v ch => resolveChannel_cause ch v) _ s

/-- With every channel to be resolved, Table 2-4 is asked of none. -/
theorem drivenBut_univ (s : State) : kept_drivenBut.holds Set.univ s :=
  fun ch hch => absurd (Set.mem_univ ch) hch

/-! ## A new output mode -/

/-- The state in which ZONE is told the new mode (R19). -/
def State.modeSet (m : OutMode) (cause : ModeCause) (s : State) : State :=
  postNotice .mode (s.onOut fun o => { o with mode := m, cause := cause })

theorem setMode_changed {m : OutMode} {cause : ModeCause} (h : m ≠ s.out.mode) :
    setMode m cause s = resolveAll (zonesTakeMode (s.modeSet m cause)) := if_neg h

/-- ZONE and the channels leave LINK, and OUT its mode. -/
theorem setMode_out {m : OutMode} {cause : ModeCause} (h : m ≠ s.out.mode) :
    (setMode m cause s).out.mode = m ∧ (setMode m cause s).out.cause = cause
      ∧ (setMode m cause s).link = (s.modeSet m cause).link := by
  have e : (zonesTakeMode (s.modeSet m cause)).hide [.loop, .zone, .posts]
      = (s.modeSet m cause).hide [.loop, .zone, .posts] := by simp
  have hout : (zonesTakeMode (s.modeSet m cause)).out = (s.modeSet m cause).out :=
    hide_eq_iff.1 e .out (by decide)
  have elink : (setMode m cause s).hide [.out, .loop, .zone, .posts]
      = (s.modeSet m cause).hide [.out, .loop, .zone, .posts] := by
    rw [setMode_changed h]
    simp
  refine ⟨?_, ?_, hide_eq_iff.1 elink .link (by decide)⟩
  · rw [setMode_changed h, resolveAll_mode, hout]
    rfl
  · rw [setMode_changed h, resolveAll_cause, hout]
    rfl

/-- Every channel is driven by Table 2-4 in the new mode (R19, R22). -/
theorem setMode_outputs {m : OutMode} {cause : ModeCause} (h : m ≠ s.out.mode) :
    (setMode m cause s).outputsByTable := by
  rw [setMode_changed h]
  have hall : kept_drivenBut.holds ∅ (resolveAll (zonesTakeMode (s.modeSet m cause))) :=
    (((drivenBut_univ s).onMode).postNotice.zonesTakeMode).resolveAll
  exact drivenBut_empty.1 hall

/-- A derived target is R48's as long as the plans, the mode and the settings stand. -/
theorem target_of_samePlans {v : State} {z : Fin 6} (hmode : t.out.mode = v.out.mode) (hsett : t.sett = v.sett)
    (hplans : v.samePlans t) (h : v.zone.zones[z].target = v.targetOf z) :
    t.zone.zones[z].target = t.targetByRule z := by
  obtain ⟨hstage, -, -, hplan⟩ := hplans
  rw [← targetOf_eq, targetOf_congr hmode hsett hstage (plan_field Zone.hostMode (fun _ => rfl) (hplan z))
    (plan_field Zone.dial (fun _ => rfl) (hplan z)), ← h]
  exact plan_field Zone.target (fun _ => rfl) (hplan z)

/-- Forming ZONE's outputs and resolving the channels leave the targets as derived (R48). -/
theorem targets_resolveAll {v : State} (z : Fin 6) (h : v.zone.zones[z].target = v.targetOf z) :
    (resolveAll (formOutputs v)).zone.zones[z].target = (resolveAll (formOutputs v)).targetByRule z := by
  have eform : (formOutputs v).hide [.zone, .posts] = v.hide [.zone, .posts] := by simp
  have eall : (resolveAll (formOutputs v)).hide [.out, .posts] = (formOutputs v).hide [.out, .posts] := by simp
  have hout : (formOutputs v).out = v.out := hide_eq_iff.1 eform .out (by decide)
  exact target_of_samePlans (by rw [resolveAll_mode, hout])
    ((hide_eq_iff.1 eall .sett (by decide)).trans (hide_eq_iff.1 eform .sett (by decide)))
    ((State.samePlans.refl v).formOutputs.of_zone (hide_eq_iff.1 eall .zone (by decide))) h

/-- Every zone has the target of its mode in force (R47, R48). -/
theorem setMode_targets {m : OutMode} {cause : ModeCause} (h : m ≠ s.out.mode) (z : Fin 6) :
    (setMode m cause s).zone.zones[z].target = (setMode m cause s).targetByRule z := by
  rw [setMode_changed h, zonesTakeMode]
  exact targets_resolveAll z (eachZone_targets State.retargets.modeChanged _ z)

/-! ## RESUME and the silence timer -/

theorem resumeMode_of_byte {b : Byte} {m : OutMode} (hb : (b = 0 ∧ m = .run) ∨ (b = 1 ∧ m = .standby)) :
    resumeMode b.toNat = some m := by
  obtain ⟨rfl, rfl⟩ | ⟨rfl, rfl⟩ := hb <;> rfl

/-- Settles O25, from what `setMode` does to the mode, the channels and the targets. -/
theorem modeChangesReachChannelsAndZones : Obligations.ModeChangesReachChannelsAndZones := by
  intro s hrun
  have hlength : ∀ b : Byte, [b].length ≤ maxPayload := fun _ => Nat.le_of_ble_eq_true rfl
  refine ⟨fun m b howed hb => ⟨fun hsame => ?_, fun hnew => ?_⟩, fun b howed hb => ?_,
    fun n hsilence => ⟨fun hsame => ?_, fun hnew => ?_⟩⟩
  · refine next_request_replied (body := resumeRequest) ⟨hrun, howed⟩ (hlength b) ?_
    simp only [resumeRequest, resumeMode_of_byte hb]
    rw [show setMode m .resume s.heard = s.heard from if_pos hsame]
    rfl
  · have hbody : resumeRequest [b] s.heard = (setMode m .resume s.heard, plainReply 0x06 .ok .none []) := by
      simp only [resumeRequest, resumeMode_of_byte hb]
      rfl
    have hnew' : m ≠ s.heard.out.mode := hnew
    obtain ⟨hmode, hcause, hlink⟩ := setMode_out (cause := .resume) hnew'
    obtain ⟨l, hexec, hanswered, hnotices⟩ := request_answers (body := resumeRequest) ⟨hrun, howed⟩ (hlength b)
      hbody (by rw [hlink]; exact ⟨rfl, rfl, rfl⟩)
    refine ⟨_, hexec, changesOnly_onLink (by decide) (by simp) l, hanswered, hmode, hcause, ?_,
      setMode_outputs hnew', setMode_targets hnew'⟩
    change Notice.mode ∈ l.notices
    rw [hnotices, hlink]
    exact mem_insertNotice.2 (.inl rfl)
  · refine next_request_replied (body := resumeRequest) ⟨hrun, howed⟩ (hlength b) ?_
    have hnone : resumeMode b.toNat = none := by
      unfold resumeMode
      split
      · omega
      · omega
      · rfl
    simp only [resumeRequest, hnone]
    rfl
  all_goals
    have hexec : exec .silenceTimerExpiry s
        = .next (setMode .failsafe .silence (s.onLink fun l => { l with silence := none })) := by
      change Host.Outcome.next (whenRunning silenceExpires s) = _
      rw [whenRunning, if_pos hrun, silenceExpires, if_pos (by rw [hsilence]; rfl)]
  · rw [hexec]
    exact congrArg Host.Outcome.next (if_pos hsame.symm)
  · have hnew' : OutMode.failsafe ≠ (s.onLink fun l => { l with silence := none }).out.mode := Ne.symm hnew
    obtain ⟨hmode, hcause, hlink⟩ := setMode_out (cause := .silence) hnew'
    refine ⟨_, hexec, hide_eq_iff.1 (by simp), ?_, hmode, hcause, ?_, setMode_outputs hnew',
      setMode_targets hnew'⟩
    · rw [hlink]
      rfl
    · rw [hlink]
      exact mem_insertNotice.2 (.inl rfl)

end Sys2Proof.Machine
end

section
/-! PROOF. The end of start-up (O17). -/

namespace Sys2Proof.Machine

variable {s t u v : State}

/-! ## A missing LATCH record (R102) -/

/-- Records asked of BURN with none owed and none waiting go to STORE at once (R84, R91). -/
theorem askAll_clear {l : List Ask} (howed : s.burn.owed = []) (hasks : s.burn.asks = []) :
    askAll l s = l.foldl askNow s := by
  simp only [askAll, howed, hasks, List.isEmpty_nil, Bool.and_self, if_true]

/-- A record other than a LOCKOUT asked of a ready STORE is programmed at once (R141, R142). -/
theorem askStore_ready {tag : Tag} (htag : tag.isLockout = false) (p : Payload) (h : s.store.ready) :
    askStore tag p s = { s with store := s.store.appending p (some tag) } := by
  simp only [askStore, htag, Bool.false_eq_true, if_false]
  exact appendRecord_ready p (some tag) s h

/-- A record taken by a ready STORE leaves no answer. -/
theorem settle_appending {p : Payload} {tag : Option Tag} (h : s.store.ready) :
    settle { s with store := s.store.appending p tag } = { s with store := s.store.appending p tag } := by
  obtain ⟨-, -, hanswers, -⟩ := h
  exact settle_without_answers _ hanswers

/-- The end of start-up asks the LATCH record that is missing, and none else (R102). -/
theorem askMissingLatch_settled (hanswers : s.store.answers = [])
    (hclear : s.burn.latchMissing = false ∨ s.recordsClear) :
    ∃ b st, settle (askMissingLatch s) = { s with burn := b, store := st }
      ∧ (s.burn.latchMissing = false ∨ s.burn.latchReason = none → b = s.burn ∧ st = s.store)
      ∧ ∀ why, s.burn.latchMissing = true → s.burn.latchReason = some why →
        b = { s.burn with latchMissing := false }
        ∧ st = s.store.appending (.latch why s.burn.relock) (some .closing) := by
  have hsettled := settle_without_answers s hanswers
  unfold askMissingLatch
  split
  · next why hmissing hreason =>
    obtain ⟨hready, howed, hasks⟩ := hclear.resolve_left (by simp [hmissing])
    refine ⟨{ s.burn with latchMissing := false },
      s.store.appending (.latch why s.burn.relock) (some .closing), ?_, fun hnone => ?_, fun _ _ hwhy => ?_⟩
    · let w := s.onBurn fun b => { b with latchMissing := false }
      have hready' : w.store.ready := hready
      rw [askAll_clear (s := w) howed hasks]
      change settle (askStore .closing (.latch why s.burn.relock) w) = _
      rw [askStore_ready rfl _ hready', settle_appending hready']
      rfl
    · rw [hmissing, hreason] at hnone
      simp at hnone
    · rw [hreason] at hwhy
      obtain rfl := Option.some.inj hwhy
      exact ⟨rfl, rfl⟩
  · next hnot =>
    exact ⟨s.burn, s.store, hsettled, fun _ => ⟨rfl, rfl⟩,
      fun why hmissing hwhy => absurd hwhy (hnot why hmissing)⟩

/-! ## OUT and ZONE begin -/

/-- OUT has each owner's last word at the end of start-up (R35). -/
theorem outBegins_demand (ch : Fin 10) (s : State) : (outBegins s).out.channels[ch].demand = s.toldDemand ch := by
  unfold outBegins
  rw [← (eachChannel_takeLastDemand s ch).1]
  unfold resolveAll
  generalize eachChannel takeLastDemand s = v
  unfold eachChannel
  exact foldl_keeps (fun v => v.out.channels[ch].demand) (fun v c => (resolveChannel_drive c ch v).1) _ v

/-- Each zone's target derived as ZONE begins (R48, R51). -/
theorem zoneBegins_retargets (z : Fin 6) (v : State) : v.retargets [z] (evaluateCall z
    ((if (v.zoneSet z).enabled && (v.zoneSet z).node == 0 then v.onZone z (Zone.see .blind)
      else v).onZone z fun zn => { zn with target := v.targetOf z })) := by
  refine State.retargets.evaluateCall z ?_
  split
  · have hseen : ∀ zn : Zone, (zn.see .blind).hostMode = zn.hostMode ∧ (zn.see .blind).dial = zn.dial := fun zn => by
      unfold Zone.see
      split <;> exact ⟨rfl, rfl⟩
    refine ⟨rfl, rfl, rfl, fun y => ?_, fun y => ?_⟩ <;> rw [onZone_entry, onZone_entry, onZone_entry, if_pos rfl]
    · split
      · next hy =>
        subst hy
        exact hseen _
      · exact ⟨rfl, rfl⟩
    · simp only [List.mem_singleton]
      split
      · next hy => rw [hy]
      · rfl
  · exact State.retargets.onZone rfl rfl rfl

theorem zonesBegin_target (z : Fin 6) (s : State) :
    (zonesBegin s).zone.zones[z].target = (zonesBegin s).targetByRule z := by
  unfold zonesBegin
  generalize hv : eachZone _ s = v
  have e : (formOutputs v).hide [.zone, .posts] = v.hide [.zone, .posts] := by simp
  have hout : (formOutputs v).out = v.out := hide_eq_iff.1 e .out (by decide)
  refine target_of_samePlans (by rw [hout]) (hide_eq_iff.1 e .sett (by decide))
    (State.samePlans.refl v).formOutputs ?_
  rw [← hv]
  exact eachZone_targets zoneBegins_retargets s z

/-! ## The poll ring begins (R38) -/

theorem mem_allNodes (n : Fin 15) : n ∈ allNodes := by revert n; decide

/-- The lowest bound address, or none. -/
theorem boundNodes_head (s : State) :
    (s.boundNodes.head? = none ↔ ∀ n : Fin 15, s.loop.nodes[n].zone = none)
      ∧ ∀ n, s.boundNodes.head? = some n → s.loop.nodes[n].zone ≠ none
        ∧ ∀ k : Fin 15, k < n → s.loop.nodes[k].zone = none := by
  have hfind : s.boundNodes.head? = allNodes.find? fun n => (s.loop.nodes[n].zone).isSome := List.head?_filter
  rw [hfind]
  refine ⟨?_, fun n hn => ?_⟩
  · simp only [List.find?_eq_none, mem_allNodes, true_implies, Option.not_isSome_iff_eq_none]
  · obtain ⟨hbound, before, after, hsplit, hbefore⟩ := List.find?_eq_some_iff_append.1 hn
    refine ⟨by simpa [Option.isSome_iff_ne_none] using hbound, fun k hk => ?_⟩
    have hsorted : allNodes.Pairwise (· < ·) := by decide
    have hmem : k ∈ before ++ n :: after := hsplit ▸ mem_allNodes k
    rw [hsplit] at hsorted
    have hlater : ∀ x ∈ after, n < x := (List.pairwise_cons.1 (List.pairwise_append.1 hsorted).2.1).1
    obtain hin | hin := List.mem_append.1 hmem
    · simpa using hbefore k hin
    · obtain rfl | hin := List.mem_cons.1 hin
      · exact absurd hk (lt_irrefl _)
      · exact absurd hk (hlater k hin).not_gt

/-- Nothing polled yet: the ring begins at the lowest bound address, or rests with none bound (R38). -/
theorem openPollSlot_first (hlast : s.loop.lastPolled = none) :
    ((openPollSlot s).loop.slot = .quiet ↔ ∀ n : Fin 15, s.loop.nodes[n].zone = none)
      ∧ (∀ n b, (openPollSlot s).loop.slot = .poll n b → b = false ∧ (openPollSlot s).loop.nodes[n].zone ≠ none
        ∧ (openPollSlot s).loop.lastPolled = some n
        ∧ ∀ k : Fin 15, k < n → (openPollSlot s).loop.nodes[k].zone = none)
      ∧ ∀ x b, (openPollSlot s).loop.slot ≠ .write x b := by
  obtain ⟨hnone, hsome⟩ := boundNodes_head s
  have hnext : s.nextPoll = s.boundNodes.head? := by simp only [State.nextPoll, hlast]
  unfold openPollSlot
  rw [hnext]
  split
  · next n hn =>
    obtain ⟨hbound, hbelow⟩ := hsome n hn
    refine ⟨⟨nofun, fun hall => absurd (hall n) hbound⟩, fun m b hm => ?_, nofun⟩
    cases hm
    exact ⟨rfl, hbound, rfl, hbelow⟩
  · next hn => exact ⟨⟨fun _ => hnone.1 hn, fun _ => rfl⟩, nofun, nofun⟩

/-! ## The blocks begin their work (R155) -/

/-- SCAN, OUT and ZONE begin. -/
def outputsBegun (s : State) : State := zonesBegin (outBegins (startPass (s.withPhase .running)))

/-- All blocks begin, but for the record that is missing. -/
def blocksBegun (s : State) : State := supplyBegins (linkBegins (fuelBegins (openPollSlot (outputsBegun s))))

theorem beginWork_eq (s : State) : beginWork s = settle (askMissingLatch (blocksBegun s)) := rfl

theorem blocksBegun_phase (s : State) : (blocksBegun s).phase = .running := by
  have e : (blocksBegun s).hide [.scan, .out, .loop, .zone, .fuel, .link, .posts]
      = (s.withPhase .running).hide [.scan, .out, .loop, .zone, .fuel, .link, .posts] := by
    unfold blocksBegun outputsBegun
    simp
  exact hide_eq_iff.1 e .phase (by decide)

theorem blocksBegun_hide (s : State) : (blocksBegun s).hide [.phase, .scan, .out, .loop, .zone, .fuel, .link, .posts]
    = s.hide [.phase, .scan, .out, .loop, .zone, .fuel, .link, .posts] := by
  unfold blocksBegun outputsBegun
  simp

/-- The first pass starts (R155). -/
theorem blocksBegun_scan (s : State) :
    (blocksBegun s).scan.passTimer = some 2000 ∧ (blocksBegun s).scan.inFlight.isSome = true := by
  have e : (blocksBegun s).hide [.out, .loop, .zone, .fuel, .link, .posts]
      = (startPass (s.withPhase .running)).hide [.out, .loop, .zone, .fuel, .link, .posts] := by
    unfold blocksBegun outputsBegun
    simp
  have hscan : (blocksBegun s).scan = (startPass (s.withPhase .running)).scan := hide_eq_iff.1 e .scan (by decide)
  rw [hscan]
  exact ⟨rfl, rfl⟩

theorem blocksBegun_demand (ch : Fin 10) (s : State) :
    (blocksBegun s).out.channels[ch].demand = s.toldDemand ch := by
  have e : (blocksBegun s).hide [.loop, .zone, .fuel, .link, .posts]
      = (outBegins (startPass (s.withPhase .running))).hide [.loop, .zone, .fuel, .link, .posts] := by
    unfold blocksBegun outputsBegun
    simp
  rw [out_eq_of_hide _ e (by decide)]
  exact outBegins_demand ch _

theorem blocksBegun_target (z : Fin 6) (s : State) :
    (blocksBegun s).zone.zones[z].target = (blocksBegun s).targetByRule z := by
  have e : (blocksBegun s).hide [.loop, .fuel, .link] = (outputsBegun s).hide [.loop, .fuel, .link] := by
    unfold blocksBegun
    simp
  have hplans : (outputsBegun s).samePlans (blocksBegun s) :=
    State.samePlans.of_zone (State.samePlans.refl _) (hide_eq_iff.1 e .zone (by decide))
  refine target_of_samePlans (by rw [out_eq_of_hide _ e (by decide)]) (hide_eq_iff.1 e .sett (by decide)) hplans ?_
  rw [targetOf_eq, outputsBegun]
  exact zonesBegin_target z _

/-- FUEL's period and the trend timer begin (R126, R134). -/
theorem blocksBegun_fuel (s : State) : (blocksBegun s).fuel.periodTimer = 60 * s.par.period
    ∧ (blocksBegun s).fuel.deferred = false ∧ (blocksBegun s).fuel.trendTimer = 60 := by
  have e : (blocksBegun s).hide [.link] = (fuelBegins (openPollSlot (outputsBegun s))).hide [.link] := by
    unfold blocksBegun
    simp
  have hfuel : (blocksBegun s).fuel = (fuelBegins (openPollSlot (outputsBegun s))).fuel :=
    hide_eq_iff.1 e .fuel (by decide)
  have ebefore : (openPollSlot (outputsBegun s)).hide [.phase, .scan, .out, .loop, .zone, .posts]
      = s.hide [.phase, .scan, .out, .loop, .zone, .posts] := by
    unfold outputsBegun
    simp
  have hsett : (openPollSlot (outputsBegun s)).sett = s.sett := hide_eq_iff.1 ebefore .sett (by decide)
  have hpar : (openPollSlot (outputsBegun s)).par = s.par := congrArg SetBlock.working hsett
  rw [hfuel, ← hpar]
  generalize openPollSlot (outputsBegun s) = v
  exact ⟨rfl, rfl, rfl⟩

/-- LINK hears from the end of start-up on, and the hold is told of (R155, R174). -/
theorem supplyBegins_link (v : State) : (supplyBegins (linkBegins v)).link.receiver = .hunting
    ∧ (supplyBegins (linkBegins v)).link.silence = some (1000 * v.par.silence)
    ∧ (v.supply.hold = true → .mains ∈ (supplyBegins (linkBegins v)).link.notices) := by
  unfold supplyBegins
  split
  · exact ⟨rfl, rfl, fun _ => mem_insertNotice.2 (.inl rfl)⟩
  · next hhold => exact ⟨rfl, rfl, fun h => absurd h hhold⟩

theorem blocksBegun_link (s : State) : (blocksBegun s).link.receiver = .hunting
    ∧ (blocksBegun s).link.silence = some (1000 * s.par.silence)
    ∧ (s.supply.hold = true → .mains ∈ (blocksBegun s).link.notices) := by
  have e : (fuelBegins (openPollSlot (outputsBegun s))).hide [.phase, .scan, .out, .loop, .zone, .fuel, .posts]
      = s.hide [.phase, .scan, .out, .loop, .zone, .fuel, .posts] := by
    unfold outputsBegun
    simp
  have hsupply : (fuelBegins (openPollSlot (outputsBegun s))).supply = s.supply :=
    hide_eq_iff.1 e .supply (by decide)
  have hpar : (fuelBegins (openPollSlot (outputsBegun s))).par = s.par :=
    congrArg SetBlock.working (hide_eq_iff.1 e .sett (by decide))
  rw [← hsupply, ← hpar, blocksBegun]
  exact supplyBegins_link _

/-- The poll ring begins at the lowest bound address (R38). -/
theorem blocksBegun_loop (hlast : s.loop.lastPolled = none) :
    ((blocksBegun s).loop.slot = .quiet ↔ ∀ n : Fin 15, s.loop.nodes[n].zone = none)
      ∧ (∀ n b, (blocksBegun s).loop.slot = .poll n b → b = false ∧ (blocksBegun s).loop.nodes[n].zone ≠ none
        ∧ (blocksBegun s).loop.lastPolled = some n
        ∧ ∀ k : Fin 15, k < n → (blocksBegun s).loop.nodes[k].zone = none)
      ∧ ∀ x b, (blocksBegun s).loop.slot ≠ .write x b := by
  have e : (blocksBegun s).hide [.fuel, .link] = (openPollSlot (outputsBegun s)).hide [.fuel, .link] := by
    unfold blocksBegun
    simp
  have ebefore : (outputsBegun s).hide [.phase, .scan, .out, .zone, .posts]
      = s.hide [.phase, .scan, .out, .zone, .posts] := by
    unfold outputsBegun
    simp
  have hloop : (blocksBegun s).loop = (openPollSlot (outputsBegun s)).loop := hide_eq_iff.1 e .loop (by decide)
  have hbefore : (outputsBegun s).loop = s.loop := hide_eq_iff.1 ebefore .loop (by decide)
  rw [hloop, ← hbefore]
  exact openPollSlot_first (by rw [hbefore, hlast])

/-- Settles O17: the ring's invariant, and each block's begin of work. -/
theorem endOfStartUpBeginsTheWork : Obligations.EndOfStartUpBeginsTheWork := by
  refine ⟨reset_ringRests, fun s t h e => step_ringRests h e, fun s hphase hrests hanswers hclear => ?_⟩
  have hexec : exec .endOfStartUp s = .next (beginWork s) := congrArg Host.Outcome.next (if_pos hphase)
  have hlast : s.loop.lastPolled = none := hrests (by simp [State.running, hphase])
  have same := hide_eq_iff.1 (blocksBegun_hide s)
  have hburn : (blocksBegun s).burn = s.burn := same .burn (by decide)
  have hstore : (blocksBegun s).store = s.store := same .store (by decide)
  have hdriven : kept_drivenBut.holds ∅ (beginWork s) := Kept.holds.beginWork (drivenBut_univ s)
  obtain ⟨b, st, hsettled, hrests, hasked⟩ := askMissingLatch_settled (s := blocksBegun s)
    (by rw [hstore, hanswers]) (by rw [State.recordsClear, hburn, hstore]; exact hclear)
  rw [hburn, hstore] at hrests hasked
  rw [beginWork_eq, hsettled] at hexec hdriven
  obtain ⟨hpass, hinFlight⟩ := blocksBegun_scan s
  obtain ⟨hperiod, hdeferred, htrend⟩ := blocksBegun_fuel s
  obtain ⟨hreceiver, hsilence, hmains⟩ := blocksBegun_link s
  obtain ⟨hquiet, hpoll, hwrite⟩ := blocksBegun_loop hlast
  have echanged : ((((blocksBegun s).onBurn fun _ => b).onStore fun _ => st).hide
      [.phase, .scan, .out, .loop, .zone, .burn, .fuel, .store, .link, .posts])
      = s.hide [.phase, .scan, .out, .loop, .zone, .burn, .fuel, .store, .link, .posts] := by
    rw [hide_onStore _ _ (by decide), hide_onBurn _ _ (by decide)]
    exact hide_of_subset (by simp) (blocksBegun_hide s)
  have hphase' := blocksBegun_phase s
  have hdemand := fun ch => blocksBegun_demand ch s
  have htarget := fun z => blocksBegun_target z s
  generalize blocksBegun s = v at *
  exact ⟨_, hexec, hphase', hide_eq_iff.1 echanged, hrests, hasked, hpass, hinFlight,
    drivenBut_empty.1 hdriven, hdemand, htarget, hperiod, hdeferred, htrend, hreceiver, hsilence,
    hmains, hquiet, hpoll, hwrite⟩

end Sys2Proof.Machine
end

section
/-! PROOF. What STORE's serving leaves: its clock, the pending notices, and answers that are refusals (O51, O55). -/

namespace Sys2Proof.Machine

variable {s t u : State}

/-! ## STORE alone -/

/-- STORE's counter, timebase and wall clock. -/
def Store.clock (st : Store) : Nat × Nat × Nat × Bool := (st.runMinute, st.timebase, st.wall, st.wallSet)

/-- STORE's clock stands, and what it answers BURN more is refused (R141). -/
def Store.refusesOnly (st st' : Store) : Prop :=
  st'.clock = st.clock ∧ ∃ l, st'.answers = st.answers ++ l ∧ ∀ a ∈ l, a.stored = none

namespace Store.refusesOnly

variable {st st' : Store}

theorem of_same (hclock : st'.clock = st.clock) (hanswers : st'.answers = st.answers) : st.refusesOnly st' :=
  ⟨hclock, [], by rw [hanswers, List.append_nil], nofun⟩

theorem refl (st : Store) : st.refusesOnly st := of_same rfl rfl

theorem trans {st'' : Store} (h : st.refusesOnly st') (h' : st'.refusesOnly st'') : st.refusesOnly st'' := by
  obtain ⟨hclock, l, hanswers, hl⟩ := h
  obtain ⟨hclock', l', hanswers', hl'⟩ := h'
  refine ⟨hclock'.trans hclock, l ++ l', by rw [hanswers', hanswers, List.append_assoc], fun a ha => ?_⟩
  exact (List.mem_append.1 ha).elim (hl a) (hl' a)

/-- STORE_FULL is the only answer STORE gives on the spot (R141, R142). -/
theorem answerTo (tag : Option Tag) (p : Payload) (st : Store) : st.refusesOnly (st.answerTo tag p none) := by
  cases tag with
  | none => exact refl st
  | some tag => exact ⟨rfl, _, rfl, by simp⟩

theorem join (p : Payload) (tag : Option Tag) (st : Store) : st.refusesOnly (st.join p tag) := by
  unfold Store.join
  repeat' split
  · exact of_same rfl rfl
  · exact of_same rfl rfl
  · exact answerTo tag p st
  · exact of_same rfl rfl

theorem serveCarry (e : st.serveCarry = some st') : st.refusesOnly st' := by
  unfold Store.serveCarry at e
  repeat' split at e
  all_goals cases e
  all_goals exact of_same rfl rfl

theorem serveAppend (e : st.serveAppend = some st') : st.refusesOnly st' := by
  unfold Store.serveAppend at e
  split at e
  · cases e
  · next x rest _ =>
    have hrest : st.refusesOnly { st with queue := rest } := of_same rfl rfl
    repeat' split at e
    all_goals cases e
    · exact of_same rfl rfl
    · exact of_same rfl rfl
    · exact of_same rfl rfl
    · exact hrest.trans (answerTo x.tag x.payload _)
    · exact of_same rfl rfl

theorem serveInner (e : st.serveInner = some st') : st.refusesOnly st' := by
  unfold Store.serveInner at e
  split at e
  · next hcarry =>
    cases e
    exact serveCarry hcarry
  · split at e
    · next happend =>
      cases e
      exact serveAppend happend
    · unfold Store.serveKeep Store.serveSuspended at e
      repeat' split at e
      all_goals cases e
      · next hkeep =>
        split at hkeep
        · cases hkeep
          exact of_same rfl rfl
        · cases hkeep
      · exact of_same rfl rfl

theorem lookRotation (hold : Bool) (st : Store) : st.refusesOnly (st.lookRotation hold) := by
  unfold Store.lookRotation
  (repeat' split) <;> exact of_same rfl rfl

end Store.refusesOnly

/-! ## The array served -/

/-- From `s` to `t` only STORE, LINK and the image's mark change: STORE's clock stands, its new answers are
refusals, and no notice is gone. -/
def State.serves (s t : State) : Prop :=
  t.hide [.store, .link, .sett] = s.hide [.store, .link, .sett] ∧ s.store.refusesOnly t.store
    ∧ ∀ n ∈ s.link.notices, n ∈ t.link.notices

namespace State.serves

theorem refl (s : State) : s.serves s := ⟨rfl, .refl _, fun _ h => h⟩

theorem trans (h : s.serves u) (ht : u.serves t) : s.serves t :=
  ⟨ht.1.trans h.1, h.2.1.trans ht.2.1, fun n hn => ht.2.2 n (h.2.2 n hn)⟩

theorem onStore {f : Store → Store} (hf : s.store.refusesOnly (f s.store)) : s.serves (s.onStore f) :=
  ⟨hide_onStore _ _ (by decide), hf, fun _ h => h⟩

theorem endTask (o : TaskOutcome) (r : ReasonCode) (n : Nat) (s : State) : s.serves (endTask o r n s) := by
  refine ⟨by simp, ?_, ?_⟩ <;> unfold Machine.endTask <;> split
  · exact .refl _
  · exact .refl _
  · exact fun _ h => h
  · exact fun n h => mem_insertNotice.2 (.inr h)

theorem endReading (r : ReadTask) (s : State) : s.serves (endReading r s) := by
  have hread : s.serves (s.onStore fun st => { st with reading := none }) := onStore (.of_same rfl rfl)
  have hfill : ∀ c, s.serves (fillBuffer c (s.onStore fun st => { st with reading := none })) := fun c =>
    hread.trans ⟨by simp, .refl _, fun _ h => h⟩
  unfold Machine.endReading
  dsimp only
  split
  · exact ((hfill _).trans (endTask _ _ _ _)).trans (onStore (.lookRotation _ _))
  · exact (hread.trans (endTask _ _ _ _)).trans (onStore (.lookRotation _ _))

theorem startErase (e : startErase s = some t) : s.serves t := by
  unfold Machine.startErase at e
  repeat' split at e
  all_goals cases e
  · exact onStore (.of_same rfl rfl)
  · exact ⟨by simp, .of_same rfl rfl, fun _ h => h⟩

theorem serveOnce (e : serveOnce s = some t) : s.serves t := by
  unfold Machine.serveOnce at e
  split at e
  · cases e
    exact endReading _ s
  · split at e
    · next hinner =>
      cases e
      exact onStore (.serveInner hinner)
    · exact startErase e

theorem serve (n : Nat) (s : State) : s.serves (serve n s) := by
  induction n generalizing s with
  | zero => exact refl s
  | succ n ih =>
    unfold Machine.serve
    split
    · split
      · next hserve => exact (serveOnce hserve).trans (ih _)
      · exact refl s
    · exact refl s

theorem kick (s : State) : s.serves (kick s) := by
  unfold Machine.kick
  split
  · exact serve _ s
  · split
    · exact (onStore (.of_same rfl rfl)).trans (serve _ _)
    · exact refl s
  · exact refl s

theorem appendRecord (p : Payload) (tag : Option Tag) (s : State) : s.serves (appendRecord p tag s) :=
  (onStore (.join p tag s.store)).trans (kick _)

theorem lookAtRotation (s : State) : s.serves (lookAtRotation s) :=
  (onStore (.lookRotation _ _)).trans (kick _)

end State.serves

end Sys2Proof.Machine
end

section
/-! PROOF. What STORE's answers, and HELD's evaluation, leave of BURN; the notices and the clock that stand through
them (O22, O51, O55, O56). -/

namespace Sys2Proof.Machine

/-- What BURN has of the plant and of its own firing, which no answer of STORE changes. -/
def Burn.lasting (b : Burn) : Burn :=
  { Burn.first with
    inhibit := b.inhibit, antiCycle := b.antiCycle, noStart := b.noStart, runaway := b.runaway
    uncontrolled := b.uncontrolled, stage := b.stage, heat := b.heat, pump := b.pump, accMs := b.accMs
    accRunning := b.accRunning, totalSeconds := b.totalSeconds, starts := b.starts, newest := b.newest
    lockouts := b.lockouts, lastNoStart := b.lastNoStart, lastProof := b.lastProof }

/-- The array, and how rotation stands. -/
def Store.rotating (st : Store) : ArrayState × Rotation × List Record × Option Rotation :=
  (st.array, st.rotation, st.carryWork, st.setBack)

/-- While a program runs, the array and rotation stand. -/
def Store.programStands (st st' : Store) : Prop := ∀ q, st.array = .programming q → st'.rotating = st.rotating

namespace Store.programStands

variable {st st' st'' : Store}

theorem of_eq (h : st' = st) : st.programStands st' := fun _ _ => by rw [h]

theorem trans (h : st.programStands st') (h' : st'.programStands st'') : st.programStands st'' := by
  intro q hq
  have hstands := h q hq
  have harray : st'.array = st.array := congrArg Prod.fst hstands
  exact (h' q (harray.trans hq)).trans hstands

theorem join (p : Payload) (tag : Option Tag) (st : Store) : st.programStands (st.join p tag) := by
  intro _ _
  unfold Store.join Store.answerTo
  repeat' split
  all_goals rfl

end Store.programStands

theorem appendRecord_programStands (p : Payload) (tag : Option Tag) (s : State) :
    s.store.programStands (appendRecord p tag s).store := by
  intro q hq
  have hjoined := Store.programStands.join p tag s.store q hq
  have harray : (s.store.join p tag).array = s.store.array := congrArg Prod.fst hjoined
  have hidle : appendRecord p tag s = s.onStore (Store.join p tag) := kick_programming _ q (harray.trans hq)
  rw [hidle]
  exact hjoined

/-- From `s` to `t` BURN has the same of the plant and of its firing, no notice is gone, STORE's clock stands, and
so do the array and rotation while a program runs. -/
def State.settlesTo (s t : State) : Prop :=
  t.burn.lasting = s.burn.lasting ∧ (∀ n ∈ s.link.notices, n ∈ t.link.notices) ∧ t.store.clock = s.store.clock
    ∧ s.store.programStands t.store

namespace State.settlesTo

variable {s t u : State}

theorem refl (s : State) : s.settlesTo s := ⟨rfl, fun _ h => h, rfl, .of_eq rfl⟩

/-- A field of the plant's, or of its firing's. -/
theorem field {β : Type} (g : Burn → β) (hg : ∀ b : Burn, g b.lasting = g b) (h : s.settlesTo t) :
    g t.burn = g s.burn := by
  rw [← hg, h.1, hg]

variable (h : s.settlesTo u)
include h

theorem trans (ht : u.settlesTo t) : s.settlesTo t :=
  ⟨ht.1.trans h.1, fun n hn => ht.2.1 n (h.2.1 n hn), ht.2.2.1.trans h.2.2.1, h.2.2.2.trans ht.2.2.2⟩

/-! ## The elementary changes -/

theorem onBurn {f : Burn → Burn} (hf : (f u.burn).lasting = u.burn.lasting) : s.settlesTo (u.onBurn f) :=
  ⟨hf.trans h.1, h.2⟩

theorem onPosts {f} : s.settlesTo (u.onPosts f) := h

theorem postNotice {n : Notice} : s.settlesTo (postNotice n u) :=
  ⟨h.1, fun m hm => mem_insertNotice.2 (.inr (h.2.1 m hm)), h.2.2⟩

theorem of_serves (ht : u.serves t) (hstands : u.store.programStands t.store) : s.settlesTo t := by
  obtain ⟨e, ⟨hclock, -⟩, hnotices⟩ := ht
  have hburn : t.burn = u.burn := hide_eq_iff.1 e .burn (by decide)
  refine h.trans ⟨by rw [hburn], hnotices, hclock, hstands⟩

theorem appendRecord {p tag} : s.settlesTo (appendRecord p tag u) := 
  h.of_serves (.appendRecord p tag u) (appendRecord_programStands p tag u)

theorem endTask {o r n} : s.settlesTo (endTask o r n u) := 
  have e : (Machine.endTask o r n u).hide [.link] = u.hide [.link] := hide_endTask o r n u (by decide)
  h.of_serves (.endTask o r n u) (.of_eq (hide_eq_iff.1 e .store (by decide)))

theorem ite {p : Prop} [Decidable p] (ht : s.settlesTo t) : s.settlesTo (if p then u else t) := by
  split
  · exact h
  · exact ht

theorem foldl {α : Type} {f : State → α → State} {l : List α}
    (hf : ∀ v a, s.settlesTo v → s.settlesTo (f v a)) : s.settlesTo (l.foldl f u) := by
  induction l generalizing u with
  | nil => exact h
  | cons a rest ih => exact ih (hf u a h)

theorem ofNewest {n} {f : State → State} (hf : ∀ v, s.settlesTo v → s.settlesTo (f v)) :
    s.settlesTo (ofNewest n f u) := ite (hf u h) h

theorem takeAnswers {n} (hanswer : ∀ v a, s.settlesTo v → s.settlesTo (burnAnswer a v)) :
    s.settlesTo (takeAnswers n u) := by
  induction n generalizing u with
  | zero => exact h
  | succ n ih =>
    unfold Machine.takeAnswers
    split
    · exact h
    · exact ih (hanswer _ _ h)

/-! ## BURN's operations -/

theorem postDemand {ch v} : s.settlesTo (postDemand ch v u) := h.onPosts

theorem postOverrun {v} : s.settlesTo (postOverrun v u) := h.onPosts

theorem burnTo {st} : s.settlesTo (burnTo st u) := ite (h.onBurn rfl) (h.onBurn rfl).postDemand

theorem stopOverrun : s.settlesTo (stopOverrun u) := ite (postOverrun (h.onBurn rfl)) h

theorem enterFiring : s.settlesTo (enterFiring u) := h.burnTo.onBurn rfl

theorem enterCalled : s.settlesTo (enterCalled u) :=
  ite (enterFiring (stopOverrun (h.burnTo.onBurn rfl))) (stopOverrun (h.burnTo.onBurn rfl))

theorem lookCall : s.settlesTo (lookCall u) := h.enterCalled.ite h

theorem goIdle : s.settlesTo (goIdle u) := h.burnTo.lookCall.ite h.burnTo

theorem askStore {tag p} : s.settlesTo (askStore tag p u) := appendRecord (ite (h.onBurn rfl) h)

theorem enterHeld {r} : s.settlesTo (enterHeld r u) := (h.burnTo.onBurn rfl).postNotice

theorem endResetTask {o r} : s.settlesTo (endResetTask o r u) := ite (endTask (h.onBurn rfl)) h

theorem askResetRecord : s.settlesTo (askResetRecord u) :=
  ((h.askStore.ite h.endResetTask.enterHeld).ite h.askStore).ite h

theorem askNow {a} : s.settlesTo (askNow u a) := by
  unfold Machine.askNow
  split
  · exact h.askStore
  · exact h.askResetRecord

theorem askOwed : s.settlesTo (askOwed u) := by
  unfold Machine.askOwed
  split
  · exact ite h (askStore (h.onBurn rfl))
  · exact h

theorem askAll {l} : s.settlesTo (askAll l u) :=
  ite (h.foldl fun _ _ ht => ht.askNow) (askOwed (h.onBurn rfl))

theorem askLockout : s.settlesTo (askLockout u) := by
  unfold Machine.askLockout
  split
  · exact ite h (askAll (h.onBurn rfl))
  · exact h

theorem beginReset {o} : s.settlesTo (beginReset o u) :=
  ite (askLockout (h.burnTo.onBurn rfl)) (askAll (h.burnTo.onBurn rfl))

theorem owedStored : s.settlesTo (owedStored u) :=
  ite (foldl (onBurn (h.onBurn rfl) rfl) fun _ _ ht => ht.askNow) (askOwed (h.onBurn rfl))

theorem endPulse : s.settlesTo (endPulse u) := ite (postDemand (h.onBurn rfl)) (h.onBurn rfl)

theorem enterLatched {r} : s.settlesTo (enterLatched r u) :=
  endResetTask (postNotice (askAll (endPulse (h.burnTo.onBurn rfl))))

theorem startProofLimit : s.settlesTo (startProofLimit u) := ite (h.onBurn rfl) h

theorem takeDark : s.settlesTo (takeDark u) := by
  unfold Machine.takeDark
  dsimp only
  split
  · exact h.askLockout.enterLatched
  · exact goIdle (startProofLimit (onBurn (askAll (onBurn (ite h.askLockout h) rfl)) rfl))

theorem takePress : s.settlesTo (takePress u) := by
  unfold Machine.takePress
  split
  · exact h.beginReset
  · exact h.ite h.beginReset
  · exact ite (h.onBurn rfl) h
  · exact h

theorem takeWaiting : s.settlesTo (takeWaiting u) :=
  ite (takeDark (h.onBurn rfl)) (ite (takePress (h.onBurn rfl)) (h.onBurn rfl))

theorem awaitMains : s.settlesTo (awaitMains u) := h.burnTo.onBurn rfl

theorem resetRefused : s.settlesTo (resetRefused u) :=
  ite h.endResetTask.enterHeld (takeDark (h.endResetTask.enterHeld.onBurn rfl))

theorem lockoutRefused : s.settlesTo (lockoutRefused u) := by
  unfold Machine.lockoutRefused
  dsimp only
  split
  · exact ite (awaitMains (h.onBurn rfl))
      (takeWaiting (enterHeld (endResetTask (onBurn (h.onBurn rfl) rfl))))
  · exact resetRefused (h.onBurn rfl)
  · exact h.onBurn rfl

theorem enterCooldown : s.settlesTo (enterCooldown u) := h.burnTo.onBurn rfl

theorem resetSucceeds : s.settlesTo (resetSucceeds u) := goIdle (h.onBurn rfl)

theorem lockoutStoredDecides : s.settlesTo (lockoutStoredDecides u) := by
  unfold Machine.lockoutStoredDecides
  split
  · exact h.enterLatched
  · exact h.awaitMains.ite h.enterCooldown.takeWaiting

theorem lockoutStored : s.settlesTo (lockoutStored u) := by
  unfold Machine.lockoutStored
  dsimp only
  split
  · exact lockoutStoredDecides (h.onBurn rfl)
  · exact lockoutStoredDecides (h.onBurn rfl)
  · split
    · exact enterLatched (h.onBurn rfl)
    · exact askAll (h.onBurn rfl)
  · exact h.onBurn rfl

theorem resetStoredActs : s.settlesTo (resetStoredActs u) :=
  ite (postDemand (h.startProofLimit.onBurn rfl)) h.startProofLimit.resetSucceeds

theorem resetStored {o stamp} : s.settlesTo (resetStored o stamp u) := by
  unfold Machine.resetStored
  dsimp only
  split
  · exact askAll (onBurn (ite (h.onBurn rfl) h) rfl)
  · exact ite (resetStoredActs (ite (h.onBurn rfl) h)) (ite (h.onBurn rfl) h)

theorem resetRecordRefused : s.settlesTo (resetRecordRefused u) :=
  ite (h.onBurn rfl) (ite h.resetRefused h)

theorem becomesOwed {p} : s.settlesTo (becomesOwed p u) := h.onBurn rfl

theorem refuseAsk {a} : s.settlesTo (refuseAsk u a) := by
  unfold Machine.refuseAsk
  split
  · exact h.ofNewest fun _ ht => ht.lockoutRefused
  · exact h.becomesOwed
  · exact h.onBurn rfl
  · exact h.resetRecordRefused
  · exact h
  · exact h.resetRecordRefused

theorem owedRefused : s.settlesTo (owedRefused u) := foldl (h.onBurn rfl) fun _ _ ht => ht.refuseAsk

theorem clearLatch : s.settlesTo (Machine.postNotice .latch (u.onBurn fun b =>
    { b with ackAwaited := false, relock := 0, latchReason := none })) :=
  postNotice (h.onBurn rfl)

theorem ackStored : s.settlesTo (ackStored u) :=
  ite (ite (awaitMains (h.clearLatch.onBurn rfl))
    (ite (h.clearLatch.onBurn rfl).enterCooldown (h.clearLatch.onBurn rfl).goIdle)) (h.onBurn rfl)

theorem burnAnswer {a} : s.settlesTo (burnAnswer a u) := by
  unfold Machine.burnAnswer
  split
  · exact h.ofNewest (fun _ h1 => h1.lockoutStored)
  · exact h.ofNewest (fun _ h1 => h1.lockoutRefused)
  · split
    · exact h.resetStored
    · exact h
  · exact h.resetRecordRefused
  · exact h
  · exact h.becomesOwed
  · exact h.owedStored
  · exact h.owedRefused
  · exact h.ackStored
  · exact h.onBurn rfl

theorem settle : s.settlesTo (settle u) := h.takeAnswers fun _ _ ht => ht.burnAnswer

/-! ## HELD evaluated (R86, R87) -/

theorem setHeldReason {r} : s.settlesTo (setHeldReason r u) := h.ite (postNotice (h.onBurn rfl))

theorem evaluateUntasked : s.settlesTo (evaluateUntasked u) := (h.beginReset.ite h.enterHeld).ite h.enterHeld

theorem evaluateHeld : s.settlesTo (evaluateHeld u) :=
  (((h.ite h.beginReset).ite h.setHeldReason).ite h.setHeldReason).ite h

theorem retryHeld : s.settlesTo (retryHeld u) :=
  (h.askLockout.ite (h.ite h.evaluateUntasked)).ite h

theorem heldMinute : s.settlesTo (heldMinute u) := h.retryHeld.ite h.evaluateHeld

end State.settlesTo

end Sys2Proof.Machine
end

section
/-! PROOF. Valves in FAULT, and what a node is owed (O22). -/

namespace Sys2Proof.Machine

variable {s t u : State}

/-! ## A zone's state set -/

/-- The zones, once one of them went to a state (R57). -/
theorem zoneTo_entry (z y : Fin 6) (st : ZoneState) (timer : ZoneTimer) (s : State) :
    (zoneTo z st timer s).zone.zones[y]
      = if y = z then { s.zone.zones[z] with state := st, timer := timer } else s.zone.zones[y] := by
  have hzone : (zoneTo z st timer s).zone
      = (s.onZone z fun zn => { zn with state := st, timer := timer }).zone := by
    unfold zoneTo
    dsimp only
    split <;> rfl
  rw [hzone, onZone_entry]

/-! ## The valves in FAULT -/

/-- The same valves are in FAULT, with the same cause and retry time (R56). -/
def State.faultsStay (s t : State) : Prop :=
  ∀ z : Fin 6, (t.zone.zones[z].state = .fault ↔ s.zone.zones[z].state = .fault)
    ∧ (s.zone.zones[z].state = .fault →
      t.zone.zones[z].cause = s.zone.zones[z].cause ∧ t.zone.zones[z].timer = s.zone.zones[z].timer)

namespace State.faultsStay

theorem refl (s : State) : s.faultsStay s := fun _ => ⟨Iff.rfl, fun _ => ⟨rfl, rfl⟩⟩

variable (h : s.faultsStay u)
include h

theorem of_zone (e : t.zone = u.zone) : s.faultsStay t := by
  intro z
  rw [e]
  exact h z

theorem ite {c : Prop} [Decidable c] (ht : s.faultsStay t) : s.faultsStay (if c then u else t) := by
  split
  · exact h
  · exact ht

theorem onZone {z : Fin 6} {f : Zone → Zone} (hstate : (f u.zone.zones[z]).state = u.zone.zones[z].state)
    (hcause : (f u.zone.zones[z]).cause = u.zone.zones[z].cause)
    (htimer : (f u.zone.zones[z]).timer = u.zone.zones[z].timer) : s.faultsStay (u.onZone z f) := by
  intro y
  rw [onZone_entry]
  split
  · next hy =>
    subst hy
    rw [hstate, hcause, htimer]
    exact h y
  · exact h y

/-- A valve that is not in FAULT moves on. -/
theorem zoneTo {z : Fin 6} {st : ZoneState} {timer : ZoneTimer} (hz : u.zone.zones[z].state ≠ .fault)
    (hst : st ≠ .fault) : s.faultsStay (zoneTo z st timer u) := by
  intro y
  rw [zoneTo_entry]
  split
  · next hy =>
    subst hy
    have hnot : s.zone.zones[y].state ≠ .fault := fun e => hz ((h y).1.2 e)
    exact ⟨⟨fun e => absurd e hst, fun e => absurd e hnot⟩, fun e => absurd e hnot⟩
  · exact h y

theorem formOutputs : s.faultsStay (formOutputs u) := by
  have hheat : s.faultsStay (formHeat u) := by
    unfold formHeat
    split <;> exact h
  unfold Machine.formOutputs formPump
  split <;> exact hheat

omit h in
/-- A valve set to a state is in it. -/
theorem zoneTo_state (z : Fin 6) (st : ZoneState) (timer : ZoneTimer) (s : State) :
    (Machine.zoneTo z st timer s).zone.zones[z].state = st := by
  rw [zoneTo_entry, if_pos rfl]

theorem enterOpening {z : Fin 6} (hz : u.zone.zones[z].state ≠ .fault) : s.faultsStay (enterOpening z u) := by
  have hopening : s.faultsStay (Machine.zoneTo z .opening (u.travelTimer z) u) := h.zoneTo hz (by decide)
  refine ite (hopening.zoneTo ?_ (by decide)) hopening
  rw [zoneTo_state]
  decide

theorem enterIdle {z : Fin 6} (hz : u.zone.zones[z].state ≠ .fault) : s.faultsStay (enterIdle z u) := by
  have hidle : s.faultsStay (Machine.zoneTo z .idle .stopped u) := h.zoneTo hz (by decide)
  refine ite (hidle.enterOpening ?_) hidle
  rw [zoneTo_state]
  decide

theorem enterClosing {z : Fin 6} (hz : u.zone.zones[z].state ≠ .fault) : s.faultsStay (enterClosing z u) := by
  have hclosing : s.faultsStay (Machine.zoneTo z .closing (u.travelTimer z) u) := h.zoneTo hz (by decide)
  refine ite hclosing (hclosing.enterIdle ?_)
  rw [zoneTo_state]
  decide

theorem closeOtherHolds {z : Fin 6} : s.faultsStay (closeOtherHolds z u) := by
  unfold Machine.closeOtherHolds
  induction allZones generalizing u with
  | nil => exact h
  | cons y rest ih =>
    refine ih ?_
    dsimp only
    split
    · next hold =>
      refine h.enterClosing fun e => ?_
      exact absurd (hold.2.symm.trans e) (by decide)
    · exact h

/-- A call that goes on or off moves no valve in FAULT (R53 to R56). -/
theorem callRises {z : Fin 6} : s.faultsStay (callRises z u) := by
  unfold Machine.callRises
  split
  · next hidle =>
    refine h.ite (h.enterOpening fun e => ?_)
    exact absurd (hidle.symm.trans e) (by decide)
  · next hhold =>
    refine h.zoneTo (fun e => ?_) (by decide)
    exact absurd (hhold.symm.trans e) (by decide)
  · exact h

omit h in
/-- The other valves closed, an open one is open still (R54). -/
theorem closeOtherHolds_state {z : Fin 6} (v : State) :
    (Machine.closeOtherHolds z v).zone.zones[z].state = v.zone.zones[z].state := by
  have hother : ∀ (y : Fin 6) (w : State), y ≠ z →
      (Machine.enterClosing y w).zone.zones[z].state = w.zone.zones[z].state := fun y w hy => by
    have hto : ∀ st timer (x : State), (Machine.zoneTo y st timer x).zone.zones[z] = x.zone.zones[z] :=
      fun st timer x => by rw [zoneTo_entry, if_neg (Ne.symm hy)]
    unfold Machine.enterClosing Machine.enterIdle Machine.enterOpening
    dsimp only
    (repeat' split) <;> simp only [hto]
  unfold Machine.closeOtherHolds
  refine foldl_keeps (fun w => w.zone.zones[z].state) (fun w y => ?_) _ v
  split
  · next hy => exact hother y w hy.1
  · rfl

theorem callFalls {z : Fin 6} : s.faultsStay (callFalls z u) := by
  unfold Machine.callFalls
  split
  · next hopening =>
    refine h.enterClosing fun e => ?_
    exact absurd (hopening.symm.trans e) (by decide)
  · next hopen =>
    refine ite (h.enterClosing fun e => ?_) (h.closeOtherHolds.zoneTo (fun e => ?_) (by decide))
    · exact absurd (hopen.symm.trans e) (by decide)
    · rw [closeOtherHolds_state] at e
      exact absurd (hopen.symm.trans e) (by decide)
  · exact h

theorem formCall {z : Fin 6} : s.faultsStay (formCall z u) := by
  have hcalled : ∀ v, s.faultsStay (u.onZone z fun y => { y with call := v }) := fun v => h.onZone rfl rfl rfl
  exact h.ite (((hcalled _).callRises.ite (hcalled _).callFalls).formOutputs)

theorem evaluateBoilerFrost : s.faultsStay (evaluateBoilerFrost u) := by
  have hdriven : ∀ (z : Fin 6) (v : Bool) (w : State), s.faultsStay w → s.faultsStay (driveSink z v w) :=
    fun z v w hw => (hw.onZone (f := fun zn => { zn with sinkDrive := v }) rfl rfl rfl).formCall
  have hset : ∀ v, s.faultsStay (u.onZoneBlock fun b => { b with boilerFrost := v }) := fun _ => h
  unfold Machine.evaluateBoilerFrost
  dsimp only
  split
  · exact h
  · exact (hdriven _ _ _ (hset _)).formOutputs

end State.faultsStay

/-! ## What a node is owed (R41, R44) -/

/-- A write joins the queue or marks its item stale: the node is owed it. -/
theorem internalWrite_owes (n : Fin 15) (i : Item) (v : Nat) (s : State) : (internalWrite n i v s).owes n i v := by
  unfold internalWrite
  split
  · next q hq =>
    refine .inl ?_
    unfold queueWrite at hq
    split at hq
    · next hany =>
      obtain ⟨e, he, hsame⟩ := List.any_eq_true.1 hany
      obtain ⟨hnode, hitem⟩ : e.node = n ∧ e.item = i := by simpa [WriteEntry.sameAs] using hsame
      cases hq
      exact ⟨_, List.mem_map.2 ⟨e, he, rfl⟩, by simp [hsame, hnode], by simp [hsame, hitem], by simp [hsame]⟩
    · split at hq
      · cases hq
        exact ⟨_, List.mem_append_right _ (List.mem_singleton_self _), rfl, rfl, rfl⟩
      · cases hq
  · refine .inr ?_
    have hnode : (s.onNode n (Node.markStale i)).loop.nodes[n] = Node.markStale i s.loop.nodes[n] := by
      simp [State.onNode, State.onLoop]
    rw [hnode]
    cases i <;> rfl

/-- A lit fault lamp owed to a node is owed still, whichever other lamp is lit (R44). -/
theorem internalWrite_keeps_owed {m : Fin 15} (n : Fin 15) (h : s.owes m .faultLamp 1) :
    (internalWrite n .faultLamp 1 s).owes m .faultLamp 1 := by
  unfold internalWrite
  split
  · next q hq =>
    obtain ⟨e, he, hnode, hitem, hvalue⟩ | hstale := h
    · refine .inl ?_
      unfold queueWrite at hq
      split at hq
      · cases hq
        refine ⟨_, List.mem_map.2 ⟨e, he, rfl⟩, ?_⟩
        split
        · exact ⟨hnode, hitem, rfl⟩
        · exact ⟨hnode, hitem, hvalue⟩
      · split at hq
        · cases hq
          exact ⟨e, List.mem_append_left _ he, hnode, hitem, hvalue⟩
        · cases hq
    · exact .inr hstale
  · obtain hqueued | hstale := h
    · exact .inl hqueued
    · refine .inr ?_
      by_cases hm : m = n
      · subst hm
        simp [State.onNode, State.onLoop, Node.markStale, Node.isStale]
      · have hv : n.val ≠ m.val := fun e => hm (Fin.ext e.symm)
        simpa [State.onNode, State.onLoop, hv] using hstale

end Sys2Proof.Machine
end

section
/-! PROOF. A pass at OUT, channel by channel, and what it tells BURN and ZONE (O22). -/

namespace Sys2Proof.Machine

variable {s t u v w : State} {N M : Set (Fin 10)} {ch : Fin 10} {new : LoadState}

/-! ## What a pass leaves of the neighbours -/

/-- From `s` to `t` no load state but those of `N` has been told of: BURN's pump reason and its call's control, and
the valves in FAULT, stand but for theirs; nothing posted or owed to a node is lost. -/
structure State.passes (N : Set (Fin 10)) (s t : State) : Prop where
  notices : ∀ n ∈ s.link.notices, n ∈ t.link.notices
  owes : ∀ n, s.owes n .faultLamp 1 → t.owes n .faultLamp 1
  faults : ∀ z : Fin 6, s.zone.zones[z].state = .fault → t.zone.zones[z].state = .fault
    ∧ t.zone.zones[z].cause = s.zone.zones[z].cause ∧ t.zone.zones[z].timer = s.zone.zones[z].timer
  unfaulted : ∀ z : Fin 6, valveChannel z ∉ N → s.zone.zones[z].state ≠ .fault → t.zone.zones[z].state ≠ .fault
  pump : 2 ∉ N → t.burn.inhibit.pump = s.burn.inhibit.pump
  uncontrolled : 0 ∉ N → t.burn.uncontrolled = s.burn.uncontrolled
  supply : t.supply = s.supply
  sett : t.sett = s.sett

namespace State.passes

theorem refl (s : State) : s.passes N s :=
  ⟨fun _ h => h, fun _ h => h, fun _ h => ⟨h, rfl, rfl⟩, fun _ _ h => h, fun _ => rfl, fun _ => rfl, rfl, rfl⟩

theorem trans (h : s.passes N u) (h' : u.passes N t) : s.passes N t where
  notices n hn := h'.notices n (h.notices n hn)
  owes n hn := h'.owes n (h.owes n hn)
  faults z hz := by
    obtain ⟨hu, hcause, htimer⟩ := h.faults z hz
    obtain ⟨ht, hcause', htimer'⟩ := h'.faults z hu
    exact ⟨ht, hcause'.trans hcause, htimer'.trans htimer⟩
  unfaulted z hN hz := h'.unfaulted z hN (h.unfaulted z hN hz)
  pump hN := (h'.pump hN).trans (h.pump hN)
  uncontrolled hN := (h'.uncontrolled hN).trans (h.uncontrolled hN)
  supply := h'.supply.trans h.supply
  sett := h'.sett.trans h.sett

theorem mono (hNM : N ⊆ M) (h : s.passes N t) : s.passes M t :=
  { h with
    unfaulted := fun z hz => h.unfaulted z fun hN => hz (hNM hN)
    pump := fun hz => h.pump fun hN => hz (hNM hN)
    uncontrolled := fun hz => h.uncontrolled fun hN => hz (hNM hN) }

/-- Where LINK, LOOP, ZONE, BURN, SUPPLY and the settings stand. -/
theorem of_hide (F : List Block) (e : t.hide F = s.hide F)
    (hF : F ⊆ [.phase, .inputs, .scan, .out, .gauge, .fuel, .store, .svc, .posts, .free, .pending]) :
    s.passes N t := by
  have same := hide_eq_iff.1 (hide_of_subset hF e)
  have hlink : t.link = s.link := same .link (by decide)
  have hloop : t.loop = s.loop := same .loop (by decide)
  have hzone : t.zone = s.zone := same .zone (by decide)
  have hburn : t.burn = s.burn := same .burn (by decide)
  have hsupply : t.supply = s.supply := same .supply (by decide)
  have hsett : t.sett = s.sett := same .sett (by decide)
  refine ⟨?_, ?_, ?_, ?_, ?_, ?_, hsupply, hsett⟩
  · rw [hlink]
    exact fun _ h => h
  · unfold State.owes
    rw [hloop]
    exact fun _ h => h
  · rw [hzone]
    exact fun _ h => ⟨h, rfl, rfl⟩
  · rw [hzone]
    exact fun _ _ h => h
  · rw [hburn]
    exact fun _ => rfl
  · rw [hburn]
    exact fun _ => rfl

theorem postNotice (n : Notice) (s : State) : s.passes N (postNotice n s) :=
  { refl (N := N) s with notices := fun _ h => mem_insertNotice.2 (.inr h) }

/-- Where BURN alone changes, and neither its pump reason nor its call's control does. -/
theorem of_burn (e : t.hide [.burn, .posts] = s.hide [.burn, .posts])
    (hpump : 2 ∉ N → t.burn.inhibit.pump = s.burn.inhibit.pump)
    (hcontrol : 0 ∉ N → t.burn.uncontrolled = s.burn.uncontrolled) : s.passes N t := by
  have same := hide_eq_iff.1 e
  have hlink : t.link = s.link := same .link (by decide)
  have hloop : t.loop = s.loop := same .loop (by decide)
  have hzone : t.zone = s.zone := same .zone (by decide)
  refine ⟨?_, ?_, ?_, ?_, hpump, hcontrol, same .supply (by decide), same .sett (by decide)⟩
  · rw [hlink]
    exact fun _ h => h
  · unfold State.owes
    rw [hloop]
    exact fun _ h => h
  · rw [hzone]
    exact fun _ h => ⟨h, rfl, rfl⟩
  · rw [hzone]
    exact fun _ _ h => h

/-- Where ZONE alone changes, and no valve goes into FAULT or out of it. -/
theorem of_zone (e : t.hide [.zone, .posts] = s.hide [.zone, .posts]) (hfaults : s.faultsStay t) :
    s.passes N t := by
  have same := hide_eq_iff.1 e
  have hlink : t.link = s.link := same .link (by decide)
  have hloop : t.loop = s.loop := same .loop (by decide)
  have hburn : t.burn = s.burn := same .burn (by decide)
  refine ⟨?_, ?_, fun z hz => ?_, fun z _ hz e => hz ((hfaults z).1.1 e), ?_, ?_, same .supply (by decide),
    same .sett (by decide)⟩
  · rw [hlink]
    exact fun _ h => h
  · unfold State.owes
    rw [hloop]
    exact fun _ h => h
  · obtain ⟨hiff, hsame⟩ := hfaults z
    exact ⟨hiff.2 hz, hsame hz⟩
  · rw [hburn]
    exact fun _ => rfl
  · rw [hburn]
    exact fun _ => rfl

end State.passes

/-! ## A load state told (R32) -/

/-- The change of channel `ch` to load state `new` has reached the neighbours (R32, R56). -/
structure State.loadReaches (ch : Fin 10) (new : LoadState) (s t : State) : Prop where
  notice : .channelFault ∈ t.link.notices
  pump : ch = 2 → t.burn.inhibit.pump = new.faulty
  uncontrolled : ch = 0 → t.burn.uncontrolled = (new == .stuckOn)
  fault : ∀ z : Fin 6, ch = valveChannel z → new.faulty = true → t.zone.zones[z].state = .fault
  entered : ∀ z : Fin 6, ch = valveChannel z → new.faulty = true → s.zone.zones[z].state ≠ .fault →
    t.zone.zones[z].cause = .channel ∧ t.zone.zones[z].timer = .retry 15 ∧ .zoneFault ∈ t.link.notices
    ∧ ∀ n : Fin 15, s.sett.working.zones[z].enabled = true → s.sett.working.zones[z].node = n.val + 1 →
      t.owes n .faultLamp 1

namespace State.loadReaches

/-- It stays so through what tells of other channels. -/
theorem after (h : s.loadReaches ch new u) (h' : u.passes M t) (hM : ch ∉ M) : s.loadReaches ch new t where
  notice := h'.notices _ h.notice
  pump hch := (h'.pump (hch ▸ hM)).trans (h.pump hch)
  uncontrolled hch := (h'.uncontrolled (hch ▸ hM)).trans (h.uncontrolled hch)
  fault z hch hnew := (h'.faults z (h.fault z hch hnew)).1
  entered z hch hnew hz := by
    obtain ⟨hcause, htimer, hnotice, howes⟩ := h.entered z hch hnew hz
    obtain ⟨-, hcause', htimer'⟩ := h'.faults z (h.fault z hch hnew)
    exact ⟨hcause'.trans hcause, htimer'.trans htimer, h'.notices _ hnotice,
      fun n hen hnode => h'.owes n (howes n hen hnode)⟩

/-- It is so from any state before what told of other channels. -/
theorem before (h : s.passes M u) (hM : ch ∉ M) (h' : u.loadReaches ch new t) : s.loadReaches ch new t where
  notice := h'.notice
  pump := h'.pump
  uncontrolled := h'.uncontrolled
  fault := h'.fault
  entered z hch hnew hz := by
    obtain ⟨hcause, htimer, hnotice, howes⟩ := h'.entered z hch hnew (h.unfaulted z (hch ▸ hM) hz)
    refine ⟨hcause, htimer, hnotice, fun n hen hnode => howes n ?_ ?_⟩ <;> rw [h.sett]
    · exact hen
    · exact hnode

end State.loadReaches

theorem channelZone_valve (z : Fin 6) : channelZone (valveChannel z) = some z := by
  simp [channelZone, valveChannel]

theorem valve_of_channelZone {z : Fin 6} (h : channelZone ch = some z) : ch = valveChannel z := by
  unfold channelZone at h
  split at h
  · next hle =>
    cases h
    exact Fin.ext (Nat.sub_add_cancel hle).symm
  · cases h

/-- A zone's node, as the settings bind it (R37). -/
theorem boundNode_of {p : ZoneSettings} {n : Fin 15} (hen : p.enabled = true) (hnode : p.node = n.val + 1) :
    boundNode p = some n := by
  have hrange : 1 ≤ n.val + 1 ∧ n.val + 1 ≤ 15 := by omega
  simp [boundNode, hen, hnode, nodeOfAddress, hrange]

/-! ## A VALVE channel's fault reaches its zone (R56) -/

/-- The zone that is told, and the notice, before the lamp. -/
def zoneFaulted (z : Fin 6) (s : State) : State :=
  postNotice .zoneFault ((zoneTo z .fault (.retry 15) s).onZone z fun zn => { zn with cause := .channel })

theorem zoneFaulted_entry (z y : Fin 6) (s : State) : (zoneFaulted z s).zone.zones[y]
    = if y = z then { s.zone.zones[z] with state := .fault, timer := .retry 15, cause := .channel }
      else s.zone.zones[y] := by
  have hset := onZone_entry z y (fun zn => { zn with cause := .channel }) (zoneTo z .fault (.retry 15) s)
  rw [zoneTo_entry, zoneTo_entry, if_pos rfl] at hset
  refine Eq.trans hset ?_
  by_cases hy : y = z
  · rw [if_pos hy, if_pos hy]
  · rw [if_neg hy, if_neg hy, if_neg hy]

/-- Outside the hold, a VALVE channel's fault brings its zone into FAULT (R32, R56). -/
theorem zoneChannelFault_enters {z : Fin 6} (hhold : s.supply.hold = false)
    (hz : s.zone.zones[z].state ≠ .fault) :
    zoneChannelFault z s = formOutputs (writeToZoneNode z .faultLamp 1 (zoneFaulted z s)) := by
  have hstate : ((s.zoneAt z).state == ZoneState.fault) = false := by simpa [State.zoneAt] using hz
  unfold zoneChannelFault
  rw [hhold, hstate]
  rfl

theorem zoneChannelFault_zones {z : Fin 6} (y : Fin 6) (hhold : s.supply.hold = false)
    (hz : s.zone.zones[z].state ≠ .fault) : (zoneChannelFault z s).zone.zones[y]
      = if y = z then { s.zone.zones[z] with state := .fault, timer := .retry 15, cause := .channel }
        else s.zone.zones[y] := by
  have hzones : ∀ x : State, (formOutputs x).zone.zones = x.zone.zones := fun x => by
    have hheat : (formHeat x).zone.zones = x.zone.zones := by
      unfold formHeat
      split <;> rfl
    unfold formOutputs formPump
    split <;> exact hheat
  have e : (writeToZoneNode z .faultLamp 1 (zoneFaulted z s)).hide [.loop] = (zoneFaulted z s).hide [.loop] := by
    simp
  have hzone : (writeToZoneNode z .faultLamp 1 (zoneFaulted z s)).zone = (zoneFaulted z s).zone :=
    hide_eq_iff.1 e .zone (by decide)
  rw [zoneChannelFault_enters hhold hz, hzones, hzone, zoneFaulted_entry]

/-- Its node is owed the lit lamp, and no lamp owed is lost (R44). -/
theorem zoneChannelFault_owes {z : Fin 6} (hhold : s.supply.hold = false) (hz : s.zone.zones[z].state ≠ .fault) :
    (∀ n : Fin 15, s.sett.working.zones[z].enabled = true → s.sett.working.zones[z].node = n.val + 1 →
        (zoneChannelFault z s).owes n .faultLamp 1)
      ∧ ∀ m, s.owes m .faultLamp 1 → (zoneChannelFault z s).owes m .faultLamp 1 := by
  have e : (zoneChannelFault z s).hide [.zone, .posts]
      = (writeToZoneNode z .faultLamp 1 (zoneFaulted z s)).hide [.zone, .posts] := by
    rw [zoneChannelFault_enters hhold hz]
    simp
  have hloop : (zoneChannelFault z s).loop = (writeToZoneNode z .faultLamp 1 (zoneFaulted z s)).loop :=
    hide_eq_iff.1 e .loop (by decide)
  have efaulted : (zoneFaulted z s).hide [.zone, .posts, .link] = s.hide [.zone, .posts, .link] := by
    unfold zoneFaulted
    simp
  have hbefore : (zoneFaulted z s).loop = s.loop := hide_eq_iff.1 efaulted .loop (by decide)
  have hset : (zoneFaulted z s).zoneSet z = s.sett.working.zones[z] :=
    congrArg (fun b : SetBlock => b.working.zones[z]) (hide_eq_iff.1 efaulted .sett (by decide))
  have howes : ∀ x y : State, x.loop = y.loop → ∀ m, y.owes m .faultLamp 1 → x.owes m .faultLamp 1 := by
    intro x y hxy m h
    rw [State.owes, hxy]
    exact h
  refine ⟨fun n hen hnode => howes _ _ hloop n ?_, fun m hm => howes _ _ hloop m ?_⟩
  · have hbound : boundNode ((zoneFaulted z s).zoneSet z) = some n := by
      rw [hset]
      exact boundNode_of hen hnode
    unfold writeToZoneNode
    rw [hbound]
    exact internalWrite_owes n .faultLamp 1 _
  · unfold writeToZoneNode
    split
    · exact internalWrite_keeps_owed _ (howes _ _ hbefore m hm)
    · exact howes _ _ hbefore m hm

theorem zoneChannelFault_link {z : Fin 6} (hhold : s.supply.hold = false) (hz : s.zone.zones[z].state ≠ .fault) :
    (zoneChannelFault z s).link.notices = insertNotice .zoneFault s.link.notices := by
  have e : (zoneChannelFault z s).hide [.loop, .zone, .posts] = (zoneFaulted z s).hide [.loop, .zone, .posts] := by
    rw [zoneChannelFault_enters hhold hz]
    simp
  have ezone : ((zoneTo z .fault (.retry 15) s).onZone z fun zn => { zn with cause := .channel }).hide
      [.zone, .posts] = s.hide [.zone, .posts] := by simp
  have hlink : (zoneChannelFault z s).link = (zoneFaulted z s).link := hide_eq_iff.1 e .link (by decide)
  have hbefore := hide_eq_iff.1 ezone .link (by decide)
  rw [hlink]
  exact congrArg (fun l : Link => insertNotice .zoneFault l.notices) hbefore

end Sys2Proof.Machine
end

section
/-! PROOF. A pass at OUT: what a change of load state tells, channel by channel (O22). -/

namespace Sys2Proof.Machine

variable {s t u v w : State} {N M : Set (Fin 10)} {ch : Fin 10} {new : LoadState}

/-! ## One change told -/

/-- A VALVE channel's fault touches its own valve alone, which is in FAULT then. -/
theorem passes_zoneChannelFault (z : Fin 6) (s : State) :
    s.passes {valveChannel z} (zoneChannelFault z s) := by
  have e : (zoneChannelFault z s).hide [.zone, .loop, .link, .posts] = s.hide [.zone, .loop, .link, .posts] := by
    simp
  have same := hide_eq_iff.1 e
  have hburn : (zoneChannelFault z s).burn = s.burn := same .burn (by decide)
  by_cases hstill : (s.supply.hold || (s.zoneAt z).state == .fault) = true
  · have hsame : zoneChannelFault z s = s := by
      unfold zoneChannelFault
      exact if_pos hstill
    rw [hsame]
    exact .refl s
  · simp only [Bool.or_eq_true, not_or, Bool.not_eq_true, beq_eq_false_iff_ne] at hstill
    obtain ⟨hhold, hz⟩ := hstill
    change s.zone.zones[z].state ≠ .fault at hz
    refine ⟨fun n hn => ?_, (zoneChannelFault_owes hhold hz).2, fun y hy => ?_, fun y hy hyz => ?_,
      fun _ => by rw [hburn], fun _ => by rw [hburn], same .supply (by decide), same .sett (by decide)⟩
    · rw [zoneChannelFault_link hhold hz]
      exact mem_insertNotice.2 (.inr hn)
    · have hne : y ≠ z := fun hyz => hz (hyz ▸ hy)
      rw [zoneChannelFault_zones y hhold hz, if_neg hne]
      exact ⟨hy, rfl, rfl⟩
    · have hne : y ≠ z := fun hyz => hy (hyz ▸ rfl)
      rw [zoneChannelFault_zones y hhold hz, if_neg hne]
      exact hyz

/-- What a change of load state tells concerns its own neighbour alone (R32). -/
theorem passes_tellLoad (ch : Fin 10) (new : LoadState) (s : State) : s.passes {ch} (tellLoad ch new s) := by
  unfold tellLoad
  split
  · next z hz =>
    split
    · have hch := valve_of_channelZone hz
      subst hch
      exact passes_zoneChannelFault z s
    · exact .refl s
  · split
    · next h2 =>
      exact .of_burn (by simp) (fun h => absurd h2.symm h)
        fun _ => steady_field Burn.uncontrolled (fun _ => rfl) (setReason_steady _ _ s)
    · split
      · next h0 => exact .of_burn rfl (fun _ => rfl) fun h => absurd h0.symm h
      · exact .refl s

/-- Outside the hold the change reaches its neighbour (R32, R56). -/
theorem reaches_tellLoad (hhold : s.supply.hold = false) (hnotice : .channelFault ∈ s.link.notices) :
    s.loadReaches ch new (tellLoad ch new s) := by
  refine ⟨(passes_tellLoad ch new s).notices _ hnotice, fun h2 => ?_, fun h0 => ?_, fun z hz hnew => ?_,
    fun z hz hnew hstate => ?_⟩
  · subst h2
    exact (setReason_has .pump new.faulty (by decide) s).trans (if_pos rfl)
  · subst h0
    rfl
  all_goals
    subst hz
    have htold : tellLoad (valveChannel z) new s = zoneChannelFault z s := by
      unfold tellLoad
      rw [channelZone_valve]
      exact if_pos hnew
    rw [htold]
  · by_cases hstate : s.zone.zones[z].state = .fault
    · exact ((passes_zoneChannelFault z s).faults z hstate).1
    · rw [zoneChannelFault_zones z hhold hstate, if_pos rfl]
  · have hlink := zoneChannelFault_link hhold hstate
    rw [zoneChannelFault_zones z hhold hstate, if_pos rfl, hlink]
    exact ⟨rfl, rfl, mem_insertNotice.2 (.inl rfl), (zoneChannelFault_owes hhold hstate).1⟩

/-! ## What a stage of the pass tells -/

/-- The channels whose load state changes from `s` to `t`. -/
def State.loadsChanged (s t : State) : Set (Fin 10) :=
  {ch | t.out.channels[ch].load ≠ s.out.channels[ch].load}

/-- From `s` to `t` every changed load state has been told of, and no other (R32). -/
def State.judgesTo (s t : State) : Prop :=
  s.passes (s.loadsChanged t) t ∧ ∀ ch ∈ s.loadsChanged t, s.loadReaches ch t.out.channels[ch].load t

namespace State.judgesTo

theorem of_passes (h : s.passes ∅ t) (hload : ∀ c : Fin 10, t.out.channels[c].load = s.out.channels[c].load) :
    s.judgesTo t :=
  ⟨h.mono (Set.empty_subset _), fun c hc => absurd (hload c) hc⟩

theorem refl (s : State) : s.judgesTo s := of_passes (.refl s) fun _ => rfl

/-- Two stages, neither of which changes what the other does. -/
theorem trans (h : s.judgesTo u) (h' : u.judgesTo t) (honce : ∀ c : Fin 10,
    u.out.channels[c].load = s.out.channels[c].load ∨ t.out.channels[c].load = u.out.channels[c].load) :
    s.judgesTo t := by
  obtain ⟨hpass, hreach⟩ := h
  obtain ⟨hpass', hreach'⟩ := h'
  have hfirst : s.loadsChanged u ⊆ s.loadsChanged t := fun c hc => by
    have hlast := (honce c).resolve_left hc
    change t.out.channels[c].load ≠ _
    rw [hlast]
    exact hc
  have hlater : u.loadsChanged t ⊆ s.loadsChanged t := fun c hc => by
    have hbefore := (honce c).resolve_right hc
    change _ ≠ s.out.channels[c].load
    rw [← hbefore]
    exact hc
  refine ⟨(hpass.mono hfirst).trans (hpass'.mono hlater), fun c hc => ?_⟩
  obtain hsame | hsame := honce c
  · have hin : c ∈ u.loadsChanged t := by
      change _ ≠ u.out.channels[c].load
      rw [hsame]
      exact hc
    exact .before hpass (fun hbefore => hbefore hsame) (hreach' c hin)
  · have hin : c ∈ s.loadsChanged u := by
      change u.out.channels[c].load ≠ _
      rw [← hsame]
      exact hc
    rw [hsame]
    exact (hreach c hin).after hpass' fun hafter => hafter hsame

/-- A stage that tells of no channel follows. -/
theorem then_passes (h : s.judgesTo u) (h' : u.passes ∅ t)
    (hload : ∀ c : Fin 10, t.out.channels[c].load = u.out.channels[c].load) : s.judgesTo t :=
  h.trans (of_passes h' hload) fun c => .inr (hload c)

theorem ite {p : Prop} [Decidable p] (ht : s.judgesTo t) (hu : s.judgesTo u) :
    s.judgesTo (if p then t else u) := by
  split
  · exact ht
  · exact hu

/-! ### The judgement of one channel -/

theorem onChan {f : Channel → Channel} (hf : (f s.out.channels[ch]).load = s.out.channels[ch].load) :
    s.judgesTo (s.onChan ch f) := by
  refine of_passes (.of_hide [.out] rfl (by decide)) fun c => ?_
  rw [onChan_entry]
  split
  · next hc => rw [hf, hc]
  · rfl

/-- A channel resolved tells of no load. -/
theorem resolveChannel (h : s.judgesTo u) : s.judgesTo (resolveChannel ch u) := by
  refine h.then_passes (.of_hide [.out, .posts] (by simp) (by decide)) fun c => ?_
  rw [resolveChannel_entry]
  split
  · next hc =>
    subst hc
    unfold Channel.entered
    split <;> rfl
  · rfl

/-- A load state newly set is told of (R32). -/
theorem setLoad (hhold : s.supply.hold = false) : s.judgesTo (setLoad ch new s) := by
  by_cases hnew : new = s.out.channels[ch].load
  · have hsame : Machine.setLoad ch new s = s := by
      unfold Machine.setLoad
      exact if_pos hnew
    rw [hsame]
    exact refl s
  · have hentry : ∀ c : Fin 10, (Machine.setLoad ch new s).out.channels[c].load
        = if c = ch then new else s.out.channels[c].load := fun c => by
      rw [setLoad_channels, channels_set]
      split <;> rfl
    have hchanged : s.loadsChanged (Machine.setLoad ch new s) = {ch} := by
      ext c
      change (Machine.setLoad ch new s).out.channels[c].load ≠ s.out.channels[c].load ↔ c = ch
      rw [hentry]
      split
      · next hc => exact ⟨fun _ => hc, fun _ => hc ▸ hnew⟩
      · next hc => exact ⟨fun h => absurd rfl h, fun h => absurd h hc⟩
    let noted := Machine.postNotice .channelFault (s.onChan ch fun c => { c with load := new })
    have hset : s.passes ∅ (s.onChan ch fun c => { c with load := new }) := .of_hide [.out] rfl (by decide)
    have hnoted : s.passes ∅ noted := hset.trans (.postNotice .channelFault _)
    have hlast : (tellLoad ch new noted).passes ∅ (Machine.setLoad ch new s) :=
      .of_hide [.out, .posts] (setLoad_hide hnew) (by decide)
    rw [State.judgesTo, hchanged]
    refine ⟨((hnoted.mono (Set.empty_subset _)).trans (passes_tellLoad ch new noted)).trans
      (hlast.mono (Set.empty_subset _)), fun c hc => ?_⟩
    cases hc
    have hreach : noted.loadReaches ch new (tellLoad ch new noted) :=
      reaches_tellLoad hhold (mem_insertNotice.2 (.inl rfl))
    rw [hentry, if_pos rfl]
    exact (State.loadReaches.before hnoted (Set.notMem_empty _) hreach).after hlast (Set.notMem_empty _)

/-- A load state set after the counts and the judgement. -/
theorem setLoad_onChan {f : Channel → Channel} (hhold : s.supply.hold = false)
    (hf : (f s.out.channels[ch]).load = s.out.channels[ch].load) :
    s.judgesTo (Machine.setLoad ch new (s.onChan ch f)) := by
  have hcounted := onChan hf
  refine hcounted.trans (setLoad hhold) fun c => .inl ?_
  by_contra hc
  refine hc ?_
  rw [onChan_entry]
  split
  · next hc => rw [hf, hc]
  · rfl

theorem judge {ma : Nat} (hhold : s.supply.hold = false) : s.judgesTo (judge ch ma s) := by
  have hlow : s.judgesTo (judgeLow ch s) := by
    unfold judgeLow
    split
    · exact (setLoad_onChan hhold rfl).ite (onChan rfl)
    · exact onChan rfl
  have hhigh : s.judgesTo (judgeHigh ch s) := (setLoad_onChan hhold rfl).resolveChannel.ite (onChan rfl)
  have hwithin : s.judgesTo (judgeWithin ch s) := (setLoad_onChan hhold rfl).ite (onChan rfl)
  have hleaking : s.judgesTo (judgeLeaking ch s) := (setLoad_onChan hhold rfl).ite (onChan rfl)
  have hquiet : s.judgesTo (judgeQuiet ch s) := (setLoad_onChan hhold rfl).ite (onChan rfl)
  exact (hlow.ite (hhigh.ite hwithin)).ite (hleaking.ite hquiet)

theorem takeCurrent {ma : Nat} : s.judgesTo (takeCurrent ch ma s) := by
  unfold Machine.takeCurrent
  split
  · exact refl s
  · next hhold => exact (onChan rfl).ite ((refl s).ite (judge (by simpa using hhold)))

end State.judgesTo

/-! ## The ten channels -/

/-- A current scan, read from the records and the settings of `s`. -/
theorem takeCurrent_entry (ch c : Fin 10) (ma : Nat) (s : State) :
    (takeCurrent ch ma s).out.channels[c] = if c = ch then
        s.out.channels[ch].scanned s.supply.hold s.scan.measureFault s.sett.working.channels[ch].minMA
          s.sett.working.channels[ch].maxMA ma
      else s.out.channels[c] := by
  rw [takeCurrent_channels, channels_set]
  rfl

/-- What the judgement of a channel reads from beyond OUT (R27). -/
theorem takeCurrent_reads (ch : Fin 10) (ma : Nat) (s : State) : (takeCurrent ch ma s).supply = s.supply
    ∧ (takeCurrent ch ma s).scan = s.scan ∧ (takeCurrent ch ma s).sett = s.sett := by
  have e : (takeCurrent ch ma s).hide [.out, .loop, .zone, .burn, .link, .posts]
      = s.hide [.out, .loop, .zone, .burn, .link, .posts] := by simp
  have same := hide_eq_iff.1 e
  exact ⟨same .supply (by decide), same .scan (by decide), same .sett (by decide)⟩

/-- The channels of a list taken one after the other: each is judged on its own current, and each change told. -/
theorem foldl_takeCurrent (ma : Fin 10 → Nat) (l : List (Fin 10)) (hl : l.Nodup) (s : State) :
    (∀ c : Fin 10, (l.foldl (fun t ch => takeCurrent ch (ma ch) t) s).out.channels[c] = if c ∈ l then
        s.out.channels[c].scanned s.supply.hold s.scan.measureFault s.sett.working.channels[c].minMA
          s.sett.working.channels[c].maxMA (ma c)
      else s.out.channels[c])
      ∧ s.judgesTo (l.foldl (fun t ch => takeCurrent ch (ma ch) t) s) := by
  induction l generalizing s with
  | nil => exact ⟨fun _ => rfl, .refl s⟩
  | cons ch rest ih =>
    obtain ⟨hch, hrest⟩ := List.nodup_cons.1 hl
    obtain ⟨hentries, hjudges⟩ := ih hrest (takeCurrent ch (ma ch) s)
    obtain ⟨hsupply, hscan, hsett⟩ := takeCurrent_reads ch (ma ch) s
    rw [List.foldl_cons]
    constructor
    · intro c
      rw [hentries, takeCurrent_entry, hsupply, hscan, hsett]
      by_cases hc : c = ch
      · subst hc
        rw [if_neg hch, if_pos rfl, if_pos List.mem_cons_self]
      · rw [if_neg hc]
        simp [hc]
    · refine .trans .takeCurrent hjudges fun c => ?_
      by_cases hc : c = ch
      · subst hc
        exact .inr (by rw [hentries, if_neg hch])
      · exact .inl (by rw [takeCurrent_entry, if_neg hc])

/-- OUT takes the ten currents of a pass (R27, R32, R33). -/
theorem outTakesPass_judges (s : State) :
    (∀ c : Fin 10, (outTakesPass s).out.channels[c] = s.out.channels[c].scanned s.supply.hold s.scan.measureFault
        s.sett.working.channels[c].minMA s.sett.working.channels[c].maxMA
        ((s.scan.cs[c].reading.map Prod.snd).getD 0))
      ∧ s.judgesTo (outTakesPass s) ∧ (outTakesPass s).out.pumpProven = (outTakesPass s).pumpProvenByRule := by
  obtain ⟨hentries, hjudges⟩ := foldl_takeCurrent (fun c => (s.scan.cs[c].reading.map Prod.snd).getD 0)
    allChannels (by decide) s
  refine ⟨fun c => ?_, ?_, evaluatePump_byRule _⟩
  · unfold outTakesPass
    rw [evaluatePump_channels]
    exact (hentries c).trans (if_pos (mem_allChannels c))
  · refine hjudges.then_passes (.of_hide [.out, .posts] (hide_evaluatePump _ (by decide) (by decide)) (by decide))
      fun c => ?_
    unfold outTakesPass
    rw [evaluatePump_channels]
    rfl

end Sys2Proof.Machine
end

section
/-! PROOF. PASS_COMPLETION at OUT (O22): the stages before and after the ten currents. -/

namespace Sys2Proof.Machine

variable {s t u v w : State} {N : Set (Fin 10)} {ch : Fin 10} {new : LoadState}

/-! ## MEASURE_FAULT told (R10 to R12, R113) -/

/-- A change of every channel's entry, one after the other. -/
theorem eachChannel_onChan (f : Channel → Channel) (c : Fin 10) (s : State) :
    (eachChannel (fun ch t => t.onChan ch f) s).out.channels[c] = f s.out.channels[c] := by
  have hfold : ∀ (l : List (Fin 10)) (u : State), l.Nodup →
      (l.foldl (fun t ch => t.onChan ch f) u).out.channels[c]
        = if c ∈ l then f u.out.channels[c] else u.out.channels[c] := by
    intro l u hl
    induction l generalizing u with
    | nil => rfl
    | cons ch rest ih =>
      obtain ⟨hch, hrest⟩ := List.nodup_cons.1 hl
      rw [List.foldl_cons, ih _ hrest, onChan_entry]
      by_cases hc : c = ch
      · subst hc
        rw [if_neg hch, if_pos rfl, if_pos List.mem_cons_self]
      · rw [if_neg hc]
        simp [hc]
  exact (hfold allChannels s (by decide)).trans (if_pos (mem_allChannels c))

theorem clearAllCounts_entry (c : Fin 10) (s : State) :
    (clearAllCounts s).out.channels[c] = s.out.channels[c].recounted := eachChannel_onChan Channel.clearCounts c s

theorem outTakesMeasureFault_entry (x : Bool) (c : Fin 10) (s : State) :
    (outTakesMeasureFault x s).out.channels[c] = s.out.channels[c].recounted := by
  unfold outTakesMeasureFault
  split
  · exact (congrArg (fun v : Vector Channel 10 => v[c]) (evaluatePump_channels _)).trans (clearAllCounts_entry c s)
  · exact clearAllCounts_entry c s

/-- GAUGE's fault and FUEL's estimate reach LINK's notices at most. -/
theorem passes_gaugeTakesMeasureFault (s : State) : s.passes N (gaugeTakesMeasureFault s) := by
  have hstage : ∀ g (v : State), v.passes N (setStage g v) := fun g v => by
    unfold setStage
    split
    · exact .refl v
    · exact (State.passes.of_hide [.fuel, .posts] (by simp) (by decide)).trans (.postNotice _ _)
  have hvalue : ∀ v : State, v.passes N (handEstimate v) := fun v => by
    unfold handEstimate handValue fuelTakesValue
    rw [if_neg (by decide)]
    exact (State.passes.of_hide [.gauge, .fuel] (by simp) (by decide)).trans (hstage _ _)
  unfold gaugeTakesMeasureFault
  split
  · exact .of_hide [.gauge] rfl (by decide)
  · have hfuel : s.passes N (fuelFaultEntered (s.onGauge fun g =>
        { g.emptyWindow with fault := true, cause := .measure })) :=
      .of_hide [.gauge, .fuel] (by simp) (by decide)
    exact (hfuel.trans (hvalue _)).trans (.postNotice _ _)

/-- OVERHEAT comes and goes alone (R65). -/
theorem passes_evaluateOverheat (s : State) : s.passes N (evaluateOverheat s) := by
  unfold evaluateOverheat
  split
  · exact .refl s
  · split
    · exact .of_burn (by simp) (fun _ => addReason_has .overheat (r' := .pump) (by decide) s)
        fun _ => steady_field Burn.uncontrolled (fun _ => rfl) (addReason_steady .overheat s)
    · split
      · exact .of_burn (by simp) (fun _ => removeReason_has .overheat .pump s)
          fun _ => steady_field Burn.uncontrolled (fun _ => rfl) (removeReason_steady .overheat s)
      · exact .refl s

theorem passes_evaluateBoilerFrost (s : State) : s.passes N (evaluateBoilerFrost s) :=
  .of_zone (by simp) (State.faultsStay.refl s).evaluateBoilerFrost

theorem passes_burnTakesFlow (s : State) : s.passes N (burnTakesFlow s) := by
  have hstop : ∀ v : State, v.passes N (stopOverrun v) := fun v =>
    .of_burn (by simp) (fun _ => congrArg (InhibitSet.has · .pump) (stopOverrun_inhibit v))
      fun _ => steady_field Burn.uncontrolled (fun _ => rfl) (stopOverrun_steady v)
  unfold burnTakesFlow
  dsimp only
  split
  · exact (passes_evaluateOverheat s).trans (hstop _)
  · exact passes_evaluateOverheat s

/-! ## OUT's entries and mode -/

/-- The mode with its cause (R19). -/
def Out.line (o : Out) : OutMode × ModeCause := (o.mode, o.cause)

theorem line_of_out (e : t.hide [.scan, .loop, .zone, .burn, .gauge, .fuel, .store, .link, .sett, .posts]
    = s.hide [.scan, .loop, .zone, .burn, .gauge, .fuel, .store, .link, .sett, .posts]) : t.out = s.out :=
  hide_eq_iff.1 e .out (by decide)

theorem evaluatePump_line (s : State) : (evaluatePump s).out.line = s.out.line :=
  Prod.ext (evaluatePump_mode s) (evaluatePump_cause s)

theorem resolveChannel_line (ch : Fin 10) (s : State) : (resolveChannel ch s).out.line = s.out.line :=
  Prod.ext (resolveChannel_mode ch s) (resolveChannel_cause ch s)

theorem setLoad_line (ch : Fin 10) (new : LoadState) (s : State) : (setLoad ch new s).out.line = s.out.line := by
  by_cases hnew : new = s.out.channels[ch].load
  · unfold setLoad
    exact congrArg (fun x : State => x.out.line) (if_pos hnew)
  · have htold : (loadTold ch new s).out.line = s.out.line := by
      unfold loadTold
      rw [tellLoad_out]
      rfl
    rw [setLoad_changed hnew]
    split
    · exact (evaluatePump_line _).trans htold
    · exact htold

theorem judge_line (ch : Fin 10) (ma : Nat) (s : State) : (judge ch ma s).out.line = s.out.line := by
  have hset : ∀ (new : LoadState) (f : Channel → Channel),
      (setLoad ch new (s.onChan ch f)).out.line = s.out.line := fun new f => setLoad_line ch new (s.onChan ch f)
  unfold judge judgeLow judgeHigh judgeWithin judgeLeaking judgeQuiet
  dsimp only
  repeat' split
  · exact hset _ _
  · rfl
  · rfl
  · exact (resolveChannel_line ch _).trans (hset _ _)
  · rfl
  · exact hset _ _
  · rfl
  · exact hset _ _
  · rfl
  · exact hset _ _
  · rfl

theorem takeCurrent_line (ch : Fin 10) (ma : Nat) (s : State) : (takeCurrent ch ma s).out.line = s.out.line := by
  unfold takeCurrent
  repeat' split
  · rfl
  · rfl
  · rfl
  · exact judge_line ch ma s

theorem outTakesPass_line (s : State) : (outTakesPass s).out.line = s.out.line := by
  unfold outTakesPass eachChannel
  exact (evaluatePump_line _).trans (foldl_keeps (fun v => v.out.line) (fun v ch => takeCurrent_line ch _ v) _ s)

theorem clearAllCounts_line (s : State) : (clearAllCounts s).out.line = s.out.line := by
  unfold clearAllCounts eachChannel
  exact foldl_keeps (f := fun t ch => t.onChan ch Channel.clearCounts) (fun v => v.out.line) (fun _ _ => rfl) _ s

/-! ## Stages 1 and 2 -/

/-- What the stages before the currents leave of OUT: the counts begin again with a changed MEASURE_FAULT
(R27). -/
structure State.recounts (s t : State) : Prop where
  passes : s.passes ∅ t
  line : t.out.line = s.out.line
  channels : ∀ c : Fin 10, t.out.channels[c] = if t.scan.measureFault = s.scan.measureFault then
    s.out.channels[c] else s.out.channels[c].recounted

theorem Channel.recounted_load (c : Channel) : c.recounted.load = c.load := rfl

namespace State.recounts

theorem onScan {f : Scan → Scan} (hf : (f s.scan).measureFault = s.scan.measureFault) :
    s.recounts (s.onScan f) :=
  ⟨.of_hide [.scan] rfl (by decide), rfl, fun c => (if_pos hf).symm⟩

/-- SCAN's own fields come before. -/
theorem before {f : Scan → Scan} (hf : (f s.scan).measureFault = s.scan.measureFault)
    (h : (s.onScan f).recounts t) : s.recounts t where
  passes := by
    have hset : s.passes ∅ (s.onScan f) := .of_hide [.scan] rfl (by decide)
    exact hset.trans h.passes
  line := h.line
  channels c := by
    rw [h.channels c]
    change (if t.scan.measureFault = (f s.scan).measureFault then _ else _) = _
    rw [hf]
    rfl

/-- MEASURE_FAULT changes and is told (R10 to R12). -/
theorem tellMeasureFault {x : Bool} (hx : x ≠ s.scan.measureFault) : s.recounts (tellMeasureFault x s) := by
  have hset : (Machine.tellMeasureFault x s).scan.measureFault = x :=
    congrArg Scan.measureFault (State.scansTo.refl s).tellMeasureFault.scan_eq
  let a := s.onScan fun c => { c with measureFault := x }
  let b := outTakesMeasureFault x a
  let d := if x then gaugeTakesMeasureFault b else b
  have hb : s.passes ∅ b := .of_hide [.scan, .out, .posts]
    ((hide_outTakesMeasureFault x a (by decide) (by decide)).trans rfl) (by decide)
  have hd : s.passes ∅ d := by
    change s.passes ∅ (if x then gaugeTakesMeasureFault b else b)
    split
    · exact hb.trans (passes_gaugeTakesMeasureFault b)
    · exact hb
  have hout : (Machine.tellMeasureFault x s).out = b.out := by
    refine line_of_out ?_
    change (Machine.postNotice .measure (evaluateBoilerFrost (evaluateOverheat
      (if x then gaugeTakesMeasureFault b else b)))).hide _ = _
    split <;> simp
  have hline : b.out.line = a.out.line := by
    change (outTakesMeasureFault x a).out.line = _
    unfold outTakesMeasureFault
    split
    · exact (evaluatePump_line _).trans (clearAllCounts_line a)
    · exact clearAllCounts_line a
  refine ⟨((hd.trans (passes_evaluateOverheat d)).trans (passes_evaluateBoilerFrost _)).trans
    (.postNotice .measure _), ?_, fun c => ?_⟩
  · rw [hout]
    exact hline
  · rw [hset, if_neg hx, hout]
    exact outTakesMeasureFault_entry x c a

theorem settleVerdict {pass : Bool} : s.recounts (settleVerdict pass s) := by
  unfold Machine.settleVerdict
  split
  · split
    · next hfault =>
      split
      · exact .before (f := fun c => { c with consecPass := 0 }) rfl (tellMeasureFault (by
          change false ≠ s.scan.measureFault
          rw [hfault]
          decide))
      · exact onScan rfl
    · exact onScan rfl
  · dsimp only
    split
    · exact onScan rfl
    · next hfault =>
      exact .before (f := fun c => { c with consecPass := 0 }) rfl (tellMeasureFault fun e => hfault e.symm)

theorem settleTest {ref : Bool} {p : PassCounts} : s.recounts (settleTest ref p s) := by
  unfold Machine.settleTest
  split
  · exact .before (f := fun c => { c with passCounter := 0, lastTest := some _ }) rfl settleVerdict
  · exact onScan rfl

theorem writeRecords {p : PassCounts} (h : s.recounts u) : s.recounts (writeRecords p u) := by
  have hrecorded : s.recounts (u.onScan (Scan.recorded p)) :=
    ⟨h.passes.trans (.of_hide [.scan] rfl (by decide)), h.line, h.channels⟩
  unfold Machine.writeRecords
  dsimp only
  split
  · exact ⟨hrecorded.passes.trans (.postNotice _ _), hrecorded.line, hrecorded.channels⟩
  · exact hrecorded

end State.recounts

/-! ## The whole pass -/

/-- The state in which OUT takes the pass. -/
def beforeOffers (ref : Bool) (p : PassCounts) (s : State) : State :=
  writeRecords p (settleTest ref p (s.onScan fun c => { c with inFlight := none }))

theorem beforeOffers_recounts (ref : Bool) (p : PassCounts) (s : State) : s.recounts (beforeOffers ref p s) :=
  .writeRecords (.before (f := fun c => { c with inFlight := none }) rfl .settleTest)

/-- The offers to GAUGE, FUEL, BURN and ZONE tell of no load. -/
theorem passStages_passes (ref : Bool) (p : PassCounts) (s : State) :
    (outTakesPass (beforeOffers ref p s)).passes N (passStages ref p s) := by
  change (outTakesPass (beforeOffers ref p s)).passes N (evaluateBoilerFrost (burnTakesFlow (evaluateLineHeat
    (gaugeTakesPass (outTakesPass (beforeOffers ref p s))))))
  generalize outTakesPass (beforeOffers ref p s) = u
  have hoffered : u.passes N (evaluateLineHeat (gaugeTakesPass u)) :=
    .of_hide [.gauge, .fuel, .posts] (by simp) (by decide)
  exact (hoffered.trans (passes_burnTakesFlow _)).trans (passes_evaluateBoilerFrost _)

/-- A task that ends loses no notice. -/
theorem endTask_notices {n : Notice} (o : TaskOutcome) (r : ReasonCode) (k : Nat) (h : n ∈ s.link.notices) :
    n ∈ (endTask o r k s).link.notices := by
  unfold endTask
  split
  · exact h
  · exact mem_insertNotice.2 (.inr h)

theorem endSelfTest_notices {n : Notice} (h : n ∈ s.link.notices) : n ∈ (endSelfTest s).link.notices := by
  unfold endSelfTest
  split
  · dsimp only
    split
    · exact endTask_notices _ _ _ h
    · exact endTask_notices _ _ _ h
  · exact h

/-- The end of the pass, from the state in which OUT took the currents. -/
structure State.passEnds (u t : State) : Prop where
  out : t.out = u.out
  scan : t.scan.measureFault = u.scan.measureFault ∧ t.scan.cs = u.scan.cs
  inhibit : t.burn.inhibit.pump = u.burn.inhibit.pump
  uncontrolled : t.burn.uncontrolled = u.burn.uncontrolled
  notices : ∀ n ∈ u.link.notices, n ∈ t.link.notices
  owes : ∀ n, u.owes n .faultLamp 1 → t.owes n .faultLamp 1
  faults : ∀ z : Fin 6, u.zone.zones[z].state = .fault → t.zone.zones[z].state = .fault
    ∧ t.zone.zones[z].cause = u.zone.zones[z].cause ∧ t.zone.zones[z].timer = u.zone.zones[z].timer

theorem settle_passEnds (ref : Bool) (p : PassCounts) (s : State) :
    (outTakesPass (beforeOffers ref p s)).passEnds (settle (endSelfTest (passStages ref p s))) := by
  have hoffers : (outTakesPass (beforeOffers ref p s)).passes ∅ (passStages ref p s) := passStages_passes ref p s
  have eoffers : (passStages ref p s).hide [.loop, .zone, .burn, .gauge, .fuel, .link, .posts]
      = (outTakesPass (beforeOffers ref p s)).hide [.loop, .zone, .burn, .gauge, .fuel, .link, .posts] := by
    change (evaluateBoilerFrost (burnTakesFlow (evaluateLineHeat (gaugeTakesPass
      (outTakesPass (beforeOffers ref p s)))))).hide _ = _
    simp
  generalize outTakesPass (beforeOffers ref p s) = u at *
  generalize passStages ref p s = v at *
  have hsettles := (State.settlesTo.refl (endSelfTest v)).settle
  have eend : (endSelfTest v).hide [.scan, .link] = v.hide [.scan, .link] := by simp
  have esettle : (settle (endSelfTest v)).hide [.burn, .store, .link, .sett, .posts]
      = (endSelfTest v).hide [.burn, .store, .link, .sett, .posts] := by simp
  have hscan : (settle (endSelfTest v)).scan = (endSelfTest v).scan := hide_eq_iff.1 esettle .scan (by decide)
  have hzone : (settle (endSelfTest v)).zone = v.zone :=
    (hide_eq_iff.1 esettle .zone (by decide)).trans (hide_eq_iff.1 eend .zone (by decide))
  have hloop : (settle (endSelfTest v)).loop = v.loop :=
    (hide_eq_iff.1 esettle .loop (by decide)).trans (hide_eq_iff.1 eend .loop (by decide))
  have hout : (settle (endSelfTest v)).out = v.out :=
    (hide_eq_iff.1 esettle .out (by decide)).trans (hide_eq_iff.1 eend .out (by decide))
  have hburn : (endSelfTest v).burn = v.burn := hide_eq_iff.1 eend .burn (by decide)
  have hscanu : v.scan = u.scan := hide_eq_iff.1 eoffers .scan (by decide)
  refine ⟨hout.trans (hide_eq_iff.1 eoffers .out (by decide)), ?_, ?_, ?_, fun n hn => ?_, fun n hn => ?_, ?_⟩
  · rw [hscan, endSelfTest_scan, hscanu]
    exact ⟨rfl, rfl⟩
  · rw [← hoffers.pump (Set.notMem_empty _), ← hburn]
    exact hsettles.field (fun b => b.inhibit.pump) fun _ => rfl
  · rw [← hoffers.uncontrolled (Set.notMem_empty _), ← hburn]
    exact hsettles.field Burn.uncontrolled fun _ => rfl
  · obtain ⟨-, hnotices, -⟩ := hsettles
    exact hnotices n (endSelfTest_notices (hoffers.notices n hn))
  · have howed := hoffers.owes n hn
    unfold State.owes
    rw [hloop]
    exact howed
  · rw [hzone]
    exact hoffers.faults

theorem faulty_iff : new.faulty = true ↔ new = .openLoad ∨ new = .tripped := by
  cases new <;> decide

/-- The record of a channel's current after stage 2 (R5). -/
theorem recorded_current (p : PassCounts) (ch : Fin 10) (c : Scan) :
    (Scan.recorded p c).cs[ch] = ⟨some ((p.cs[ch]).toNat, convertCurrent (p.cs[ch]).toNat), true⟩ := by
  simp [Scan.recorded]

/-- Settles O22: the counts begin again, the ten currents are judged, and nothing after them tells of a load. -/
theorem passCompletionJudgesTheLoads : Obligations.PassCompletionJudgesTheLoads := by
  intro p s ref hrun hpass
  have hbefore := beforeOffers_recounts ref p s
  have hcs : (beforeOffers ref p s).scan = s.scan.passed ref p s.now :=
    (((State.scansTo.refl s).onScan fun c => { c with inFlight := none }).settleTest rfl).writeRecords.scan_eq
  obtain ⟨hentries, hjudges, hproven⟩ := outTakesPass_judges (beforeOffers ref p s)
  have hends := settle_passEnds ref p s
  have hline : (outTakesPass (beforeOffers ref p s)).out.line = s.out.line :=
    (outTakesPass_line _).trans hbefore.line
  have hscan : (outTakesPass (beforeOffers ref p s)).scan = (beforeOffers ref p s).scan :=
    hide_eq_iff.1 (hide_outTakesPass _ (by decide) (by decide) (by decide) (by decide) (by decide) (by decide) :
      _ = (beforeOffers ref p s).hide [.out, .loop, .zone, .burn, .link, .posts]) .scan (by decide)
  refine ⟨_, exec_passCompletion hrun hpass, ?_⟩
  generalize settle (endSelfTest (passStages ref p s)) = t at *
  generalize outTakesPass (beforeOffers ref p s) = u at *
  generalize beforeOffers ref p s = b at *
  have hload : ∀ c : Fin 10, b.out.channels[c].load = s.out.channels[c].load := fun c => by
    rw [hbefore.channels c]
    split <;> rfl
  obtain ⟨hpasses, hreaches⟩ := (State.judgesTo.of_passes hbefore.passes hload).trans hjudges fun c => .inl (hload c)
  obtain ⟨hfault, hrecords⟩ := hends.scan
  have hkept : ∀ ch : Fin 10, u.out.channels[ch].load = s.out.channels[ch].load → ch ∉ s.loadsChanged u :=
    fun _ h hin => hin h
  have htold : ∀ ch : Fin 10, u.out.channels[ch].load ≠ s.out.channels[ch].load →
      s.loadReaches ch u.out.channels[ch].load u := fun ch h => hreaches ch h
  rw [hends.out]
  refine ⟨congrArg Prod.fst hline, congrArg Prod.snd hline, ?_, fun ch =>
    ⟨convertCurrent (p.cs[ch]).toNat, ?_, ?_, fun c hc => ?_, fun h2 => ?_, fun h2 => ?_, fun h0 => ?_, fun h0 => ?_,
      fun z hz hnew => ?_⟩⟩
  · rw [hproven]
    unfold State.pumpProvenByRule
    rw [hends.out, hfault]
  · have hrecord : t.scan.cs[ch] = ⟨some ((p.cs[ch]).toNat, convertCurrent (p.cs[ch]).toNat), true⟩ := by
      rw [hrecords, hscan, hcs]
      exact recorded_current p ch _
    rw [hrecord]
  · have hma : (b.scan.cs[ch].reading.map Prod.snd).getD 0 = convertCurrent (p.cs[ch]).toNat := by
      have hrecord : b.scan.cs[ch] = ⟨some ((p.cs[ch]).toNat, convertCurrent (p.cs[ch]).toNat), true⟩ := by
        rw [hcs]
        exact recorded_current p ch _
      rw [hrecord]
      rfl
    rw [hentries ch, hma, hbefore.channels ch, hfault, hscan, hbefore.passes.supply, hbefore.passes.sett]
  · exact hends.notices _ (htold c hc).notice
  · rw [hends.inhibit, (htold 2 h2).pump rfl]
    exact faulty_iff
  · rw [hends.inhibit]
    exact hpasses.pump (hkept 2 h2)
  · rw [hends.uncontrolled, (htold 0 h0).uncontrolled rfl]
    exact beq_iff_eq
  · rw [hends.uncontrolled]
    exact hpasses.uncontrolled (hkept 0 h0)
  · have hfaulty : u.out.channels[valveChannel z].load.faulty = true := faulty_iff.2 hnew
    have hreach := htold (valveChannel z) hz
    obtain ⟨hstate, hcause, htimer⟩ := hends.faults z (hreach.fault z rfl hfaulty)
    refine ⟨hstate, fun hwas => ?_⟩
    obtain ⟨hcause', htimer', hnotice, howes⟩ := hreach.entered z rfl hfaulty hwas
    exact ⟨hcause.trans hcause', htimer.trans htimer', hends.notices _ hnotice,
      fun n hen hnode => hends.owes n (howes n hen hnode)⟩

end Sys2Proof.Machine
end

section
/-! PROOF. SUPPLY_HOLD begins at OUT and at ZONE (O55): every channel released, every zone IDLE (R36, R61). -/

namespace Sys2Proof.Machine

variable {s t u : State}

/-! ## OUT (R36) -/

/-- What the owner of a channel and the judgement of its load have set: its demand, its override and its load state
(R18, R24, R28). -/
def Channel.given (c : Channel) : Bool × Option (Bool × Nat) × LoadState := (c.demand, c.override, c.load)

theorem resolveAll_set (c : Fin 10) (s : State) :
    (resolveAll s).out.channels[c].given = s.out.channels[c].given := by
  unfold resolveAll eachChannel
  refine foldl_keeps (fun v => v.out.channels[c].given) (fun v ch => ?_) _ s
  obtain ⟨hdemand, hover, hload⟩ := resolveChannel_drive ch c v
  exact Prod.ext hdemand (Prod.ext hover hload)

theorem outHoldBegins_entry (c : Fin 10) (s : State) :
    (outHoldBegins s).out.channels[c] = (resolveAll s).out.channels[c].recounted := by
  unfold outHoldBegins
  exact clearAllCounts_entry c _

theorem resolveAll_line (s : State) : (resolveAll s).out.line = s.out.line := by
  unfold resolveAll eachChannel
  exact foldl_keeps (fun v => v.out.line) (fun v ch => resolveChannel_line ch v) _ s

theorem outHoldBegins_line (s : State) : (outHoldBegins s).out.line = s.out.line := by
  unfold outHoldBegins
  exact (clearAllCounts_line _).trans (resolveAll_line s)

/-- In the hold nothing is driven (R36). -/
theorem outHoldBegins_released (hhold : s.supply.hold = true) (c : Fin 10) :
    (outHoldBegins s).out.channels[c].effective = false := by
  have hdriven : kept_drivenBut.holds ∅ (outHoldBegins s) := (drivenBut_univ s).outHoldBegins
  have hsupply : (outHoldBegins s).supply = s.supply :=
    hide_eq_iff.1 (hide_outHoldBegins s (by decide) (by decide) : _ = s.hide [.out, .posts]) .supply (by decide)
  rw [drivenBut_empty.1 hdriven c]
  unfold State.tableEffective
  dsimp only
  rw [hsupply, hhold]
  split <;> rfl

/-- OUT at the beginning of the hold (R36). -/
theorem outHoldBegins_channel (hhold : s.supply.hold = true) (ch : Fin 10) :
    (outHoldBegins s).out.channels[ch].effective = false ∧ (outHoldBegins s).out.channels[ch].low = 0
      ∧ (outHoldBegins s).out.channels[ch].high = 0 ∧ (outHoldBegins s).out.channels[ch].offs = 0
      ∧ (outHoldBegins s).out.channels[ch].demand = s.out.channels[ch].demand
      ∧ (outHoldBegins s).out.channels[ch].override = s.out.channels[ch].override
      ∧ (outHoldBegins s).out.channels[ch].load = s.out.channels[ch].load := by
  have hreleased := outHoldBegins_released hhold ch
  have hset := resolveAll_set ch s
  rw [outHoldBegins_entry] at hreleased ⊢
  generalize (resolveAll s).out.channels[ch] = c at hreleased hset ⊢
  exact ⟨hreleased, rfl, rfl, rfl, congrArg Prod.fst hset, congrArg (fun x => x.2.1) hset,
    congrArg (fun x => x.2.2) hset⟩

/-! ## ZONE (R61) -/

theorem formOutputs_zones (s : State) : (formOutputs s).zone.zones = s.zone.zones := by
  have hheat : (formHeat s).zone.zones = s.zone.zones := by
    unfold formHeat
    split <;> rfl
  unfold formOutputs formPump
  split <;> exact hheat

/-- A step over the zones, each of which changes its own zone alone by a function of that zone's entry, where `P`
holds. -/
theorem eachZone_entry {P : State → Prop} {f : Fin 6 → State → State} {g : Fin 6 → Zone → Zone}
    (hkeeps : ∀ z v, P v → P (f z v))
    (hf : ∀ (z y : Fin 6) (v : State), P v → (f z v).zone.zones[y]
      = if y = z then g z v.zone.zones[z] else v.zone.zones[y]) (hs : P s) (y : Fin 6) :
    (eachZone f s).zone.zones[y] = g y s.zone.zones[y] := by
  have hfold : ∀ (l : List (Fin 6)) (v : State), P v → l.Nodup → (l.foldl (fun t z => f z t) v).zone.zones[y]
      = if y ∈ l then g y v.zone.zones[y] else v.zone.zones[y] := by
    intro l v hv hl
    induction l generalizing v with
    | nil => rfl
    | cons z rest ih =>
      obtain ⟨hz, hrest⟩ := List.nodup_cons.1 hl
      rw [List.foldl_cons, ih _ (hkeeps z v hv) hrest, hf _ _ _ hv]
      by_cases hy : y = z
      · subst hy
        rw [if_neg hz, if_pos rfl, if_pos List.mem_cons_self]
      · rw [if_neg hy]
        simp [hy]
  exact (hfold allZones s hs (by decide)).trans (if_pos (mem_allZones y))

theorem zoneHoldBegins_entry (z y : Fin 6) (s : State) : (zoneHoldBegins z s).zone.zones[y]
    = if y = z then { s.zone.zones[z] with state := .idle, timer := .stopped } else s.zone.zones[y] := by
  have hwrite : ∀ v : State, (writeToZoneNode z .faultLamp 0 v).zone = v.zone := fun v =>
    hide_eq_iff.1 (hide_writeToZoneNode _ _ _ v (by decide) : _ = v.hide [.loop]) .zone (by decide)
  unfold zoneHoldBegins
  dsimp only
  split
  · exact (congrArg (fun b : ZoneBlock => b.zones[y]) (hwrite _)).trans (zoneTo_entry z y .idle .stopped s)
  · exact zoneTo_entry z y .idle .stopped s

/-- ZONE at the beginning of the hold: every valve shuts, and no heat is requested (R57, R61). -/
theorem zonesHoldBegins_zone (s : State) :
    (∀ z : Fin 6, (zonesHoldBegins s).zone.zones[z]
        = { s.zone.zones[z] with state := .idle, timer := .stopped })
      ∧ (zonesHoldBegins s).plantFormed ∧ (zonesHoldBegins s).zone.heatRequest = false := by
  have hzones : ∀ z : Fin 6, (zonesHoldBegins s).zone.zones[z]
      = { s.zone.zones[z] with state := .idle, timer := .stopped } := fun z => by
    unfold zonesHoldBegins
    rw [formOutputs_zones]
    exact eachZone_entry (P := fun _ => True) (g := fun _ zn => { zn with state := .idle, timer := .stopped })
      (fun _ _ _ => trivial) (fun z y v _ => zoneHoldBegins_entry z y v) trivial z
  have hformed : (zonesHoldBegins s).plantFormed := formOutputs_plantFormed _
  refine ⟨hzones, hformed, ?_⟩
  obtain ⟨hheat, -⟩ := hformed
  refine Bool.eq_false_iff.2 fun h => ?_
  obtain ⟨z, hopened, -⟩ := hheat.1 h
  rw [hzones z] at hopened
  cases hopened

/-- The heat request and the pump demand go by ZONE alone. -/
theorem plantFormed_of_zone (e : t.zone = s.zone) (h : s.plantFormed) : t.plantFormed := by
  unfold State.plantFormed
  rw [e]
  exact h

end Sys2Proof.Machine
end

section
/-! PROOF. SUPPLY_HOLD begins at BURN (O55): what reaches it ahead of the hold, the hold itself, and the answers of
STORE that it meets (R80, R100, R156). -/

namespace Sys2Proof.Machine

variable {s t u : State}

/-! ## The state after a release -/

theorem burnTo_burn (st : BurnState) (s : State) : (burnTo st s).burn = { s.burn with
    state := st
    stoppingLeft := s.burn.stoppingLeft && (st == .idle || st == .inhibited)
    proveTimer := proveTimerAt s.par.prove s.burn.proofPending s.burn.state st s.burn.proveTimer } := by
  unfold burnTo
  dsimp only
  split <;> rfl

theorem burnTo_state (st : BurnState) (s : State) : (burnTo st s).burn.state = st := by
  rw [burnTo_burn]

theorem stopOverrun_state (s : State) : (stopOverrun s).burn.state = s.burn.state := by
  unfold stopOverrun
  split <;> rfl

theorem afterFiring_state (s : State) : (afterFiring s).burn.state = s.burn.state := by
  have hcycle : (addAntiCycle s).burn.state = s.burn.state := by
    unfold addAntiCycle
    split <;> rfl
  refine Eq.trans ?_ hcycle
  unfold afterFiring askOverrun runOverrun
  dsimp only
  split
  · exact stopOverrun_state _
  · split <;> rfl

/-- At rest, or called again at once, BURN is in a normal state (R62). -/
theorem goIdle_normal (s : State) : (goIdle s).burn.state.normal = true := by
  obtain ⟨hinhibited, hcalled⟩ := goIdle_atRest s
  by_cases hempty : (goIdle s).burn.inhibit = InhibitSet.empty
  · obtain ⟨hcall, hrest⟩ := hcalled hempty
    by_cases hboth : (goIdle s).burn.heat = true ∧ (goIdle s).burn.pump = true
    · rw [hcall hboth.1 hboth.2]
      split <;> rfl
    · rw [hrest (by simpa only [not_and_or, Bool.not_eq_true] using hboth)]
      rfl
  · rw [hinhibited hempty]
    rfl

theorem withdraw_normal (s : State) : (withdraw s).burn.state.normal = true := by
  have hstopping : (withdrawn s).burn.state = .stopping := by
    unfold withdrawn
    dsimp only
    split
    · rw [afterFiring_state]
      exact burnTo_state .stopping s
    · exact burnTo_state .stopping s
  rw [withdraw_eq]
  split
  · rw [hstopping]
    rfl
  · exact goIdle_normal _

theorem enterCalled_normal (s : State) : (enterCalled s).burn.state.normal = true := by
  unfold enterCalled
  dsimp only
  split
  · exact congrArg BurnState.normal (burnTo_state .firing _)
  · rw [stopOverrun_state]
    exact congrArg BurnState.normal (burnTo_state .called s)

/-! ## What reaches BURN ahead of the hold (R156; log entry 10) -/

/-- BURN's entry but for its calls and what calls depend on: the recovery's part. -/
def Burn.recovery (b : Burn) : Burn := { b.steady with heat := false, pump := false }

/-- From `s` to `t` BURN takes changes of the heat request and of pump proven: a recovery goes on, and a normal
state stays normal (R67, R71). -/
structure State.drains (s t : State) : Prop where
  hide : t.hide [.burn, .posts] = s.hide [.burn, .posts]
  recovery : t.burn.recovery = s.burn.recovery
  normal : s.burn.state.normal = true → t.burn.state.normal = true
  other : s.burn.state.normal = false → t.burn.state = s.burn.state

theorem recovery_of_steady (h : t.burn.steady = s.burn.steady) : t.burn.recovery = s.burn.recovery :=
  congrArg (fun b : Burn => { b with heat := false, pump := false }) h

namespace State.drains

theorem refl (s : State) : s.drains s := ⟨rfl, rfl, fun h => h, fun _ => rfl⟩

theorem trans (h : s.drains u) (h' : u.drains t) : s.drains t where
  hide := h'.hide.trans h.hide
  recovery := h'.recovery.trans h.recovery
  normal hs := h'.normal (h.normal hs)
  other hs := (h'.other (by rw [h.other hs, hs])).trans (h.other hs)

/-- A step of the calls', from a normal state. -/
theorem of_steady (hhide : t.hide [.burn, .posts] = s.hide [.burn, .posts]) (hsteady : t.burn.steady = s.burn.steady)
    (hs : s.burn.state.normal = true) (ht : t.burn.state.normal = true) : s.drains t :=
  ⟨hhide, recovery_of_steady hsteady, fun _ => ht, fun h => absurd hs (by simp [h])⟩

theorem foldl {α : Type} {f : State → α → State} (hf : ∀ (v : State) a, v.drains (f v a)) (l : List α) (s : State) :
    s.drains (l.foldl f s) := by
  induction l generalizing s with
  | nil => exact refl s
  | cons a rest ih => exact (hf s a).trans (ih (f s a))

theorem lookCall (hs : s.burn.state.normal = true) : s.drains (lookCall s) := by
  unfold Machine.lookCall
  split
  · exact of_steady (by simp) (enterCalled_steady s) hs (enterCalled_normal s)
  · exact refl s

theorem withdraw (hs : s.burn.state.normal = true) : s.drains (withdraw s) :=
  of_steady (by simp) (withdraw_steady s) hs (withdraw_normal s)

theorem normal_of_calling {st : BurnState} (h : st.calling = true) : st.normal = true := by
  revert h
  cases st <;> decide

theorem burnTakesHeat (v : Bool) (s : State) : s.drains (burnTakesHeat v s) := by
  have htold : s.drains (s.onBurn fun b => { b with heat := v }) := ⟨rfl, rfl, fun h => h, fun _ => rfl⟩
  have hposted : ∀ w : State, s.drains w → s.drains (postOverrun w.burn.overrun w) := fun w hw =>
    hw.trans ⟨by simp, rfl, fun h => h, fun _ => rfl⟩
  unfold Machine.burnTakesHeat
  dsimp only
  repeat' split
  · exact refl s
  · next hidle => exact htold.trans (lookCall (congrArg BurnState.normal hidle))
  · exact htold
  · next hcalling => exact hposted _ (htold.trans (withdraw (normal_of_calling hcalling)))
  · exact hposted _ htold

theorem burnTakesPump (v : Bool) (s : State) : s.drains (burnTakesPump v s) := by
  have htold : s.drains (s.onBurn fun b => { b with pump := v }) := ⟨rfl, rfl, fun h => h, fun _ => rfl⟩
  unfold Machine.burnTakesPump
  dsimp only
  repeat' split
  · exact refl s
  · next hidle => exact htold.trans (lookCall (congrArg BurnState.normal hidle))
  · exact htold
  · next hcalling => exact htold.trans (withdraw (normal_of_calling hcalling))
  · exact htold

theorem drainFirst (order : HoldOrder) (s : State) : s.drains (drainFirst order s) := by
  have hposts : ∀ f, s.drains (s.onPosts f) := fun f => ⟨by simp, rfl, fun h => h, fun _ => rfl⟩
  cases order with
  | supplyFirst => exact refl s
  | heatFirst => exact (hposts _).trans (foldl (fun w v => burnTakesHeat v w) _ _)
  | pumpFirst => exact (hposts _).trans (foldl (fun w v => burnTakesPump v w) _ _)

end State.drains

/-! ## Answers met in the hold (R85, R88, R91, R100) -/

/-- BURN's entry but for the records it has asked, and what waits for their answers. -/
def Burn.parked (b : Burn) : Burn :=
  { b with
    answer := .none, lockoutAsked := false, pressWaiting := false, darkWaiting := false, ackAwaited := false
    proveTimer := none, stoppingLeft := false, owed := [], owedAsked := false, asks := [], abandonWait := none }

/-- A field that stands where the entry but for the records does. -/
theorem parked_field {β : Type} (g : Burn → β) (hg : ∀ b : Burn, g b.parked = g b)
    (h : t.burn.parked = s.burn.parked) : g t.burn = g s.burn := by
  rw [← hg, h, hg]

/-- BURN waits in LOCKED for mains, in the hold. -/
def State.awaitsMains (s : State) : Prop :=
  s.burn.state = .locked ∧ s.burn.lockStep = .awaitMains ∧ s.burnHold = true

/-- From `s` to `t` only the records asked and what waits for them change. -/
def State.parks (s t : State) : Prop := t.hide [.burn] = s.hide [.burn] ∧ t.burn.parked = s.burn.parked

namespace State.parks

theorem refl (s : State) : s.parks s := ⟨rfl, rfl⟩

theorem trans (h : s.parks u) (h' : u.parks t) : s.parks t := ⟨h'.1.trans h.1, h'.2.trans h.2⟩

theorem onBurn {f : Burn → Burn} (hf : (f s.burn).parked = s.burn.parked) : s.parks (s.onBurn f) := ⟨rfl, hf⟩

theorem awaitsMains (h : s.parks t) (hs : s.awaitsMains) : t.awaitsMains := by
  obtain ⟨e, hburn⟩ := h
  obtain ⟨hstate, hstep, hhold⟩ := hs
  have hphase : t.phase = s.phase := by simpa [State.sameAt] using hide_eq_iff.1 e .phase (by decide)
  have hsupply : t.supply = s.supply := hide_eq_iff.1 e .supply (by decide)
  refine ⟨(parked_field Burn.state (fun _ => rfl) hburn).trans hstate,
    (parked_field Burn.lockStep (fun _ => rfl) hburn).trans hstep, ?_⟩
  rw [← hhold]
  unfold State.burnHold
  rw [hphase, hsupply, parked_field (fun b => b.inhibit.supply) (fun _ => rfl) hburn]

theorem foldl {α : Type} {f : State → α → State} (hf : ∀ (v : State) a, v.awaitsMains → v.parks (f v a)) (l : List α)
    (s : State) (hs : s.awaitsMains) : s.parks (l.foldl f s) := by
  induction l generalizing s with
  | nil => exact refl s
  | cons a rest ih => exact (hf s a hs).trans (ih (f s a) ((hf s a hs).awaitsMains hs))

/-- LOCKED with AWAIT_MAINS is entered from itself. -/
theorem awaitMains (hs : s.awaitsMains) : s.parks (awaitMains s) := by
  obtain ⟨hstate, hstep, -⟩ := hs
  have hposts : (burnTo .locked s).hide [.burn] = s.hide [.burn] := by
    unfold burnTo
    dsimp only
    rw [if_pos (by rw [hstate])]
    rfl
  refine ⟨hposts, ?_⟩
  unfold Machine.awaitMains
  rw [onBurn_burn, burnTo_burn]
  simp only [Burn.parked, hstate, hstep]

theorem lockoutRefused (hs : s.awaitsMains) : s.parks (lockoutRefused s) := by
  have hmarked : s.parks (s.onBurn fun b => { b with lockoutAsked := false, answer := .refused }) := onBurn rfl
  have hmains := hmarked.awaitsMains hs
  have ⟨hstate, _, hhold⟩ := hmains
  unfold Machine.lockoutRefused
  dsimp only
  rw [hstate]
  dsimp only
  rw [if_pos hhold]
  exact hmarked.trans (awaitMains hmains)

theorem resetRecordRefused (hs : s.awaitsMains) : s.parks (resetRecordRefused s) := by
  obtain ⟨hstate, -, -⟩ := hs
  unfold Machine.resetRecordRefused
  rw [hstate]
  split
  · exact onBurn rfl
  · rw [if_neg (by simp)]
    exact refl s

theorem ofNewest {n : Nat} {f : State → State} (hf : s.parks (f s)) : s.parks (ofNewest n f s) := by
  unfold Machine.ofNewest
  split
  · exact hf
  · exact refl s

theorem refuseAsk (a : Ask) (hs : s.awaitsMains) : s.parks (refuseAsk s a) := by
  unfold Machine.refuseAsk
  split
  · exact ofNewest (lockoutRefused hs)
  · exact onBurn rfl
  · exact onBurn rfl
  · exact resetRecordRefused hs
  · exact refl s
  · exact resetRecordRefused hs

/-- A refusal moves nothing in the hold. -/
theorem burnAnswer {a : Answer} (ha : a.stored = none) (hs : s.awaitsMains) : s.parks (burnAnswer a s) := by
  unfold Machine.burnAnswer
  rw [ha]
  cases a.tag with
  | lockout n => exact ofNewest (lockoutRefused hs)
  | reset => exact resetRecordRefused hs
  | closing => exact onBurn rfl
  | owed =>
    have hcleared : s.parks (s.onBurn fun b => { b with owedAsked := false, asks := [] }) := onBurn rfl
    exact hcleared.trans (foldl (fun v a hv => refuseAsk a hv) _ _ (hcleared.awaitsMains hs))
  | ack => exact onBurn rfl

end State.parks

/-- Refusals taken in the hold leave BURN waiting for mains, and LINK as it is. -/
theorem settle_refusals (hs : s.awaitsMains) (hrefused : ∀ a ∈ s.store.answers, a.stored = none) :
    (settle s).burn.parked = s.burn.parked ∧ (settle s).link = s.link := by
  have hturns : ∀ (n : Nat) (v : State), v.awaitsMains → (∀ a ∈ v.store.answers, a.stored = none) →
      (takeAnswers n v).burn.parked = v.burn.parked ∧ (takeAnswers n v).link = v.link := by
    intro n
    induction n with
    | zero => exact fun _ _ _ => ⟨rfl, rfl⟩
    | succ n ih =>
      intro v hv hrefused
      unfold takeAnswers
      split
      · exact ⟨rfl, rfl⟩
      · next a rest hanswers =>
        rw [hanswers] at hrefused
        let w := v.onStore fun st => { st with answers := rest }
        have hw : w.awaitsMains := hv
        have hparks : w.parks (burnAnswer a w) := .burnAnswer (hrefused a List.mem_cons_self) hw
        have hstore : (burnAnswer a w).store = w.store := hide_eq_iff.1 hparks.1 .store (by decide)
        have hlink : (burnAnswer a w).link = w.link := hide_eq_iff.1 hparks.1 .link (by decide)
        obtain ⟨hburn, hline⟩ := ih (burnAnswer a w) (hparks.awaitsMains hw) (by
          rw [hstore]
          exact fun x hx => hrefused x (List.mem_cons_of_mem _ hx))
        exact ⟨hburn.trans hparks.2, hline.trans hlink⟩
  exact hturns answerTurns s hs hrefused

end Sys2Proof.Machine
end

section
/-! PROOF. BURN at the beginning of SUPPLY_HOLD (O55), state by state (R80, R100). -/

namespace Sys2Proof.Machine

variable {s t u v w : State}

/-! ## The hold's three steps at BURN -/

/-- The firing time posted, the accumulator stopped and SUPPLY added (R77, R80). -/
def holdTaken (s : State) : State :=
  (runAccumulator false (postFiring s)).onBurn fun b => { b with inhibit := b.inhibit.put true .supply }

/-- The state that the hold leaves (R80, R100). -/
def holdLeaves (s : State) : State :=
  match s.burn.state with
  | .idle => burnTo .inhibited s
  | .called => burnTo .inhibited s
  | .firing => burnTo .inhibited s
  | .satisfied => burnTo .inhibited s
  | .stopping => burnTo .inhibited s
  | .cooldown => awaitMains (s.onBurn fun b => { b with cooldown := none })
  | .resetting => abandonReset s
  | _ => s

/-- The timers stopped, and the task aborted (R80, R99). -/
def holdReleases (s : State) : State :=
  endResetTask .aborted .supply
    (stopOverrun (s.onBurn fun b => { b with ignitionTimer := none, stopTimer := none, stoppingLeft := false }))

theorem burnHoldBegins_eq (s : State) : burnHoldBegins s = holdReleases (holdLeaves (holdTaken s)) := rfl

/-- BURN's entry with the firing time posted. -/
def Burn.taken (b : Burn) : Burn :=
  { b with
    accMs := b.accMs % 1000, totalSeconds := addWrap b.totalSeconds (b.accMs / 1000), accRunning := false
    inhibit := b.inhibit.put true .supply }

theorem holdTaken_burn (s : State) : (holdTaken s).burn = s.burn.taken := by
  have hpost : (postFiring s).burn = { s.burn with
      accMs := s.burn.accMs % 1000, totalSeconds := addWrap s.burn.totalSeconds (s.burn.accMs / 1000) } := by
    unfold postFiring
    dsimp only
    split <;> rfl
  unfold holdTaken runAccumulator
  rw [onBurn_burn, onBurn_burn, hpost]
  rfl

/-- The state and the timers that the hold leaves, by the state it meets (R80, R100). -/
def Burn.holdLeft (b : Burn) : Burn :=
  match b.state with
  | .cooldown => { b with cooldown := none, state := .locked, lockStep := .awaitMains }
  | .resetting => { b with pulseTimer := none, checkTimer := none, state := .locked, lockStep := .awaitMains }
  | .locked => b
  | .held => b
  | .latched => b
  | _ => { b with state := .inhibited }

/-! ## A reset in progress (R100) -/

/-- The reset left, before its OUTCOME record is asked. -/
def resetLeft (s : State) : State :=
  awaitMains ((endPulse s).onBurn fun b =>
    { b with
      checkTimer := none
      asks := b.asks.filter fun a => !decide (a = .resetRecord)
      abandonWait := if s.burn.resetAwaited then some s.burn.resetOrigin else b.abandonWait })

theorem abandonReset_eq (s : State) : abandonReset s =
    if s.burn.resetPhase != .recording then
      askAll [outcomeOf .abandoned (resetLeft s).burn (some s.burn.resetOrigin)] (resetLeft s)
    else resetLeft s := rfl

theorem awaitMains_burn (s : State) : (awaitMains s).burn = { s.burn with
    state := .locked, lockStep := .awaitMains, pressWaiting := false, darkWaiting := false
    stoppingLeft := s.burn.stoppingLeft && (BurnState.locked == .idle || BurnState.locked == .inhibited)
    proveTimer := proveTimerAt s.par.prove s.burn.proofPending s.burn.state .locked s.burn.proveTimer } := by
  unfold awaitMains
  rw [onBurn_burn, burnTo_burn]

theorem endPulse_burn (s : State) : (endPulse s).burn = { s.burn with pulseTimer := none } := by
  unfold endPulse
  dsimp only
  split <;> rfl

theorem resetLeft_burn (s : State) : (resetLeft s).burn.parked = Burn.parked { s.burn with
      pulseTimer := none, checkTimer := none, state := .locked, lockStep := .awaitMains }
    ∧ (resetLeft s).burn.relock = s.burn.relock ∧ (resetLeft s).burn.owed = s.burn.owed
    ∧ (resetLeft s).burn.asks = s.burn.asks.filter (fun a => !decide (a = .resetRecord))
    ∧ (resetLeft s).burn.abandonWait
      = if s.burn.resetAwaited then some s.burn.resetOrigin else s.burn.abandonWait := by
  unfold resetLeft
  rw [awaitMains_burn, onBurn_burn, endPulse_burn]
  exact ⟨rfl, rfl, rfl, rfl, rfl⟩

/-- Records asked that none answers but by a refusal: the entry but for the records stands (R91, R141). -/
theorem askAll_closing (p : Payload) (s : State) : (askAll [.record .closing p] s).burn.parked = s.burn.parked
    ∧ (askAll [.record .closing p] s).hide [.burn, .store, .link, .sett] = s.hide [.burn, .store, .link, .sett]
    ∧ s.store.refusesOnly (askAll [.record .closing p] s).store
    ∧ ∀ n ∈ s.link.notices, n ∈ (askAll [.record .closing p] s).link.notices := by
  have hserved : ∀ (tag : Tag) (q : Payload) (f : Burn → Burn), tag.isLockout = false →
      (f s.burn).parked = s.burn.parked → (askStore tag q (s.onBurn f)).burn.parked = s.burn.parked
      ∧ (askStore tag q (s.onBurn f)).hide [.burn, .store, .link, .sett] = s.hide [.burn, .store, .link, .sett]
      ∧ s.store.refusesOnly (askStore tag q (s.onBurn f)).store
      ∧ ∀ n ∈ s.link.notices, n ∈ (askStore tag q (s.onBurn f)).link.notices := by
    intro tag q f htag hf
    unfold askStore
    rw [htag]
    obtain ⟨e, hstore, hnotices⟩ := State.serves.appendRecord q (some tag) (s.onBurn f)
    have hburn := hide_eq_iff.1 e .burn (by decide)
    refine ⟨?_, ?_, hstore, hnotices⟩
    · change (appendRecord q (some tag) (s.onBurn f)).burn.parked = _
      exact (congrArg Burn.parked hburn).trans hf
    · change (appendRecord q (some tag) (s.onBurn f)).hide _ = _
      simp
  unfold askAll
  split
  · exact hserved .closing p (fun b => b) rfl rfl
  · unfold askOwed
    split
    · split
      · exact ⟨rfl, by simp, .refl _, fun _ h => h⟩
      · exact hserved .owed _ (fun b => { b with asks := b.asks ++ [.record .closing p], owedAsked := true }) rfl rfl
    · exact ⟨rfl, by simp, .refl _, fun _ h => h⟩

/-! ## The state left -/

theorem holdLeaves_parked (s : State) : (holdLeaves s).burn.parked = s.burn.holdLeft.parked := by
  unfold holdLeaves Burn.holdLeft
  cases hstate : s.burn.state with
  | idle | called | firing | satisfied | stopping =>
    dsimp only
    rw [burnTo_burn]
    rfl
  | inhibited =>
    dsimp only
    rw [← hstate]
  | cooldown =>
    dsimp only
    rw [awaitMains_burn]
    rfl
  | resetting =>
    obtain ⟨hparked, -⟩ := resetLeft_burn s
    dsimp only
    rw [abandonReset_eq]
    split
    · obtain ⟨hasked, -⟩ := askAll_closing (.outcome .abandoned (resetLeft s).burn.relock (some s.burn.resetOrigin))
        (resetLeft s)
      exact hasked.trans hparked
    · exact hparked
  | locked | held | latched => rfl

/-- STORE is asked nothing but where a reset with its RESET record stored is left (R100). -/
theorem holdLeaves_store (h : s.burn.state = .resetting → s.burn.resetPhase = .recording) :
    (holdLeaves s).hide [.burn, .posts] = s.hide [.burn, .posts] := by
  unfold holdLeaves
  split
  case h_7 hstate =>
    rw [abandonReset_eq, h hstate]
    unfold resetLeft
    simp
  all_goals simp

/-- What LINK has shown stands, and STORE's answers are refusals. -/
theorem holdLeaves_serves (s : State) : s.store.refusesOnly (holdLeaves s).store
    ∧ ∀ n ∈ s.link.notices, n ∈ (holdLeaves s).link.notices := by
  by_cases hasks : s.burn.state = .resetting → s.burn.resetPhase = .recording
  · have e := holdLeaves_store hasks
    have hstore : (holdLeaves s).store = s.store := hide_eq_iff.1 e .store (by decide)
    have hlink : (holdLeaves s).link = s.link := hide_eq_iff.1 e .link (by decide)
    rw [hstore, hlink]
    exact ⟨.refl _, fun _ h => h⟩
  · obtain ⟨hstate, hphase⟩ := Classical.not_imp.1 hasks
    have hleft : (resetLeft s).hide [.burn, .posts] = s.hide [.burn, .posts] := by
      unfold resetLeft
      simp
    have hstore : (resetLeft s).store = s.store := hide_eq_iff.1 hleft .store (by decide)
    have hlink : (resetLeft s).link = s.link := hide_eq_iff.1 hleft .link (by decide)
    obtain ⟨-, -, hserves, hnotices⟩ :=
      askAll_closing (.outcome .abandoned (resetLeft s).burn.relock (some s.burn.resetOrigin)) (resetLeft s)
    rw [hstore] at hserves
    rw [hlink] at hnotices
    have hasked : holdLeaves s = askAll [.record .closing
        (.outcome .abandoned (resetLeft s).burn.relock (some s.burn.resetOrigin))] (resetLeft s) := by
      unfold holdLeaves
      rw [hstate]
      dsimp only
      rw [abandonReset_eq, if_pos (by simpa using hphase)]
      rfl
    rw [hasked]
    exact ⟨hserves, hnotices⟩

/-! ## The release -/

/-- BURN's entry but for what the release stops. -/
def Burn.released (b : Burn) : Burn :=
  { b with
    ignitionTimer := none, stopTimer := none, stoppingLeft := false, overrun := false, overrunTimer := none
    task := none, proofLimit := none }

theorem holdReleases_burn (s : State) : (holdReleases s).burn.released = s.burn.released
    ∧ (holdReleases s).burn.ignitionTimer = none ∧ (holdReleases s).burn.stopTimer = none
    ∧ (holdReleases s).burn.overrun = false ∧ (holdReleases s).burn.task = none := by
  have hend : ∀ (o : TaskOutcome) (r : ReasonCode) (x : State), (endTask o r 0 x).burn = x.burn := fun o r x =>
    hide_eq_iff.1 (hide_endTask o r 0 x (by decide) : _ = x.hide [.link]) .burn (by decide)
  have hstopped : ∀ x : State, (stopOverrun x).burn.released = x.burn.released
      ∧ (stopOverrun x).burn.ignitionTimer = x.burn.ignitionTimer
      ∧ (stopOverrun x).burn.stopTimer = x.burn.stopTimer ∧ (stopOverrun x).burn.overrun = false := fun x => by
    unfold stopOverrun
    split
    · exact ⟨rfl, rfl, rfl, rfl⟩
    · next h => exact ⟨rfl, rfl, rfl, Bool.eq_false_iff.2 h⟩
  unfold holdReleases endResetTask
  obtain ⟨hreleased, hignition, hstop, hoverrun⟩ := hstopped (s.onBurn fun b =>
    { b with ignitionTimer := none, stopTimer := none, stoppingLeft := false })
  generalize stopOverrun _ = x at *
  split
  · rw [hend]
    exact ⟨hreleased, hignition, hstop, hoverrun, rfl⟩
  · next htask => exact ⟨hreleased, hignition, hstop, hoverrun, Option.not_isSome_iff_eq_none.1 htask⟩

theorem holdReleases_hide (s : State) :
    (holdReleases s).hide [.burn, .link, .posts] = s.hide [.burn, .link, .posts] := by
  unfold holdReleases
  simp

/-- The task in the slot ends ABORTED with reason SUPPLY (R99). -/
theorem holdReleases_task {k : TaskKind} {serial : Nat} (htask : s.burn.task ≠ none)
    (hslot : s.link.slot = some (k, serial)) : (holdReleases s).taskEnded k serial .aborted .supply := by
  have e : ∀ x : State, (stopOverrun x).hide [.burn, .posts] = x.hide [.burn, .posts] := fun x => by simp
  have hx : ∀ x : State, (stopOverrun x).burn.task = x.burn.task := fun x =>
    steady_field Burn.task (fun _ => rfl) (stopOverrun_steady x)
  have hlink : ∀ x : State, (stopOverrun x).link = x.link := fun x => hide_eq_iff.1 (e x) .link (by decide)
  have hsome : (stopOverrun (s.onBurn fun b =>
      { b with ignitionTimer := none, stopTimer := none, stoppingLeft := false })).burn.task.isSome = true := by
    rw [hx]
    exact Option.isSome_iff_ne_none.2 htask
  unfold holdReleases endResetTask
  rw [if_pos hsome]
  have hkept := endTask_link (s := (stopOverrun (s.onBurn fun b =>
      { b with ignitionTimer := none, stopTimer := none, stoppingLeft := false })).onBurn fun b =>
      { b with task := none, proofLimit := none }) (k := k) (serial := serial)
    ((congrArg Link.slot (hlink _)).trans hslot) .aborted .supply 0
  unfold State.taskEnded
  rw [hkept]
  exact ⟨rfl, rfl, mem_insertNotice.2 (.inl rfl)⟩

theorem holdReleases_notices {n : Notice} (h : n ∈ s.link.notices) : n ∈ (holdReleases s).link.notices := by
  have hlink : ∀ x : State, (stopOverrun x).link = x.link := fun x =>
    hide_eq_iff.1 (hide_stopOverrun x (by decide) (by decide) : _ = x.hide [.burn, .posts]) .link (by decide)
  have hstopped : n ∈ (stopOverrun (s.onBurn fun b =>
      { b with ignitionTimer := none, stopTimer := none, stoppingLeft := false })).link.notices := by
    rw [hlink]
    exact h
  unfold holdReleases endResetTask
  split
  · exact endTask_notices _ _ _ hstopped
  · exact hstopped

end Sys2Proof.Machine
end

section
/-! PROOF. MAINS_OK falls and rises (O55). -/

namespace Sys2Proof.Machine

variable {s t u v w : State}

/-! ## BURN, with the answers taken -/

theorem holdTaken_hide (s : State) : (holdTaken s).hide [.burn, .gauge, .fuel] = s.hide [.burn, .gauge, .fuel] := by
  unfold holdTaken runAccumulator
  simp

/-- What STORE and LINK have when the hold has been taken. -/
theorem holdTaken_parts (s : State) : (holdTaken s).store = s.store ∧ (holdTaken s).link = s.link :=
  ⟨hide_eq_iff.1 (holdTaken_hide s) .store (by decide), hide_eq_iff.1 (holdTaken_hide s) .link (by decide)⟩

theorem burnHoldBegins_store (s : State) :
    (burnHoldBegins s).store = (holdLeaves (holdTaken s)).store := by
  rw [burnHoldBegins_eq]
  exact hide_eq_iff.1 (holdReleases_hide _) .store (by decide)

/-- A field that neither the records asked nor the release touch. -/
theorem burnHoldBegins_field {β : Type} (g : Burn → β) (hp : ∀ b : Burn, g b.parked = g b)
    (hr : ∀ b : Burn, g b.released = g b) : g (burnHoldBegins s).burn = g s.burn.taken.holdLeft := by
  obtain ⟨hreleased, -⟩ := holdReleases_burn (holdLeaves (holdTaken s))
  have hleft := holdLeaves_parked (holdTaken s)
  rw [holdTaken_burn] at hleft
  rw [burnHoldBegins_eq, ← hr, hreleased, hr, ← hp, hleft, hp]

/-- No record is asked at the hold's beginning, but by a reset past its RESET record (R100). -/
theorem burnHoldBegins_unasked (h : s.burn.state = .resetting → s.burn.resetPhase = .recording) :
    (burnHoldBegins s).store = s.store ∧ (holdLeaves (holdTaken s)).link = s.link := by
  have e := holdLeaves_store (s := holdTaken s) (by
    rw [holdTaken_burn]
    exact h)
  obtain ⟨hstore, hlink⟩ := holdTaken_parts s
  rw [burnHoldBegins_store]
  exact ⟨(hide_eq_iff.1 e .store (by decide)).trans hstore, (hide_eq_iff.1 e .link (by decide)).trans hlink⟩

theorem holdLeft_resetting {b : Burn} (h : b.state = .resetting) : b.taken.holdLeft = { b.taken with
    pulseTimer := none, checkTimer := none, state := .locked, lockStep := .awaitMains } := by
  have htaken : b.taken.state = .resetting := h
  unfold Burn.holdLeft
  rw [htaken]

/-- The answers met at the hold's beginning leave BURN's entry but for the records, and LINK. -/
theorem settle_holdBegins (hburning : s.burnActive = true) (hhold : s.supply.hold = true)
    (hanswers : s.store.answers = []) :
    (settle (burnHoldBegins s)).burn.parked = (burnHoldBegins s).burn.parked
      ∧ (settle (burnHoldBegins s)).link = (burnHoldBegins s).link := by
  by_cases hasks : s.burn.state = .resetting → s.burn.resetPhase = .recording
  · obtain ⟨hstore, -⟩ := burnHoldBegins_unasked hasks
    rw [settle_without_answers _ (by rw [hstore]; exact hanswers)]
    exact ⟨rfl, rfl⟩
  · obtain ⟨hstate, -⟩ := Classical.not_imp.1 hasks
    have hleft := holdLeft_resetting hstate
    have e : (burnHoldBegins s).hide [.burn, .gauge, .fuel, .store, .link, .sett, .posts]
        = s.hide [.burn, .gauge, .fuel, .store, .link, .sett, .posts] := by simp
    have hactive := (burnActive_of_hide _ e (by decide)).trans hburning
    have hsupply : (burnHoldBegins s).supply = s.supply := hide_eq_iff.1 e .supply (by decide)
    refine settle_refusals ⟨?_, ?_, ?_⟩ ?_
    · exact (burnHoldBegins_field Burn.state (fun _ => rfl) fun _ => rfl).trans (by rw [hleft])
    · exact (burnHoldBegins_field Burn.lockStep (fun _ => rfl) fun _ => rfl).trans (by rw [hleft])
    · rw [burnHold_of_burnActive hactive, hsupply, hhold]
    · obtain ⟨⟨-, l, hrefused, hl⟩, -⟩ := holdLeaves_serves (holdTaken s)
      obtain ⟨hstore, -⟩ := holdTaken_parts s
      rw [burnHoldBegins_store, hrefused, hstore, hanswers]
      exact hl

/-- What the hold has left of BURN once the answers are taken. -/
theorem settled_field {β : Type} (g : Burn → β) (hp : ∀ b : Burn, g b.parked = g b)
    (hr : ∀ b : Burn, g b.released = g b) (hburning : s.burnActive = true) (hhold : s.supply.hold = true)
    (hanswers : s.store.answers = []) : g (settle (burnHoldBegins s)).burn = g s.burn.taken.holdLeft := by
  obtain ⟨hparked, -⟩ := settle_holdBegins hburning hhold hanswers
  exact (parked_field g hp hparked).trans (burnHoldBegins_field g hp hr)

theorem holdLeft_kept (b : Burn) : b.taken.holdLeft.inhibit = b.inhibit.put true .supply
    ∧ b.taken.holdLeft.accRunning = false ∧ b.taken.holdLeft.accMs = b.accMs % 1000
    ∧ b.taken.holdLeft.relock = b.relock ∧ b.taken.holdLeft.window = b.window ∧ b.taken.holdLeft.task = b.task := by
  unfold Burn.holdLeft
  split <;> exact ⟨rfl, rfl, rfl, rfl, rfl, rfl⟩

/-- The reset left, before its OUTCOME record is asked, leaves STORE and LINK (R100). -/
theorem resetLeft_parts (s : State) : (resetLeft s).store = s.store ∧ (resetLeft s).link = s.link := by
  have e : (resetLeft s).hide [.burn, .posts] = s.hide [.burn, .posts] := by
    unfold resetLeft
    simp
  exact ⟨hide_eq_iff.1 e .store (by decide), hide_eq_iff.1 e .link (by decide)⟩

/-- A reset left with its RESET record stored asks a ready STORE for its OUTCOME record (R100). -/
theorem holdLeaves_asks (hstate : s.burn.state = .resetting) (hphase : s.burn.resetPhase ≠ .recording)
    (hclear : s.recordsClear) : holdLeaves s = { resetLeft s with
      store := s.store.appending (.outcome .abandoned s.burn.relock (some s.burn.resetOrigin)) (some .closing) } := by
  obtain ⟨hready, howed, hasks⟩ := hclear
  obtain ⟨-, hrelock, howed', hasks', -⟩ := resetLeft_burn s
  obtain ⟨hstore, -⟩ := resetLeft_parts s
  unfold holdLeaves
  rw [hstate]
  dsimp only
  rw [abandonReset_eq, if_pos (by simpa using hphase), askAll_clear (howed'.trans howed) (by rw [hasks', hasks]; rfl)]
  change askStore .closing (.outcome .abandoned (resetLeft s).burn.relock (some s.burn.resetOrigin)) (resetLeft s) = _
  rw [askStore_ready rfl _ (by rw [hstore]; exact hready), hstore, hrelock]

/-- The burner's part of the hold's beginning (R80, R99, R100). -/
structure State.holdsBurn (s t : State) : Prop where
  inhibit : t.burn.inhibit.supply = true
  timers : t.burn.ignitionTimer = none ∧ t.burn.stopTimer = none ∧ t.burn.overrun = false
  accumulator : t.burn.accRunning = false ∧ t.burn.accMs < 1000
  task : t.burn.task = none
  ended : ∀ k serial, s.burn.task ≠ none → s.link.slot = some (k, serial) →
    (s.burn.state = .resetting → s.recordsClear) → t.taskEnded k serial .aborted .supply
  normal : s.burn.state.normal = true → t.burn.state = .inhibited
  locked : s.burn.state = .locked → t.burn.state = .locked ∧ t.burn.lockStep = s.burn.lockStep
  held : s.burn.state = .held → t.burn.state = .held
  latched : s.burn.state = .latched → t.burn.state = .latched
  cooldown : s.burn.state = .cooldown → t.burn.state = .locked ∧ t.burn.lockStep = .awaitMains
    ∧ t.burn.cooldown = none ∧ t.burn.answer = s.burn.answer
  resetting : s.burn.state = .resetting → t.burn.state = .locked ∧ t.burn.lockStep = .awaitMains
    ∧ t.burn.pulseTimer = none ∧ t.burn.checkTimer = none ∧ t.burn.relock = s.burn.relock
    ∧ t.burn.window = s.burn.window
    ∧ (s.burn.resetPhase ≠ .recording → s.recordsClear → t.store = s.store.appending
      (.outcome .abandoned s.burn.relock (some s.burn.resetOrigin)) (some .closing))
    ∧ (s.burn.resetPhase = .recording → s.burn.lockoutOwed = false →
      s.burn.asks = [] → t.burn.abandonWait = some s.burn.resetOrigin)

/-- With nothing asked of STORE there is nothing to take. -/
theorem settle_unasked (h : s.burn.state = .resetting → s.burn.resetPhase = .recording)
    (hanswers : s.store.answers = []) : settle (burnHoldBegins s) = burnHoldBegins s := by
  obtain ⟨hstore, -⟩ := burnHoldBegins_unasked h
  exact settle_without_answers _ (by rw [hstore]; exact hanswers)

/-- A field that stands where the entry but for what the release stops does. -/
theorem released_field {β : Type} (g : Burn → β) (hg : ∀ b : Burn, g b.released = g b)
    (h : t.burn.released = s.burn.released) : g t.burn = g s.burn := by
  rw [← hg, h, hg]

/-- A clear record keeping is still clear when the hold has been taken. -/
theorem holdTaken_clear (h : s.recordsClear) : (holdTaken s).recordsClear := by
  obtain ⟨hstore, -⟩ := holdTaken_parts s
  unfold State.recordsClear
  rw [hstore, holdTaken_burn]
  exact h

/-- LINK at the release, where no record is asked but of a clear record keeping. -/
theorem holdLeaves_link (h : s.burn.state = .resetting → s.recordsClear) :
    (holdLeaves (holdTaken s)).link = s.link := by
  by_cases hasks : s.burn.state = .resetting → s.burn.resetPhase = .recording
  · exact (burnHoldBegins_unasked hasks).2
  · obtain ⟨hstate, hphase⟩ := Classical.not_imp.1 hasks
    rw [holdLeaves_asks (by rw [holdTaken_burn]; exact hstate) (by rw [holdTaken_burn]; exact hphase)
      (holdTaken_clear (h hstate))]
    exact (resetLeft_parts _).2.trans (holdTaken_parts s).2

/-- The task in the slot ends at the hold's beginning (R99). -/
theorem burnHoldBegins_task {k : TaskKind} {serial : Nat} (htask : s.burn.task ≠ none)
    (hslot : s.link.slot = some (k, serial)) (hclear : s.burn.state = .resetting → s.recordsClear) :
    (burnHoldBegins s).taskEnded k serial .aborted .supply := by
  have hleft := parked_field Burn.task (fun _ => rfl) (t := holdLeaves (holdTaken s))
    (s := { s with burn := s.burn.taken.holdLeft }) (by rw [holdLeaves_parked, holdTaken_burn])
  obtain ⟨-, -, -, -, -, hkept⟩ := holdLeft_kept s.burn
  rw [burnHoldBegins_eq]
  refine holdReleases_task ?_ ?_
  · rw [hleft]
    change s.burn.taken.holdLeft.task ≠ none
    rw [hkept]
    exact htask
  · rw [holdLeaves_link hclear]
    exact hslot

/-- The OUTCOME record of a reset left with its RESET record stored (R100). -/
theorem settle_holdBegins_outcome (hstate : s.burn.state = .resetting) (hphase : s.burn.resetPhase ≠ .recording)
    (hclear : s.recordsClear) : (settle (burnHoldBegins s)).store = s.store.appending
      (.outcome .abandoned s.burn.relock (some s.burn.resetOrigin)) (some .closing) := by
  have hstore : (burnHoldBegins s).store = s.store.appending
      (.outcome .abandoned s.burn.relock (some s.burn.resetOrigin)) (some .closing) := by
    rw [burnHoldBegins_store, holdLeaves_asks (by rw [holdTaken_burn]; exact hstate)
      (by rw [holdTaken_burn]; exact hphase) (holdTaken_clear hclear), holdTaken_burn, (holdTaken_parts s).1]
    rfl
  obtain ⟨⟨-, -, hanswers, -⟩, -⟩ := hclear
  rw [settle_without_answers _ (by rw [hstore]; exact hanswers), hstore]

/-- A RESET record still awaited when the hold leaves RECORDING (R100). -/
theorem settle_holdBegins_awaited (hstate : s.burn.state = .resetting) (hphase : s.burn.resetPhase = .recording)
    (howed : s.burn.lockoutOwed = false) (hasks : s.burn.asks = []) (hanswers : s.store.answers = []) :
    (settle (burnHoldBegins s)).burn.abandonWait = some s.burn.resetOrigin := by
  obtain ⟨hreleased, -⟩ := holdReleases_burn (holdLeaves (holdTaken s))
  obtain ⟨-, -, -, -, hwait⟩ := resetLeft_burn (holdTaken s)
  have hkept : (burnHoldBegins s).burn.abandonWait = (holdLeaves (holdTaken s)).burn.abandonWait :=
    released_field Burn.abandonWait (fun _ => rfl) hreleased
  have htaken : (holdTaken s).burn.state = .resetting ∧ (holdTaken s).burn.resetPhase = .recording := by
    rw [holdTaken_burn]
    exact ⟨hstate, hphase⟩
  have hleft : holdLeaves (holdTaken s) = resetLeft (holdTaken s) := by
    unfold holdLeaves
    rw [htaken.1]
    dsimp only
    rw [abandonReset_eq, htaken.2]
    rfl
  have hawaited : s.burn.taken.resetAwaited = true := by
    change s.burn.resetAwaited = true
    unfold Burn.resetAwaited
    rw [hstate, hphase, howed, hasks]
    rfl
  rw [settle_unasked (fun _ => hphase) hanswers, hkept, hleft, hwait, holdTaken_burn, hawaited]
  rfl

/-- A COOLDOWN keeps its LOCKOUT answer (R100; log entry 70). -/
theorem settle_holdBegins_answer (hstate : s.burn.state = .cooldown) (hanswers : s.store.answers = []) :
    (settle (burnHoldBegins s)).burn.answer = s.burn.answer := by
  obtain ⟨hreleased, -⟩ := holdReleases_burn (holdLeaves (holdTaken s))
  have hkept : (burnHoldBegins s).burn.answer = (holdLeaves (holdTaken s)).burn.answer :=
    released_field Burn.answer (fun _ => rfl) hreleased
  have htaken : (holdTaken s).burn.state = .cooldown := by
    rw [holdTaken_burn]
    exact hstate
  have hleft : holdLeaves (holdTaken s) = awaitMains ((holdTaken s).onBurn fun b => { b with cooldown := none }) := by
    unfold holdLeaves
    rw [htaken]
  rw [settle_unasked (fun h => by rw [hstate] at h; cases h) hanswers, hkept, hleft, awaitMains_burn, onBurn_burn,
    holdTaken_burn]
  rfl

theorem settle_holdBegins_burn (hburning : s.burnActive = true) (hhold : s.supply.hold = true)
    (hanswers : s.store.answers = []) : s.holdsBurn (settle (burnHoldBegins s)) := by
  obtain ⟨hparked, hlink⟩ := settle_holdBegins hburning hhold hanswers
  obtain ⟨-, hignition, hstop, hoverrun, htask⟩ := holdReleases_burn (holdLeaves (holdTaken s))
  rw [← burnHoldBegins_eq] at hignition hstop hoverrun htask
  obtain ⟨hinhibit, hrunning, hms, hrelock, hwindow, -⟩ := holdLeft_kept s.burn
  have field {β : Type} (g : Burn → β) (hp : ∀ b : Burn, g b.parked = g b) (hr : ∀ b : Burn, g b.released = g b) :
      g (settle (burnHoldBegins s)).burn = g s.burn.taken.holdLeft := settled_field g hp hr hburning hhold hanswers
  have hstate := field Burn.state (fun _ => rfl) fun _ => rfl
  have hstep := field Burn.lockStep (fun _ => rfl) fun _ => rfl
  have hinhibit' := field Burn.inhibit (fun _ => rfl) fun _ => rfl
  have hrunning' := field Burn.accRunning (fun _ => rfl) fun _ => rfl
  have hms' := field Burn.accMs (fun _ => rfl) fun _ => rfl
  have hrelock' := field Burn.relock (fun _ => rfl) fun _ => rfl
  have hwindow' := field Burn.window (fun _ => rfl) fun _ => rfl
  have hcooldown := field Burn.cooldown (fun _ => rfl) fun _ => rfl
  have hpulse := field Burn.pulseTimer (fun _ => rfl) fun _ => rfl
  have hcheck := field Burn.checkTimer (fun _ => rfl) fun _ => rfl
  have hleft : ∀ x : BurnState, s.burn.state = x →
      s.burn.taken.holdLeft = Burn.holdLeft { s.burn.taken with state := x } :=
    fun x hx => by rw [← hx]; rfl
  obtain ⟨htstore, htlink⟩ := holdTaken_parts s
  refine ⟨?_, ⟨?_, ?_, ?_⟩, ⟨hrunning'.trans hrunning, ?_⟩, ?_,
    fun k serial hask hslot hclear => ?_, fun hn => ?_, fun hs => ?_, fun hs => ?_,
    fun hs => ?_, fun hs => ?_, fun hs => ?_⟩
  · rw [hinhibit', hinhibit]
    rfl
  · exact (parked_field Burn.ignitionTimer (fun _ => rfl) hparked).trans hignition
  · exact (parked_field Burn.stopTimer (fun _ => rfl) hparked).trans hstop
  · exact (parked_field Burn.overrun (fun _ => rfl) hparked).trans hoverrun
  · rw [hms', hms]
    exact Nat.mod_lt _ (by decide)
  · exact (parked_field Burn.task (fun _ => rfl) hparked).trans htask
  · have hended := burnHoldBegins_task hask hslot hclear
    unfold State.taskEnded
    rw [hlink]
    exact hended
  · rw [hstate]
    cases hs : s.burn.state with
    | idle | inhibited | called | firing | satisfied | stopping =>
      rw [hleft _ hs]
      rfl
    | locked | cooldown | resetting | held | latched =>
      rw [hs] at hn
      cases hn
  · rw [hstate, hstep, hleft _ hs]
    exact ⟨rfl, rfl⟩
  · rw [hstate, hleft _ hs]
    rfl
  · rw [hstate, hleft _ hs]
    rfl
  · rw [hstate, hstep, hcooldown, hleft _ hs]
    exact ⟨rfl, rfl, rfl, settle_holdBegins_answer hs hanswers⟩
  · rw [hstate, hstep, hpulse, hcheck, hrelock', hrelock, hwindow', hwindow, hleft _ hs]
    exact ⟨rfl, rfl, rfl, rfl, rfl, rfl, settle_holdBegins_outcome hs,
      fun hphase howed hasks => settle_holdBegins_awaited hs hphase howed hasks hanswers⟩

/-- The hold begins for BURN as it was before what reached it first (log entry 10). -/
theorem State.holdsBurn.of_drains (h : s.drains v) (ht : v.holdsBurn t) : s.holdsBurn t := by
  have field {β : Type} (g : Burn → β) (hg : ∀ b : Burn, g b.recovery = g b) : g v.burn = g s.burn := by
    rw [← hg, h.recovery, hg]
  have hstore : v.store = s.store := hide_eq_iff.1 h.hide .store (by decide)
  have hlink : v.link = s.link := hide_eq_iff.1 h.hide .link (by decide)
  have hclear : s.recordsClear → v.recordsClear := by
    unfold State.recordsClear
    rw [hstore, field Burn.owed fun _ => rfl, field Burn.asks fun _ => rfl]
    exact fun h => h
  have hsame : ∀ x : BurnState, x.normal = false → s.burn.state = x → v.burn.state = x := fun x hx hs =>
    (h.other (by rw [hs, hx])).trans hs
  have hback : v.burn.state = .resetting → s.burn.state = .resetting := fun hv => by
    cases hs : s.burn.state.normal with
    | true =>
      have hn := h.normal hs
      rw [hv] at hn
      cases hn
    | false => exact (h.other hs).symm.trans hv
  have htask := field Burn.task fun _ => rfl
  have hstep := field Burn.lockStep fun _ => rfl
  have hanswer := field Burn.answer fun _ => rfl
  have hrelock := field Burn.relock fun _ => rfl
  have hwindow := field Burn.window fun _ => rfl
  have horigin := field Burn.resetOrigin fun _ => rfl
  have hphase := field Burn.resetPhase fun _ => rfl
  have howed := field Burn.lockoutOwed fun _ => rfl
  have hasks := field Burn.asks fun _ => rfl
  obtain ⟨hinhibit, htimers, haccumulator, hnone, hended, hnormal, hlocked, hheld, hlatched, hcooldown,
    hresetting⟩ := ht
  rw [htask, hlink] at hended
  rw [hstep] at hlocked
  rw [hanswer] at hcooldown
  rw [hrelock, hwindow, hstore, horigin, hphase, howed, hasks] at hresetting
  refine ⟨hinhibit, htimers, haccumulator, hnone,
    fun k serial hask hslot hc => hended k serial hask hslot fun hv => hclear (hc (hback hv)),
    fun hs => hnormal (h.normal hs), fun hs => hlocked (hsame _ rfl hs), fun hs => hheld (hsame _ rfl hs),
    fun hs => hlatched (hsame _ rfl hs), fun hs => hcooldown (hsame _ rfl hs), fun hs => ?_⟩
  obtain ⟨hst, hls, hpulse, hcheck, hrl, hwd, hstored, hwait⟩ := hresetting (hsame _ rfl hs)
  exact ⟨hst, hls, hpulse, hcheck, hrl, hwd, fun hp hc => hstored hp (hclear hc), hwait⟩

end Sys2Proof.Machine
end

section
/-! PROOF. MAINS_OK falls and rises (O55): the blocks of Table 9-2 together. -/

namespace Sys2Proof.Machine

variable {s t u v w : State}

/-- An edge of MAINS_OK once SUPPLY has taken the input's first level (R153). -/
theorem edge_mainsOk {v : Bool} {act : State → State} (hactive : s.supplyActive = true)
    (hlevel : s.inputs.mainsOk = some (!v)) :
    edge .mainsOk v act s = act (s.onInputs fun i => { i with mainsOk := some v }) := by
  have huntaken : s.untaken .mainsOk = false ∧ s.debouncing = true := by
    revert hactive
    unfold State.supplyActive State.untaken State.debouncing
    cases s.phase <;> decide
  unfold edge
  rw [huntaken.1, huntaken.2, Inputs.level, hlevel]
  simp [setLevel, Inputs.setLevel]

/-- Only the metered fuel of GAUGE moves with the firing time posted (R112, R123). -/
theorem burnHoldBegins_gauge (s : State) :
    (burnHoldBegins s).gauge = { s.gauge with metered := (burnHoldBegins s).gauge.metered } := by
  have hposted : (postFiring s).gauge = { s.gauge with metered := (postFiring s).gauge.metered } := by
    unfold postFiring
    dsimp only
    split <;> rfl
  have e : (burnHoldBegins s).hide [.burn, .store, .link, .sett, .posts]
      = (postFiring s).hide [.burn, .store, .link, .sett, .posts] := by
    rw [burnHoldBegins_eq]
    have hleaves : ∀ x : State, (holdLeaves x).hide [.burn, .store, .link, .sett, .posts]
        = x.hide [.burn, .store, .link, .sett, .posts] := fun x => by
      unfold holdLeaves
      split <;> simp
    have hreleases : ∀ x : State, (holdReleases x).hide [.burn, .store, .link, .sett, .posts]
        = x.hide [.burn, .store, .link, .sett, .posts] := fun x =>
      hide_of_subset (by decide) (holdReleases_hide x)
    rw [hreleases, hleaves]
    unfold holdTaken runAccumulator
    simp
  have hgauge : (burnHoldBegins s).gauge = (postFiring s).gauge := hide_eq_iff.1 e .gauge (by decide)
  rw [hgauge]
  exact hposted

/-- The hold begins for BURN as it stands where its entry, STORE and the slot stand. -/
theorem State.holdsBurn.of_same (hburn : v.burn = s.burn) (hstore : v.store = s.store)
    (hslot : v.link.slot = s.link.slot) (h : v.holdsBurn t) : s.holdsBurn t := by
  obtain ⟨hinhibit, htimers, haccumulator, hnone, hended, hnormal, hlocked, hheld, hlatched, hcooldown, hresetting⟩ := h
  have hclear : v.recordsClear = s.recordsClear := by
    unfold State.recordsClear
    rw [hburn, hstore]
  rw [hburn, hslot, hclear] at hended
  rw [hburn] at hnormal hlocked hheld hlatched hcooldown
  rw [hburn, hstore, hclear] at hresetting
  exact ⟨hinhibit, htimers, haccumulator, hnone, hended, hnormal, hlocked, hheld, hlatched, hcooldown, hresetting⟩

/-- What SUPPLY's telling, and its answers, leave from the state `s` in which it is told (R156; log entry 83). -/
structure State.holdTold (s t : State) : Prop where
  inputs : t.inputs = { s.inputs with held := if s.burnActive then s.inputs.held else s.inputs.held ++ [.hold true] }
  gauge : t.gauge = { s.gauge with metered := t.gauge.metered }
  notices : ∀ n ∈ s.link.notices, n ∈ t.link.notices
  same : t.hide [.inputs, .burn, .gauge, .fuel, .store, .link, .sett, .posts]
    = s.hide [.inputs, .burn, .gauge, .fuel, .store, .link, .sett, .posts]
  burn : s.burnActive = true → s.holdsBurn t

theorem tellBurn_holdTold (order : HoldOrder) (hhold : s.supply.hold = true) (hanswers : s.store.answers = []) :
    s.holdTold (settle (tellBurn true (burnTakesHold order) s)) := by
  by_cases hburning : s.burnActive = true
  · have hdrains := State.drains.drainFirst order s
    have htold : tellBurn true (burnTakesHold order) s = burnHoldBegins (drainFirst order s) := if_pos hburning
    rw [htold]
    generalize drainFirst order s = v at *
    have hactive : v.burnActive = true := (burnActive_of_hide _ hdrains.hide (by decide)).trans hburning
    have hsupply : v.supply = s.supply := hide_eq_iff.1 hdrains.hide .supply (by decide)
    have hstore : v.store = s.store := hide_eq_iff.1 hdrains.hide .store (by decide)
    have hlink : v.link = s.link := hide_eq_iff.1 hdrains.hide .link (by decide)
    have hgauge : v.gauge = s.gauge := hide_eq_iff.1 hdrains.hide .gauge (by decide)
    have hhold' : v.supply.hold = true := by rw [hsupply]; exact hhold
    have hanswers' : v.store.answers = [] := by rw [hstore]; exact hanswers
    obtain ⟨-, htlink⟩ := settle_holdBegins hactive hhold' hanswers'
    have hsettled : (settle (burnHoldBegins v)).gauge = (burnHoldBegins v).gauge :=
      hide_eq_iff.1 (hide_settle _ (by decide) (by decide) (by decide) (by decide) (by decide) :
        _ = (burnHoldBegins v).hide [.burn, .store, .link, .sett, .posts]) .gauge (by decide)
    have esame : (settle (burnHoldBegins v)).hide [.burn, .gauge, .fuel, .store, .link, .sett, .posts]
        = s.hide [.burn, .gauge, .fuel, .store, .link, .sett, .posts] := by
      refine Eq.trans (by simp) (hide_of_subset (F := [.burn, .posts]) (by decide) hdrains.hide)
    refine ⟨?_, ?_, fun n hn => ?_, hide_of_subset (by decide) esame, fun _ =>
      .of_drains hdrains (settle_holdBegins_burn hactive hhold' hanswers')⟩
    · rw [if_pos hburning]
      exact hide_eq_iff.1 esame .inputs (by decide)
    · rw [hsettled, ← hgauge]
      exact burnHoldBegins_gauge v
    · obtain ⟨-, hnotices⟩ := holdLeaves_serves (holdTaken v)
      rw [htlink, burnHoldBegins_eq]
      refine holdReleases_notices (hnotices n ?_)
      rw [(holdTaken_parts v).2, hlink]
      exact hn
  · have htold := tellBurn_before true (burnTakesHold order) (Bool.eq_false_iff.2 hburning)
    have hsettled := settle_without_answers (s.onInputs fun i => { i with held := i.held ++ [.hold true] }) hanswers
    rw [htold, hsettled]
    exact ⟨by rw [if_neg hburning]; rfl, rfl, fun _ h => h, by simp, fun h => absurd h hburning⟩

/-- OUT, ZONE and GAUGE have taken the beginning of the hold (R36, R61, R121). -/
def plantHeld (s : State) : State := (s |> outHoldBegins |> zonesHoldBegins).onGauge Gauge.holdBegins

theorem plantHeld_hide (s : State) :
    (plantHeld s).hide [.out, .loop, .zone, .gauge, .posts] = s.hide [.out, .loop, .zone, .gauge, .posts] := by
  unfold plantHeld
  simp

/-- OUT, ZONE and GAUGE at the beginning of the hold (R36, R61, R121). -/
theorem plantHeld_parts (s : State) : (plantHeld s).out = (outHoldBegins s).out
    ∧ (plantHeld s).zone = (zonesHoldBegins (outHoldBegins s)).zone
    ∧ (outHoldBegins s).zone = s.zone
    ∧ (plantHeld s).gauge = s.gauge.holdBegins := by
  have eout : (outHoldBegins s).hide [.out, .posts] = s.hide [.out, .posts] := by simp
  have ezone : (zonesHoldBegins (outHoldBegins s)).hide [.loop, .zone, .posts]
      = (outHoldBegins s).hide [.loop, .zone, .posts] := by simp
  have hgauge : (zonesHoldBegins (outHoldBegins s)).gauge = s.gauge :=
    (hide_eq_iff.1 ezone .gauge (by decide)).trans (hide_eq_iff.1 eout .gauge (by decide))
  unfold plantHeld
  rw [onGauge_out, onGauge_zone, onGauge_gauge, hgauge]
  exact ⟨hide_eq_iff.1 ezone .out (by decide), rfl, hide_eq_iff.1 eout .zone (by decide), rfl⟩

/-- The state in which the blocks are told that the hold stands (R156). -/
def holdNoted (s : State) : State :=
  postNotice .mains ((s.onInputs fun i => { i with mainsOk := some false }).onSupply fun p =>
    { p with hold := true, holdStart := s.store.runMinute, returnTimer := none })

theorem holdNoted_parts (s : State) : (holdNoted s).out = s.out ∧ (holdNoted s).zone = s.zone
    ∧ (holdNoted s).gauge = s.gauge ∧ (holdNoted s).burn = s.burn ∧ (holdNoted s).store = s.store
    ∧ (holdNoted s).supply = { s.supply with hold := true, holdStart := s.store.runMinute, returnTimer := none }
    ∧ (holdNoted s).inputs = { s.inputs with mainsOk := some false }
    ∧ (holdNoted s).burnActive = s.burnActive ∧ (holdNoted s).link.slot = s.link.slot
    ∧ .mains ∈ (holdNoted s).link.notices :=
  ⟨rfl, rfl, rfl, rfl, rfl, rfl, rfl, rfl, rfl, mem_insertNotice.2 (.inl rfl)⟩

/-- The plant at the beginning of the hold: OUT drives nothing, and every zone is IDLE (R36, R61). -/
structure State.plantRests (s u : State) : Prop where
  channels : ∀ ch : Fin 10, u.out.channels[ch].effective = false ∧ u.out.channels[ch].low = 0
    ∧ u.out.channels[ch].high = 0 ∧ u.out.channels[ch].offs = 0
    ∧ u.out.channels[ch].demand = s.out.channels[ch].demand
    ∧ u.out.channels[ch].override = s.out.channels[ch].override
    ∧ u.out.channels[ch].load = s.out.channels[ch].load
  line : u.out.line = s.out.line
  zones : ∀ z : Fin 6, u.zone.zones[z] = { s.zone.zones[z] with state := .idle, timer := .stopped }
  formed : u.plantFormed
  unheated : u.zone.heatRequest = false

theorem plantHeld_rests (hhold : s.supply.hold = true) : s.plantRests (plantHeld s) := by
  obtain ⟨hout, hzone, hzone', -⟩ := plantHeld_parts s
  obtain ⟨hzones, hformed, hheat⟩ := zonesHoldBegins_zone (outHoldBegins s)
  rw [hzone'] at hzones
  refine ⟨?_, ?_, ?_, plantFormed_of_zone hzone hformed, ?_⟩
  · rw [hout]
    exact outHoldBegins_channel hhold
  · rw [hout]
    exact outHoldBegins_line s
  · rw [hzone]
    exact hzones
  · rw [hzone]
    exact hheat

/-- It rests so for the state before the hold was noted, and in the state after BURN was told. -/
theorem State.plantRests.told (h : u.plantRests v) (hout : u.out = s.out) (hzone : u.zone = s.zone)
    (ht : v.holdTold t) : s.plantRests t := by
  have same := hide_eq_iff.1 ht.same
  have houtt : t.out = v.out := same .out (by decide)
  have hzonet : t.zone = v.zone := same .zone (by decide)
  obtain ⟨hchannels, hline, hzones, hformed, hheat⟩ := h
  rw [hout, ← houtt] at hchannels hline
  rw [hzone, ← hzonet] at hzones
  exact ⟨hchannels, hline, hzones, plantFormed_of_zone hzonet hformed, hzonet ▸ hheat⟩

/-- MAINS_OK falls outside the hold. -/
theorem exec_mainsOkFall {order : HoldOrder} (hactive : s.supplyActive = true)
    (hlevel : s.inputs.mainsOk = some true) (hhold : s.supply.hold = false) :
    exec (.mainsOkFall order) s = .next (settle (tellBurn true (burnTakesHold order) (plantHeld (holdNoted s)))) := by
  have hactive' : (s.onInputs fun i => { i with mainsOk := some false }).supplyActive = true := hactive
  have hhold' : ¬ (s.onInputs fun i => { i with mainsOk := some false }).supply.hold = true := by
    change ¬ s.supply.hold = true
    rw [hhold]
    decide
  change Host.Outcome.next (edge .mainsOk false (mainsFalls order) s) = _
  rw [edge_mainsOk (v := false) hactive hlevel, mainsFalls, if_pos hactive', if_neg hhold']
  rfl

/-- Settles O55: OUT and ZONE rest, `tellBurn_holdTold` gives BURN's part, and a rise loads the return timer. -/
theorem mainsFallsAndRises : Obligations.MainsFallsAndRises := by
  intro s hactive
  refine ⟨fun order hlevel => ⟨fun hhold => ?_, fun hhold hanswers => ?_⟩, fun hlevel => ?_⟩
  · have hactive' : (s.onInputs fun i => { i with mainsOk := some false }).supplyActive = true := hactive
    have hhold' : (s.onInputs fun i => { i with mainsOk := some false }).supply.hold = true := hhold
    change Host.Outcome.next (edge .mainsOk false (mainsFalls order) s) = _
    rw [edge_mainsOk (v := false) hactive hlevel, mainsFalls, if_pos hactive', if_pos hhold']
    rfl
  · obtain ⟨hout, hzone, hgauge, hburn, hstore, hsupply, hinputs, hactive', hslot, hmains⟩ := holdNoted_parts s
    have enoted : (holdNoted s).hide [.inputs, .supply, .link] = s.hide [.inputs, .supply, .link] := rfl
    refine ⟨_, exec_mainsOkFall hactive hlevel hhold, ?_⟩
    generalize holdNoted s = n at *
    have e := plantHeld_hide n
    have hrests := plantHeld_rests (s := n) (by rw [hsupply])
    obtain ⟨-, -, -, hgaugeu⟩ := plantHeld_parts n
    generalize plantHeld n = u at *
    have hsupplyu : u.supply = n.supply := hide_eq_iff.1 e .supply (by decide)
    have hstoreu : u.store = n.store := hide_eq_iff.1 e .store (by decide)
    have hburnu : u.burn = n.burn := hide_eq_iff.1 e .burn (by decide)
    have hlinku : u.link = n.link := hide_eq_iff.1 e .link (by decide)
    have hinputsu : u.inputs = n.inputs := hide_eq_iff.1 e .inputs (by decide)
    have hactiveu : u.burnActive = s.burnActive := (burnActive_of_hide _ e (by decide)).trans hactive'
    have htold := tellBurn_holdTold (s := u) order (by rw [hsupplyu, hsupply]) (by rw [hstoreu, hstore]; exact hanswers)
    generalize settle (tellBurn true (burnTakesHold order) u) = t at *
    obtain ⟨hchannels, hline, hzones, hformed, hheat⟩ := hrests.told hout hzone htold
    have hsupplyt : t.supply = u.supply := hide_eq_iff.1 htold.same .supply (by decide)
    have hgauget := htold.gauge
    rw [hgaugeu, hgauge] at hgauget
    refine ⟨?_, ?_, hsupplyt.trans (hsupplyu.trans hsupply), htold.notices _ (hlinku ▸ hmains), hchannels,
      congrArg Prod.fst hline, congrArg Prod.snd hline, hzones, hformed, hheat, ?_, ?_, ?_, ?_, fun hburning => ?_⟩
    · exact hide_eq_iff.1 (((hide_of_subset (by decide) htold.same).trans (hide_of_subset (by decide) e)).trans
        (hide_of_subset (by decide) enoted))
    · rw [htold.inputs, hinputsu, hinputs, hactiveu]
    · rw [hgauget]
      rfl
    · rw [hgauget]
      rfl
    · rw [hgauget]
      rfl
    · rw [hgauget]
      rfl
    · have hholds := (htold.burn (hactiveu.trans hburning)).of_same (hburnu.trans hburn) (hstoreu.trans hstore)
        ((congrArg Link.slot hlinku).trans hslot)
      obtain ⟨hignition, hstop, hoverrun⟩ := hholds.timers
      obtain ⟨hrunning, hms⟩ := hholds.accumulator
      exact ⟨hholds.inhibit, hignition, hstop, hoverrun, hrunning, hms, hholds.task, hholds.ended, hholds.normal,
        hholds.locked, hholds.held, hholds.latched, hholds.cooldown, hholds.resetting⟩
  · change Host.Outcome.next (edge .mainsOk true mainsRises s) = _
    rw [edge_mainsOk (v := true) hactive hlevel, mainsRises]
    have hactive' : (s.onInputs fun i => { i with mainsOk := some true }).supplyActive = true := hactive
    rw [hactive']
    change Host.Outcome.next (if s.supply.hold = true then _ else _) = _
    split
    · rfl
    · rfl

end Sys2Proof.Machine
end

section
/-! PROOF. Records that BURN asks while a program runs: they join the append queue, and nothing is answered (O56;
R141, R143). -/

namespace Sys2Proof.Machine

variable {s t u : State} {n m : Nat}

/-- A record asked while a program runs joins a queue with a place for it (R141, R143). -/
theorem appendRecord_joins {q : Program} (p : Payload) (tag : Option Tag) (harray : s.store.array = .programming q)
    (hroom : s.store.queue.length < 4) :
    appendRecord p tag s = s.onStore fun st => { st with queue := st.queue ++ [⟨p, tag⟩] } := by
  have hjoin : s.store.join p tag = { s.store with queue := s.store.queue ++ [⟨p, tag⟩] } := if_pos hroom
  have hon : s.onStore (Store.join p tag) = s.onStore fun st => { st with queue := st.queue ++ [⟨p, tag⟩] } :=
    congrArg (fun st => { s with store := st }) hjoin
  rw [appendRecord, hon]
  exact kick_programming _ q harray

/-- A record asked of STORE while a program runs (R84, R141). -/
theorem askStore_joins {q : Program} {tag : Tag} (p : Payload) (harray : s.store.array = .programming q)
    (hroom : s.store.queue.length < 4) : askStore tag p s =
      (if tag.isLockout then s.onBurn fun b => { b with lockoutAsked := true } else s).onStore fun st =>
        { st with queue := st.queue ++ [⟨p, some tag⟩] } := by
  unfold askStore
  split
  · exact appendRecord_joins p (some tag) harray hroom
  · exact appendRecord_joins p (some tag) harray hroom

/-- While a program runs, from `s` to `t` at most `n` records join a queue with a place for them, nothing is
answered, and no notice is gone. -/
def State.enqueues (n : Nat) (s t : State) : Prop :=
  (∃ q, s.store.array = .programming q) → s.store.queue.length + n ≤ 4 →
    (∃ l : List QueueEntry, l.length ≤ n ∧ t.store = { s.store with queue := s.store.queue ++ l })
      ∧ t.hide [.burn, .store, .link, .posts] = s.hide [.burn, .store, .link, .posts]
      ∧ ∀ x ∈ s.link.notices, x ∈ t.link.notices

namespace State.enqueues

/-- Where STORE stands. -/
theorem of_hide (e : t.hide [.burn, .link, .posts] = s.hide [.burn, .link, .posts])
    (hnotices : ∀ x ∈ s.link.notices, x ∈ t.link.notices) : s.enqueues 0 t := by
  have hstore : t.store = s.store := hide_eq_iff.1 e .store (by decide)
  refine fun _ _ => ⟨⟨[], Nat.le_refl 0, ?_⟩, hide_of_subset (by decide) e, hnotices⟩
  rw [hstore, List.append_nil]

/-- Where LINK stands too. -/
theorem of_burn (e : t.hide [.burn, .posts] = s.hide [.burn, .posts]) : s.enqueues 0 t := by
  have hlink : t.link = s.link := hide_eq_iff.1 e .link (by decide)
  refine of_hide (hide_of_subset (by decide) e) ?_
  rw [hlink]
  exact fun _ h => h

theorem refl (s : State) : s.enqueues 0 s := of_burn rfl

theorem trans (h : s.enqueues n u) (h' : u.enqueues m t) : s.enqueues (n + m) t := by
  rintro ⟨q, harray⟩ hroom
  obtain ⟨⟨l, hl, hstore⟩, e, hnotices⟩ := h ⟨q, harray⟩ (by omega)
  have hqueue : u.store.queue.length + m ≤ 4 := by
    rw [hstore, List.length_append]
    omega
  obtain ⟨⟨l', hl', hstore'⟩, e', hnotices'⟩ := h' ⟨q, by rw [hstore]; exact harray⟩ hqueue
  refine ⟨⟨l ++ l', ?_, ?_⟩, e'.trans e, fun x hx => hnotices' x (hnotices x hx)⟩
  · rw [List.length_append]
    omega
  · rw [hstore', hstore, List.append_assoc]

theorem mono (hnm : n ≤ m) (h : s.enqueues n t) : s.enqueues m t := by
  intro harray hroom
  obtain ⟨⟨l, hl, hstore⟩, hrest⟩ := h harray (by omega)
  exact ⟨⟨l, by omega, hstore⟩, hrest⟩

theorem ite {p : Prop} [Decidable p] (ht : s.enqueues n t) (hu : s.enqueues n u) :
    s.enqueues n (if p then t else u) := by
  split
  · exact ht
  · exact hu

/-- A step that asks nothing comes before. -/
theorem after (h : s.enqueues 0 u) (h' : u.enqueues n t) : s.enqueues n t := by
  have ht := h.trans h'
  rwa [Nat.zero_add] at ht

/-- A step that asks nothing follows. -/
theorem andThen (h : s.enqueues n u) (h' : u.enqueues 0 t) : s.enqueues n t := h.trans h'

/-! ## Steps that ask nothing -/

theorem onBurn (f : Burn → Burn) : s.enqueues 0 (s.onBurn f) := of_burn rfl

theorem postNotice (x : Notice) : s.enqueues 0 (postNotice x s) :=
  of_hide rfl fun _ hy => mem_insertNotice.2 (.inr hy)

theorem endResetTask (o : TaskOutcome) (r : ReasonCode) : s.enqueues 0 (endResetTask o r s) := by
  unfold Machine.endResetTask
  split
  · exact of_hide (by simp) fun _ hx => endTask_notices _ _ _ hx
  · exact refl s

theorem enterHeld (r : HeldReason) : s.enqueues 0 (enterHeld r s) := by
  have hheld : s.enqueues 0 ((burnTo .held s).onBurn fun b => { b with heldReason := r, cooldown := none }) :=
    of_burn (by simp)
  exact hheld.andThen (postNotice .held)

theorem setHeldReason (r : HeldReason) : s.enqueues 0 (setHeldReason r s) := by
  unfold Machine.setHeldReason
  exact ite (refl s) ((onBurn _).andThen (postNotice .held))

/-! ## Records asked -/

theorem askStore (tag : Tag) (p : Payload) : s.enqueues 1 (askStore tag p s) := by
  rintro ⟨q, harray⟩ hroom
  rw [askStore_joins p harray (by omega)]
  refine ⟨⟨[⟨p, some tag⟩], Nat.le_refl 1, ?_⟩, ?_, ?_⟩
  · split <;> rfl
  · split <;> rfl
  · split <;> exact fun _ h => h

theorem askResetRecord : s.enqueues 1 (askResetRecord s) := by
  unfold Machine.askResetRecord
  dsimp only
  repeat' split
  · exact askStore _ _
  · exact mono (Nat.zero_le 1) ((endResetTask .rejected .budget).andThen (enterHeld .budget))
  · exact askStore _ _
  · exact mono (Nat.zero_le 1) (refl s)

theorem askNow (a : Ask) : s.enqueues 1 (askNow s a) := by
  cases a with
  | record tag p => exact askStore tag p
  | resetRecord => exact askResetRecord

theorem foldl_askNow (l : List Ask) (s : State) : s.enqueues l.length (l.foldl Machine.askNow s) := by
  induction l generalizing s with
  | nil => exact refl s
  | cons a rest ih =>
    have h := (askNow (s := s) a).trans (ih (Machine.askNow s a))
    rwa [Nat.add_comm] at h

theorem askOwed : s.enqueues 1 (askOwed s) := by
  unfold Machine.askOwed
  split
  · exact ite (mono (Nat.zero_le 1) (refl s)) ((onBurn _).after (askStore _ _))
  · exact mono (Nat.zero_le 1) (refl s)

theorem askAll {l : List Ask} (hl : l ≠ []) : s.enqueues l.length (askAll l s) := by
  unfold Machine.askAll
  exact ite (foldl_askNow l s) (mono (List.length_pos_iff.2 hl) ((onBurn _).after askOwed))

theorem askOne (a : Ask) : s.enqueues 1 (Machine.askAll [a] s) := askAll (List.cons_ne_nil a [])

theorem askTwo (a b : Ask) : s.enqueues 2 (Machine.askAll [a, b] s) := askAll (List.cons_ne_nil a [b])

theorem askLockout : s.enqueues 1 (askLockout s) := by
  unfold Machine.askLockout
  split
  · exact ite (mono (Nat.zero_le 1) (refl s)) ((onBurn _).after (askOne _))
  · exact mono (Nat.zero_le 1) (refl s)

/-! ## BURN at the end of the hold -/

theorem beginReset (o : Origin) : s.enqueues 1 (beginReset o s) := by
  have hentered : ∀ f, s.enqueues 0 ((burnTo .resetting s).onBurn f) := fun f => of_burn (by simp)
  unfold Machine.beginReset
  dsimp only
  exact ite ((hentered _).after askLockout) ((hentered _).after (askOne _))

theorem evaluateUntasked : s.enqueues 1 (evaluateUntasked s) := by
  have hheld : ∀ r, s.enqueues 1 (Machine.enterHeld r s) := fun r => mono (Nat.zero_le 1) (enterHeld r)
  unfold Machine.evaluateUntasked
  exact ite (ite (beginReset .auto) (hheld _)) (hheld _)

theorem heldMinute : s.enqueues 1 (heldMinute s) := by
  have hstill : s.enqueues 1 s := mono (Nat.zero_le 1) (refl s)
  have hreason : ∀ r, s.enqueues 1 (Machine.setHeldReason r s) := fun r => mono (Nat.zero_le 1) (setHeldReason r)
  unfold Machine.heldMinute retryHeld evaluateHeld
  exact ite (ite (ite askLockout (ite hstill evaluateUntasked)) hstill)
    (ite (ite (ite (ite hstill (beginReset .auto)) (hreason _)) (hreason _)) hstill)

theorem enterLatched (r : LatchReason) : s.enqueues 1 (enterLatched r s) := by
  have hpulse : ∀ x : State, x.enqueues 0 (endPulse x) := fun x => of_burn (by simp)
  have hentered : ∀ f, s.enqueues 0 ((burnTo .latched s).onBurn f) := fun f => of_burn (by simp)
  exact ((((hentered _).andThen (hpulse _)).after (askOne _)).andThen
    (postNotice .latch)).andThen (endResetTask .rejected .latched)

theorem goIdle : s.enqueues 0 (goIdle s) := of_burn (by simp)

theorem takeDark : s.enqueues 2 (takeDark s) := by
  have hproof : ∀ x : State, x.enqueues 0 (startProofLimit x) := fun x => of_burn (by simp)
  unfold Machine.takeDark
  dsimp only
  split
  · exact askLockout.trans (enterLatched _)
  · have hasked : s.enqueues 1 (if (s.burn.state == .held && s.burn.lockoutOwed) = true then Machine.askLockout s
        else s) := ite askLockout (mono (Nat.zero_le 1) (refl s))
    exact ((((hasked.andThen (onBurn _)).trans (askOne _)).andThen (onBurn _)).andThen
      (hproof _)).andThen goIdle

theorem enterLocked (cause : LockCause) (left : Option BurnState) : s.enqueues 2 (enterLocked cause left s) := by
  have hlocked : s.enqueues 0 (if s.burn.lockoutOverrun then
      askOverrun ((burnTo .locked s).onBurn fun b => { b with ignitionTimer := none, stopTimer := none })
      else (burnTo .locked s).onBurn fun b => { b with ignitionTimer := none, stopTimer := none }) :=
    ite (of_burn (by simp)) (of_burn (by simp))
  have hnoted := hlocked.andThen (.andThen (onBurn fun b => { b with
      newest := some ⟨cause, left, b.stage, s.burn.proofPending⟩
      lockouts := b.lockouts + 1
      lockStep := .awaitRecord, answer := .none, pressWaiting := false, darkWaiting := false,
      attendedOwed := false, lockoutOwed := false, lockoutAsked := false }) (postNotice .lockout))
  have hraised : ∀ x : State, x.enqueues 0 (raiseRelock x) := fun x => of_burn (by simp)
  unfold Machine.enterLocked
  dsimp only
  split
  · have hpending := (hnoted.andThen (onBurn fun b =>
        { b with proofPending := false, pendingOrigin := none, proveTimer := none })).andThen (hraised _)
    exact ((ite (hpending.andThen (endResetTask .rejected .relock)) hpending).andThen (onBurn _)).after (askTwo _ _)
  · exact mono (by decide) ((hnoted.andThen (onBurn _)).after (askOne _))

theorem lockedHoldEnds : s.enqueues 0 (lockedHoldEnds s) := by
  have hcool : s.enqueues 0 (enterCooldown s) := of_burn (by simp)
  unfold Machine.lockedHoldEnds
  split
  · split
    · exact hcool
    · exact (onBurn _).andThen (enterHeld .store)
    · exact onBurn _
  · exact goIdle

theorem burnStateHoldEnds : s.enqueues 2 (burnStateHoldEnds s) := by
  have hstill : s.enqueues 2 s := mono (Nat.zero_le 2) (refl s)
  unfold Machine.burnStateHoldEnds
  split
  · exact ite (mono (Nat.zero_le 2) lockedHoldEnds) hstill
  · exact ite (mono (by decide) heldMinute) takeDark
  · exact ite (ite (enterLocked _ _) (ite (mono (Nat.zero_le 2) goIdle) hstill)) hstill

theorem burnSeesValve : s.enqueues 0 (burnSeesValve s) := by
  have hrun : ∀ (v : Bool) (x : State), x.enqueues 0 (setRunaway v x) := fun v x => by
    unfold setRunaway
    exact ite (refl x) ((onBurn _).andThen (postNotice .lockout))
  unfold Machine.burnSeesValve runawayIfIdle runAccumulator
  exact ite (ite ((onBurn _).andThen (hrun _ _)) (onBurn _)) (onBurn _)

theorem burnHoldEnds : s.enqueues 2 (burnHoldEnds s) :=
  ((onBurn _).after burnStateHoldEnds).andThen burnSeesValve

end State.enqueues

end Sys2Proof.Machine
end

section
/-! PROOF. SUPPLY_HOLD ends at OUT, ZONE and GAUGE (O56; R36, R61, R121). -/

namespace Sys2Proof.Machine

variable {s t u v : State}

/-! ## OUT (R36) -/

/-- Resolving leaves the scans passed over at a change, where there is one at least (R23). -/
theorem resolveAll_settle (c : Fin 10) (s : State) :
    max (resolveAll s).out.channels[c].settle 1 = max s.out.channels[c].settle 1 := by
  unfold resolveAll eachChannel
  refine foldl_keeps (fun v => max v.out.channels[c].settle 1) (fun v ch => ?_) _ s
  rw [resolveChannel_entry]
  split
  · next hc =>
    subst hc
    unfold Channel.entered
    split
    · rfl
    · exact Nat.max_assoc .. |>.trans (by rw [Nat.max_self])
  · rfl

/-- OUT at the end of the hold: two scans are passed over (R36). -/
theorem outHoldEnds_channel (ch : Fin 10) (s : State) : (outHoldEnds s).out.channels[ch].settle = 2
    ∧ (outHoldEnds s).out.channels[ch].demand = s.out.channels[ch].demand
    ∧ (outHoldEnds s).out.channels[ch].load = s.out.channels[ch].load := by
  have hentry := eachChannel_onChan (fun c => { c with settle := 2 }) ch s
  unfold outHoldEnds
  generalize eachChannel _ s = v at *
  have hset := resolveAll_set ch v
  have hsettle := resolveAll_settle ch v
  rw [hentry] at hset hsettle
  generalize (resolveAll v).out.channels[ch] = c at *
  refine ⟨?_, congrArg Prod.fst hset, congrArg (fun x => x.2.2) hset⟩
  dsimp only at hsettle
  omega

/-! ## ZONE (R61) -/

/-- What the end of the hold makes of a zone: a call opens its valve, which is open at once with its end switch
made (R53, R61). -/
def Zone.holdEnded (made : Bool) (travel : Nat) (zn : Zone) : Zone :=
  if zn.call = true ∧ zn.state = .idle then
    if made then { zn with state := .opened, timer := .stopped }
    else { zn with state := .opening, timer := .travel (1000 * travel) }
  else zn

theorem enterOpening_entry (z y : Fin 6) (s : State) : (enterOpening z s).zone.zones[y] = if y = z then
      (if s.endIsMade z then { s.zone.zones[z] with state := .opened, timer := .stopped }
        else { s.zone.zones[z] with state := .opening, timer := s.travelTimer z })
    else s.zone.zones[y] := by
  have hinputs : (zoneTo z .opening (s.travelTimer z) s).inputs = s.inputs :=
    hide_eq_iff.1 (hide_zoneTo _ _ _ s (by decide) (by decide) : _ = s.hide [.zone, .posts]) .inputs (by decide)
  unfold enterOpening
  dsimp only
  unfold State.endIsMade
  rw [hinputs]
  by_cases hmade : (s.inputs.ends[z] == some true) = true
  · rw [if_pos hmade, zoneTo_entry, zoneTo_entry, zoneTo_entry, if_pos rfl, if_pos hmade]
    by_cases hy : y = z
    · rw [if_pos hy, if_pos hy]
    · rw [if_neg hy, if_neg hy, if_neg hy]
  · rw [if_neg hmade, zoneTo_entry, if_neg hmade]

theorem zoneHoldEnds_entry (z y : Fin 6) (s : State) : (zoneHoldEnds z s).zone.zones[y] = if y = z then
      s.zone.zones[z].holdEnded (s.inputs.ends[z] == some true) s.sett.working.zones[z].travel
    else s.zone.zones[y] := by
  unfold zoneHoldEnds Zone.holdEnded
  by_cases hcalls : s.zone.zones[z].call = true ∧ s.zone.zones[z].state = .idle
  · have hboth : ((s.zoneAt z).call && (s.zoneAt z).state == .idle) = true := by
      simpa [State.zoneAt] using hcalls
    rw [if_pos hboth, if_pos hcalls, enterOpening_entry]
    rfl
  · have hboth : ¬ ((s.zoneAt z).call && (s.zoneAt z).state == .idle) = true := by
      simpa [State.zoneAt] using hcalls
    rw [if_neg hboth, if_neg hcalls]
    split
    · next hy => rw [hy]
    · rfl

/-- ZONE at the end of the hold (R61). -/
theorem zonesHoldEnds_zone (s : State) :
    (∀ z : Fin 6, (zonesHoldEnds s).zone.zones[z]
        = s.zone.zones[z].holdEnded (s.inputs.ends[z] == some true) s.sett.working.zones[z].travel)
      ∧ (zonesHoldEnds s).plantFormed := by
  refine ⟨fun z => ?_, formOutputs_plantFormed _⟩
  unfold zonesHoldEnds
  rw [formOutputs_zones]
  refine eachZone_entry (P := fun v => v.inputs = s.inputs ∧ v.sett = s.sett)
    (g := fun z zn => zn.holdEnded (s.inputs.ends[z] == some true) s.sett.working.zones[z].travel)
    (fun z v hv => ?_) (fun z y v hv => ?_) ⟨rfl, rfl⟩ z
  · have e : (zoneHoldEnds z v).hide [.zone, .posts] = v.hide [.zone, .posts] := by simp
    obtain ⟨hinputs, hsett⟩ := hv
    exact ⟨(hide_eq_iff.1 e .inputs (by decide)).trans hinputs, (hide_eq_iff.1 e .sett (by decide)).trans hsett⟩
  · obtain ⟨hinputs, hsett⟩ := hv
    rw [zoneHoldEnds_entry, hinputs, hsett]

end Sys2Proof.Machine
end

section
/-! PROOF. SUPPLY_HOLD ends at BURN (O56): by its state and its lamp (R80, R94, R101). -/

namespace Sys2Proof.Machine

variable {s t u v : State}

/-! ## The oil valve seen (R77, R80) -/

/-- BURN's entry but for its accumulator and RUNAWAY. -/
def Burn.unseen (b : Burn) : Burn := { b with accRunning := false, runaway := false }

theorem unseen_field {β : Type} (g : Burn → β) (hg : ∀ b : Burn, g b.unseen = g b)
    (h : t.burn.unseen = s.burn.unseen) : g t.burn = g s.burn := by
  rw [← hg, h, hg]

/-- The accumulator runs while the valve is open, and an open valve at rest is RUNAWAY (R73, R77). -/
theorem burnSeesValve_burn (s : State) : (burnSeesValve s).burn.unseen = s.burn.unseen
    ∧ ((burnSeesValve s).burn.accRunning = true ↔ s.inputs.valve = some true)
    ∧ (s.inputs.valve = some true → s.burn.state = .inhibited → (burnSeesValve s).burn.runaway = true) := by
  have hset : ∀ x : State, (setRunaway true x).burn.unseen = x.burn.unseen
      ∧ (setRunaway true x).burn.accRunning = x.burn.accRunning ∧ (setRunaway true x).burn.runaway = true := fun x => by
    unfold setRunaway
    split
    · next h => exact ⟨rfl, rfl, h⟩
    · exact ⟨rfl, rfl, rfl⟩
  unfold burnSeesValve runawayIfIdle
  by_cases hopen : s.valveOpen = true
  · have hvalve : s.inputs.valve = some true := beq_iff_eq.1 hopen
    rw [if_pos hopen]
    obtain ⟨hunseen, hrunning, hrunaway⟩ := hset (runAccumulator true s)
    split
    · exact ⟨hunseen, ⟨fun _ => hvalve, fun _ => hrunning⟩, fun _ _ => hrunaway⟩
    · next hrest => exact ⟨rfl, ⟨fun _ => hvalve, fun _ => rfl⟩, fun _ h => absurd (.inr h) hrest⟩
  · have hvalve : s.inputs.valve ≠ some true := fun h => hopen (beq_iff_eq.2 h)
    rw [if_neg hopen]
    exact ⟨rfl, ⟨nofun, fun h => absurd h hvalve⟩, fun h => absurd h hvalve⟩

/-! ## Records asked, but for a reset's own -/

theorem askStore_parked (tag : Tag) (p : Payload) (s : State) :
    (askStore tag p s).burn.parked = s.burn.parked := by
  have hserved : ∀ x : State, (appendRecord p (some tag) x).burn = x.burn := fun x => by
    obtain ⟨e, -⟩ := State.serves.appendRecord p (some tag) x
    exact hide_eq_iff.1 e .burn (by decide)
  unfold askStore
  rw [hserved]
  split <;> rfl

theorem askOwed_parked (s : State) : (askOwed s).burn.parked = s.burn.parked := by
  unfold askOwed
  split
  · split
    · rfl
    · exact askStore_parked _ _ _
  · rfl

/-- Records asked leave the entry but for what waits for their answers. -/
theorem askAll_parked {l : List Ask} (hl : ∀ a ∈ l, a ≠ .resetRecord) (s : State) :
    (askAll l s).burn.parked = s.burn.parked := by
  have hfold : ∀ (l : List Ask), (∀ a ∈ l, a ≠ .resetRecord) → ∀ x : State,
      (l.foldl askNow x).burn.parked = x.burn.parked := by
    intro l hl
    induction l with
    | nil => exact fun _ => rfl
    | cons a rest ih =>
      intro x
      have hnow : (askNow x a).burn.parked = x.burn.parked := by
        cases a with
        | record tag p => exact askStore_parked tag p x
        | resetRecord => exact absurd rfl (hl _ List.mem_cons_self)
      exact (ih (fun y hy => hl y (List.mem_cons_of_mem _ hy)) _).trans hnow
  unfold askAll
  split
  · exact hfold l hl s
  · exact askOwed_parked _

/-! ## A lockout found at the end of the hold (R79, R84) -/

theorem askOverrun_kept (s : State) : (askOverrun s).burn.state = s.burn.state
    ∧ (askOverrun s).burn.inhibit = s.burn.inhibit := by
  unfold askOverrun runOverrun
  dsimp only
  split
  · exact ⟨stopOverrun_state s, stopOverrun_inhibit s⟩
  · split <;> exact ⟨rfl, rfl⟩

theorem endResetTask_burn (o : TaskOutcome) (r : ReasonCode) (s : State) : (endResetTask o r s).burn =
    if s.burn.task.isSome then { s.burn with task := none, proofLimit := none } else s.burn := by
  have hend : ∀ x : State, (endTask o r 0 x).burn = x.burn := fun x =>
    hide_eq_iff.1 (hide_endTask o r 0 x (by decide) : _ = x.hide [.link]) .burn (by decide)
  unfold endResetTask
  split
  · rw [hend]
    rfl
  · rfl

/-- LOCKED entered, with the overrun asked (R75). -/
def lockEntered (s : State) : State :=
  let t := (burnTo .locked s).onBurn fun b => { b with ignitionTimer := none, stopTimer := none }
  if s.burn.lockoutOverrun then askOverrun t else t

/-- The lockout's marking, and its notice (R84). -/
def lockMarked (cause : LockCause) (left : Option BurnState) (s : State) : State :=
  postNotice .lockout ((lockEntered s).onBurn fun b =>
    { b with
      newest := some ⟨cause, left, b.stage, s.burn.proofPending⟩
      lockouts := b.lockouts + 1
      lockStep := .awaitRecord, answer := .none, pressWaiting := false, darkWaiting := false,
      attendedOwed := false, lockoutOwed := false, lockoutAsked := false })

/-- A lockout with a proof pending is a failure of the reset (R84). -/
def lockCounted (cause : LockCause) (left : Option BurnState) (s : State) : State :=
  if s.burn.proofPending then
    let x := raiseRelock ((lockMarked cause left s).onBurn fun b =>
      { b with proofPending := false, pendingOrigin := none, proveTimer := none })
    if x.burn.taskAt .proving then endResetTask .rejected .relock x else x
  else lockMarked cause left s

/-- The records that a lockout asks (R84). -/
def lockAsks (cause : LockCause) (left : Option BurnState) (s : State) : List Ask :=
  .record (.lockout (lockCounted cause left s).burn.lockouts)
      (.lockout cause left (lockCounted cause left s).burn.stage s.burn.proofPending)
    :: (if s.burn.proofPending then [outcomeOf .relock (lockCounted cause left s).burn s.burn.pendingOrigin] else [])

theorem enterLocked_eq (cause : LockCause) (left : Option BurnState) (s : State) : enterLocked cause left s =
    askAll (lockAsks cause left s) ((lockCounted cause left s).onBurn fun b => { b with lockoutAsked := true }) := rfl

/-- BURN's state, its newest lockout and the inhibit set. -/
def Burn.lockView (b : Burn) : BurnState × Option Lockout × InhibitSet := (b.state, b.newest, b.inhibit)

theorem lockMarked_view (cause : LockCause) (left : Option BurnState) (s : State) :
    (lockMarked cause left s).burn.lockView
      = (.locked, some ⟨cause, left, s.burn.stage, s.burn.proofPending⟩, s.burn.inhibit) := by
  have hentered : (lockEntered s).burn.state = .locked ∧ (lockEntered s).burn.inhibit = s.burn.inhibit
      ∧ (lockEntered s).burn.stage = s.burn.stage := by
    have hstage := steady_field Burn.stage (fun _ => rfl) (burnTo_steady .locked s)
    unfold lockEntered
    dsimp only
    split
    · obtain ⟨hstate, hinhibit⟩ := askOverrun_kept ((burnTo .locked s).onBurn fun b =>
        { b with ignitionTimer := none, stopTimer := none })
      exact ⟨hstate.trans (burnTo_state .locked s), hinhibit.trans (burnTo_inhibit .locked s),
        (steady_field Burn.stage (fun _ => rfl) (askOverrun_steady _)).trans hstage⟩
    · exact ⟨burnTo_state .locked s, burnTo_inhibit .locked s, hstage⟩
  obtain ⟨hstate, hinhibit, hstage⟩ := hentered
  rw [← hinhibit, ← hstage, ← hstate]
  rfl

theorem lockCounted_view (cause : LockCause) (left : Option BurnState) (s : State) :
    (lockCounted cause left s).burn.lockView = (lockMarked cause left s).burn.lockView := by
  unfold lockCounted
  dsimp only
  split
  · split
    · rw [endResetTask_burn]
      split <;> rfl
    · rfl
  · rfl

/-- What a lockout leaves of BURN (R84): its state, its marking and the inhibit set. -/
theorem enterLocked_view (cause : LockCause) (left : Option BurnState) (s : State) :
    (enterLocked cause left s).burn.lockView
      = (.locked, some ⟨cause, left, s.burn.stage, s.burn.proofPending⟩, s.burn.inhibit) := by
  have hrecords : .resetRecord ∉ lockAsks cause left s := by
    unfold lockAsks outcomeOf
    split <;> simp
  rw [enterLocked_eq]
  refine (parked_field Burn.lockView (fun _ => rfl) (askAll_parked (fun a ha h => hrecords (h ▸ ha)) _)).trans ?_
  exact (lockCounted_view cause left s).trans (lockMarked_view cause left s)

/-- The LOCKOUT notice is posted (R84), and the records asked lose none. -/
theorem enterLocked_notice (cause : LockCause) (left : Option BurnState) (s : State) :
    .lockout ∈ (enterLocked cause left s).link.notices := by
  have hmarked : .lockout ∈ (lockMarked cause left s).link.notices := mem_insertNotice.2 (.inl rfl)
  have hcounted : .lockout ∈ (lockCounted cause left s).link.notices := by
    unfold lockCounted endResetTask
    dsimp only
    repeat' split
    · exact endTask_notices _ _ _ hmarked
    · exact hmarked
    · exact hmarked
    · exact hmarked
  rw [enterLocked_eq]
  obtain ⟨-, hnotices, -⟩ := (State.settlesTo.refl ((lockCounted cause left s).onBurn fun b =>
    { b with lockoutAsked := true })).askAll (l := lockAsks cause left s)
  exact hnotices _ hcounted

end Sys2Proof.Machine
end

section
/-! PROOF. SUPPLY_HOLD ends at BURN (O56): each state's case. -/

namespace Sys2Proof.Machine

variable {s t u v : State} {q : Program}

/-! ## At rest -/

/-- Rest is judged by the oil valve before and by BURN's entry after. -/
theorem State.atRest.of_unseen (h : s.atRest u) (hinputs : v.inputs = s.inputs)
    (ht : t.burn.unseen = u.burn.unseen) : v.atRest t := by
  have hstate := unseen_field Burn.state (fun _ => rfl) ht
  have hinhibit := unseen_field Burn.inhibit (fun _ => rfl) ht
  have hheat := unseen_field Burn.heat (fun _ => rfl) ht
  have hpump := unseen_field Burn.pump (fun _ => rfl) ht
  unfold State.atRest
  rw [hstate, hinhibit, hheat, hpump, hinputs]
  exact h

/-! ## LOCKED (R101) -/

theorem burnStateHoldEnds_locked (hstate : s.burn.state = .locked) :
    burnStateHoldEnds s = if s.burn.lockStep = .awaitMains then lockedHoldEnds s else s := by
  unfold burnStateHoldEnds
  rw [hstate]

/-- LOCKED for mains with the lamp lit goes on by the LOCKOUT record's answer (R101). -/
theorem lockedHoldEnds_lit (hlit : s.inputs.lockout = some true) :
    (s.burn.answer = .stored → (lockedHoldEnds s).burn.state = .cooldown
        ∧ (lockedHoldEnds s).burn.cooldown = some s.sett.working.cooldown)
      ∧ (s.burn.answer = .refused → (lockedHoldEnds s).burn.state = .held
        ∧ (lockedHoldEnds s).burn.heldReason = .store ∧ (lockedHoldEnds s).burn.lockoutOwed = true
        ∧ .held ∈ (lockedHoldEnds s).link.notices)
      ∧ (s.burn.answer = .none → (lockedHoldEnds s).burn.state = s.burn.state
        ∧ (lockedHoldEnds s).burn.lockStep = .awaitRecord) := by
  have hlamp : s.lampLit = true := beq_iff_eq.2 hlit
  unfold lockedHoldEnds
  rw [if_pos hlamp]
  refine ⟨fun hanswer => ?_, fun hanswer => ?_, fun hanswer => ?_⟩
  · rw [hanswer]
    exact ⟨burnTo_state .cooldown s, rfl⟩
  · rw [hanswer]
    refine ⟨burnTo_state .held _, rfl, ?_, mem_insertNotice.2 (.inl rfl)⟩
    change (burnTo .held _).burn.lockoutOwed = true
    rw [burnTo_burn]
    rfl
  · rw [hanswer]
    exact ⟨rfl, rfl⟩

/-- LOCKED for mains with a dark lamp comes to rest (R101). -/
theorem lockedHoldEnds_dark (hdark : s.inputs.lockout ≠ some true) : s.atRest (lockedHoldEnds s)
    ∧ (lockedHoldEnds s).burn.proofPending = s.burn.proofPending
    ∧ (lockedHoldEnds s).burn.relock = s.burn.relock := by
  have hlamp : ¬ s.lampLit = true := fun h => hdark (beq_iff_eq.1 h)
  unfold lockedHoldEnds
  rw [if_neg hlamp]
  exact ⟨goIdle_atRest s, steady_field Burn.proofPending (fun _ => rfl) (goIdle_steady s),
    steady_field Burn.relock (fun _ => rfl) (goIdle_steady s)⟩

/-! ## HELD with a lit lamp (R87, R101) -/

/-- Without room for a reset that needs no order, or an order needed: HELD takes that reason (R87). -/
theorem heldMinute_reason {r : HeldReason} (hstate : s.burn.state = .held)
    (howed : s.burn.heldReason = .store → s.burn.lockoutOwed = false)
    (hr : s.par.authority ≠ .openToAll ∧ r = .awaitOrder
      ∨ s.par.authority = .openToAll ∧ s.par.budget ≤ s.burn.window.length ∧ r = .budget) :
    heldMinute s = if s.burn.heldReason = .store then enterHeld r s else setHeldReason r s := by
  have hroom : s.par.budget ≤ s.burn.window.length → ¬ s.budgetRoom = true := fun h => by
    simpa [State.budgetRoom] using h
  unfold heldMinute retryHeld evaluateHeld evaluateUntasked
  by_cases hstore : s.burn.heldReason = .store
  · have hboth : s.burn.state = .held ∧ s.burn.heldReason = .store := ⟨hstate, hstore⟩
    rw [if_pos hboth, if_pos hboth, if_neg (by simp [howed hstore]), if_pos hstore]
    obtain ⟨hclosed, rfl⟩ | ⟨hopen, hmost, rfl⟩ := hr
    · rw [if_neg fun h => hclosed h.1, if_neg hclosed]
    · rw [if_neg fun h => hroom hmost h.2.1, if_pos hopen, if_neg (hroom hmost)]
  · have hnot : ¬ (s.burn.state = .held ∧ s.burn.heldReason = .store) := fun h => hstore h.2
    rw [if_neg hnot, if_pos ⟨hstate, hstore⟩, if_neg hstore]
    obtain ⟨hclosed, rfl⟩ | ⟨hopen, hmost, rfl⟩ := hr
    · rw [if_neg hclosed]
    · rw [if_pos hopen, if_neg (hroom hmost)]

/-- What HELD with such a reason leaves: the window list and STORE stand, and a new reason is notified (R87). -/
theorem heldMinute_remains {r : HeldReason} (hstate : s.burn.state = .held)
    (howed : s.burn.heldReason = .store → s.burn.lockoutOwed = false)
    (hr : s.par.authority ≠ .openToAll ∧ r = .awaitOrder
      ∨ s.par.authority = .openToAll ∧ s.par.budget ≤ s.burn.window.length ∧ r = .budget) :
    (heldMinute s).burn.state = .held ∧ (heldMinute s).burn.heldReason = r
      ∧ (heldMinute s).burn.window = s.burn.window ∧ (heldMinute s).store = s.store
      ∧ (s.burn.heldReason ≠ r → .held ∈ (heldMinute s).link.notices) := by
  rw [heldMinute_reason hstate howed hr]
  split
  · have e : (enterHeld r s).hide [.burn, .link, .posts] = s.hide [.burn, .link, .posts] := by simp
    have hwindow : (burnTo .held s).burn.window = s.burn.window :=
      steady_field Burn.window (fun _ => rfl) (burnTo_steady .held s)
    exact ⟨burnTo_state .held s, rfl, hwindow,
      hide_eq_iff.1 e .store (by decide), fun _ => mem_insertNotice.2 (.inl rfl)⟩
  · unfold setHeldReason
    split
    · next h => exact ⟨hstate, h, rfl, rfl, fun hnot => absurd h hnot⟩
    · exact ⟨hstate, rfl, rfl, rfl, fun _ => mem_insertNotice.2 (.inl rfl)⟩

theorem heldMinute_waits (hstate : s.burn.state = .held) (howed : s.burn.lockoutOwed = false) :
    (s.par.authority ≠ .openToAll → (heldMinute s).burn.state = .held
        ∧ (heldMinute s).burn.heldReason = .awaitOrder)
      ∧ (s.par.authority = .openToAll → s.par.budget ≤ s.burn.window.length →
        (heldMinute s).burn.state = .held ∧ (heldMinute s).burn.heldReason = .budget) := by
  refine ⟨fun hclosed => ?_, fun hopen hmost => ?_⟩
  · obtain ⟨h, hreason, -⟩ := heldMinute_remains hstate (fun _ => howed) (.inl ⟨hclosed, rfl⟩)
    exact ⟨h, hreason⟩
  · obtain ⟨h, hreason, -⟩ := heldMinute_remains hstate (fun _ => howed) (.inr ⟨hopen, hmost, rfl⟩)
    exact ⟨h, hreason⟩

/-- With room, outside the hold, an automatic reset begins (R87). -/
theorem heldMinute_begins (hstate : s.burn.state = .held) (howed : s.burn.lockoutOwed = false)
    (hopen : s.par.authority = .openToAll) (hroom : s.burn.window.length < s.par.budget)
    (hhold : s.burnHold = false) : heldMinute s = beginReset .auto s := by
  have hbudget : s.budgetRoom = true := decide_eq_true hroom
  unfold heldMinute retryHeld evaluateHeld evaluateUntasked
  by_cases hstore : s.burn.heldReason = .store
  · have hboth : s.burn.state = .held ∧ s.burn.heldReason = .store := ⟨hstate, hstore⟩
    rw [if_pos hboth, if_pos hboth, if_neg (by simp [howed]), if_neg (by simp [hhold]), if_pos hopen, if_pos hbudget]
  · have hnot : ¬ (s.burn.state = .held ∧ s.burn.heldReason = .store) := fun h => hstore h.2
    rw [if_neg hnot, if_pos ⟨hstate, hstore⟩, if_pos hopen, if_pos hbudget, if_neg (by simp [hhold])]

/-- RESETTING entered, before its record is asked (R88). -/
def resetEntered (o : Origin) (s : State) : State :=
  (burnTo .resetting s).onBurn fun b =>
    { (b.taskTo .serving) with
      resetOrigin := o, attendedOwed := false, resetPhase := .recording, darkWaiting := false, cooldown := none }

theorem resetEntered_burn (o : Origin) (s : State) : (resetEntered o s).burn = { (s.burn.taskTo .serving) with
    state := .resetting, resetOrigin := o, attendedOwed := false, resetPhase := .recording, darkWaiting := false
    cooldown := none
    stoppingLeft := s.burn.stoppingLeft && (BurnState.resetting == .idle || BurnState.resetting == .inhibited)
    proveTimer := proveTimerAt s.par.prove s.burn.proofPending s.burn.state .resetting s.burn.proveTimer } := by
  unfold resetEntered
  rw [onBurn_burn, burnTo_burn]
  rfl

theorem resetEntered_hide (o : Origin) (s : State) :
    (resetEntered o s).hide [.burn, .posts] = s.hide [.burn, .posts] := by
  unfold resetEntered
  simp

/-- The automatic reset's record is asked at once (R88, R91). -/
theorem beginReset_auto (howed : s.burn.lockoutOwed = false) (hnone : s.burn.owed = []) (hasks : s.burn.asks = [])
    (hroom : s.burn.window.length < s.sett.working.budget) : beginReset .auto s =
      askStore .reset (.reset .auto false (s.burn.window.length + 1)) (resetEntered .auto s) := by
  have hburn := resetEntered_burn .auto s
  have hsett : (resetEntered .auto s).sett = s.sett := hide_eq_iff.1 (resetEntered_hide .auto s) .sett (by decide)
  have hbudget : (resetEntered .auto s).budgetRoom = true := by
    unfold State.budgetRoom State.par
    rw [hburn, hsett]
    exact decide_eq_true hroom
  have hclear : (resetEntered .auto s).burn.owed = [] ∧ (resetEntered .auto s).burn.asks = [] := by
    rw [hburn]
    exact ⟨hnone, hasks⟩
  have hwindow : (resetEntered .auto s).burn.window = s.burn.window := by
    rw [hburn]
    rfl
  change (if (resetEntered .auto s).burn.lockoutOwed then askLockout (resetEntered .auto s)
    else askAll [.resetRecord] (resetEntered .auto s)) = _
  rw [if_neg (by rw [hburn]; simpa [Burn.taskTo] using howed), askAll_clear hclear.1 hclear.2]
  change askResetRecord (resetEntered .auto s) = _
  have hphase : (resetEntered .auto s).burn.state = .resetting
      ∧ (resetEntered .auto s).burn.resetPhase = .recording := by
    rw [hburn]
    exact ⟨rfl, rfl⟩
  have horigin : (resetEntered .auto s).burn.resetOrigin = .auto := by rw [hburn]
  unfold askResetRecord
  rw [if_pos hphase, horigin, hwindow]
  exact if_pos hbudget

/-- An owed LOCKOUT record is asked again, and HELD goes on (R87). -/
theorem heldMinute_asks {l : Lockout} (hstate : s.burn.state = .held) (hreason : s.burn.heldReason = .store)
    (howed : s.burn.lockoutOwed = true) (hasked : s.burn.lockoutAsked = false) (hnewest : s.burn.newest = some l)
    (hnone : s.burn.owed = []) (hasks : s.burn.asks = []) : heldMinute s =
      askStore (.lockout s.burn.lockouts) (.lockout l.cause l.left l.stage l.wasPending)
        (s.onBurn fun b => { b with lockoutAsked := true }) := by
  have hboth : s.burn.state = .held ∧ s.burn.heldReason = .store := ⟨hstate, hreason⟩
  have hrecord : s.burn.lockoutRecord = some (.lockout l.cause l.left l.stage l.wasPending) := by
    unfold Burn.lockoutRecord
    rw [hnewest]
    rfl
  unfold heldMinute retryHeld
  rw [if_pos hboth, if_pos hboth, if_pos howed]
  unfold askLockout
  rw [hrecord]
  dsimp only
  rw [if_neg (by simp [hasked]),
    askAll_clear (s := s.onBurn fun b => { b with lockoutAsked := true }) hnone hasks]
  rfl

/-! ## HELD with a dark lamp (R94) -/

/-- A dark lamp in HELD with nothing owed is an external reset, and its record is asked (R94). -/
theorem takeDark_external (howed : s.burn.lockoutOwed = false) (hnone : s.burn.owed = []) (hasks : s.burn.asks = []) :
    ∃ f : Burn → Burn, (∀ b : Burn, (f b).proofPending = true ∧ (f b).pendingOrigin = some .external)
      ∧ takeDark s = goIdle (startProofLimit ((askStore .closing (.reset .external true s.burn.window.length)
        (s.onBurn fun b => { b with cooldown := none, attendedOwed := false })).onBurn f)) := by
  refine ⟨fun b => { (b.taskTo .proving) with proofPending := true, pendingOrigin := some .external },
    fun _ => ⟨rfl, rfl⟩, ?_⟩
  unfold takeDark
  dsimp only
  rw [howed, Bool.and_false]
  dsimp only
  rw [if_neg Bool.false_ne_true,
    askAll_clear (s := s.onBurn fun b => { b with cooldown := none, attendedOwed := false }) hnone hasks]
  rfl

theorem startProofLimit_pending (s : State) : (startProofLimit s).burn.proofPending = s.burn.proofPending
    ∧ (startProofLimit s).burn.pendingOrigin = s.burn.pendingOrigin := by
  unfold startProofLimit
  split <;> exact ⟨rfl, rfl⟩

end Sys2Proof.Machine
end

section
/-! PROOF. RETURN_TIMER_EXPIRY ends SUPPLY_HOLD (O56). -/

namespace Sys2Proof.Machine

variable {s t u v : State} {q : Program}

/-! ## BURN's part -/

/-- The burner's part of the hold's end, its records behind those `before` in the queue (R80, R94, R101). -/
structure State.holdLifts (before : List QueueEntry) (s t : State) : Prop where
  inhibit : t.burn.inhibit.supply = false
  accumulator : t.burn.accRunning = true ↔ s.inputs.valve = some true
  latched : s.burn.state = .latched → t.burn.state = .latched
  waiting : s.burn.state = .locked → s.burn.lockStep = .awaitRecord →
    t.burn.state = .locked ∧ t.burn.lockStep = .awaitRecord
  lit : s.burn.state = .locked → s.burn.lockStep = .awaitMains → s.inputs.lockout = some true →
    (s.burn.answer = .stored → t.burn.state = .cooldown ∧ t.burn.cooldown = some s.sett.working.cooldown)
    ∧ (s.burn.answer = .refused → t.burn.state = .held ∧ t.burn.heldReason = .store
      ∧ t.burn.lockoutOwed = true ∧ .held ∈ t.link.notices)
    ∧ (s.burn.answer = .none → t.burn.state = .locked ∧ t.burn.lockStep = .awaitRecord)
  dark : s.burn.state = .locked → s.burn.lockStep = .awaitMains → s.inputs.lockout ≠ some true →
    s.atRest t ∧ t.burn.proofPending = s.burn.proofPending ∧ t.burn.relock = s.burn.relock
  heldWaits : s.burn.state = .held → s.burn.lockoutOwed = false → s.inputs.lockout = some true →
    (s.sett.working.authority ≠ .openToAll → t.burn.state = .held ∧ t.burn.heldReason = .awaitOrder)
    ∧ (s.sett.working.authority = .openToAll → s.sett.working.budget ≤ s.burn.window.length →
      t.burn.state = .held ∧ t.burn.heldReason = .budget)
  heldBegins : s.burn.state = .held → s.burn.owed = [] → s.burn.asks = [] → s.burn.lockoutOwed = false →
    s.inputs.lockout = some true → s.sett.working.authority = .openToAll →
    s.burn.window.length < s.sett.working.budget → t.burn.state = .resetting ∧ t.burn.resetOrigin = .auto
      ∧ t.burn.resetPhase = .recording
      ∧ t.store.queue = before ++ [⟨.reset .auto false (s.burn.window.length + 1), some .reset⟩]
  heldDark : s.burn.state = .held → s.burn.owed = [] → s.burn.asks = [] → s.burn.lockoutOwed = false →
    s.inputs.lockout ≠ some true → s.atRest t ∧ t.burn.proofPending = true
      ∧ t.burn.pendingOrigin = some .external
      ∧ t.store.queue = before ++ [⟨.reset .external true s.burn.window.length, some .closing⟩]
  heldAsks : ∀ l, s.burn.state = .held → s.burn.heldReason = .store → s.burn.lockoutOwed = true →
    s.burn.lockoutAsked = false → s.burn.newest = some l → s.inputs.lockout = some true →
    s.burn.owed = [] → s.burn.asks = [] → t.burn.state = .held
      ∧ t.store.queue = before ++ [⟨.lockout l.cause l.left l.stage l.wasPending,
        some (.lockout s.burn.lockouts)⟩]
  inhibited : s.burn.state = .inhibited → s.inputs.lockout ≠ some true → s.atRest t
    ∧ (s.inputs.valve = some true → t.burn.state = .inhibited → t.burn.runaway = true)
  normal : s.burn.state.normal = true → s.inputs.lockout = some true →
    t.burn.state = .locked ∧ .lockout ∈ t.link.notices
    ∧ t.burn.newest = some
      ⟨if s.burn.stage = .reserve ∨ s.burn.stage = .dry then .starvation else .unknown,
        some s.burn.state, s.burn.stage, s.burn.proofPending⟩

/-- The state by which BURN decides, SUPPLY removed. -/
def supplyRemoved (s : State) : State := s.onBurn fun b => { b with inhibit := b.inhibit.put false .supply }

theorem burnHoldEnds_eq (s : State) : burnHoldEnds s = burnSeesValve (burnStateHoldEnds (supplyRemoved s)) := rfl

theorem burnStateHoldEnds_held (hstate : s.burn.state = .held) :
    burnStateHoldEnds s = if s.lampLit then heldMinute s else takeDark s := by
  unfold burnStateHoldEnds
  rw [hstate]

theorem burnStateHoldEnds_lit (hstate : s.burn.state.normal = true) (hlit : s.lampLit = true) : burnStateHoldEnds s =
    enterLocked (if s.burn.stage.scarce then .starvation else .unknown) (some s.burn.state) s := by
  unfold burnStateHoldEnds
  split
  · next h => rw [h] at hstate; cases hstate
  · next h => rw [h] at hstate; cases hstate
  · rw [if_pos hstate, if_pos hlit]

theorem burnStateHoldEnds_inhibited (hstate : s.burn.state = .inhibited) (hdark : ¬ s.lampLit = true) :
    s.atRest (burnStateHoldEnds s) := by
  unfold burnStateHoldEnds
  rw [hstate]
  dsimp only
  have hnormal : BurnState.inhibited.normal = true := rfl
  rw [if_pos hnormal, if_neg hdark]
  by_cases hempty : s.burn.inhibit.isEmpty = true
  · rw [if_pos ⟨rfl, hempty⟩]
    exact goIdle_atRest s
  · rw [if_neg fun h => hempty h.2]
    exact ⟨fun _ => hstate, fun h => absurd ((inhibit_isEmpty_iff _).2 h) hempty⟩

/-- The inhibit set stands through the decision. -/
theorem burnStateHoldEnds_inhibit (s : State) : (burnStateHoldEnds s).burn.inhibit = s.burn.inhibit := by
  have field : ∀ x : State, s.settlesTo x → x.burn.inhibit = s.burn.inhibit := fun x h =>
    h.field Burn.inhibit fun _ => rfl
  have h := State.settlesTo.refl s
  unfold burnStateHoldEnds
  split
  · split
    · unfold lockedHoldEnds
      split
      · split
        · exact field _ h.enterCooldown
        · exact field _ (h.onBurn rfl).enterHeld
        · rfl
      · exact field _ h.goIdle
    · rfl
  · split
    · exact field _ h.heldMinute
    · exact field _ h.takeDark
  · split
    · split
      · exact congrArg (fun x => x.2.2) (enterLocked_view _ _ s)
      · exact field _ (h.goIdle.ite h)
    · rfl

/-- What the valve's sight leaves beside BURN. -/
theorem burnSeesValve_parts (s : State) : (burnSeesValve s).store = s.store
    ∧ ∀ n ∈ s.link.notices, n ∈ (burnSeesValve s).link.notices := by
  have e : (burnSeesValve s).hide [.burn, .link] = s.hide [.burn, .link] := by simp
  refine ⟨hide_eq_iff.1 e .store (by decide), fun n hn => ?_⟩
  unfold burnSeesValve runawayIfIdle setRunaway
  repeat' split
  · exact hn
  · exact mem_insertNotice.2 (.inr hn)
  · exact hn
  · exact hn

/-- What the decision leaves, seen after the valve. -/
theorem burnHoldEnds_parts (s : State) :
    (burnHoldEnds s).burn.unseen = (burnStateHoldEnds (supplyRemoved s)).burn.unseen
      ∧ (burnHoldEnds s).store = (burnStateHoldEnds (supplyRemoved s)).store
      ∧ (∀ n ∈ (burnStateHoldEnds (supplyRemoved s)).link.notices, n ∈ (burnHoldEnds s).link.notices)
      ∧ ((burnHoldEnds s).burn.accRunning = true ↔ s.inputs.valve = some true)
      ∧ (s.inputs.valve = some true → (burnHoldEnds s).burn.state = .inhibited →
        (burnHoldEnds s).burn.runaway = true) := by
  have e : (burnStateHoldEnds (supplyRemoved s)).hide [.burn, .store, .link, .sett, .posts]
      = s.hide [.burn, .store, .link, .sett, .posts] := by
    unfold supplyRemoved
    simp
  have hinputs : (burnStateHoldEnds (supplyRemoved s)).inputs = s.inputs := hide_eq_iff.1 e .inputs (by decide)
  obtain ⟨hunseen, hrunning, hrunaway⟩ := burnSeesValve_burn (burnStateHoldEnds (supplyRemoved s))
  obtain ⟨hstore, hnotices⟩ := burnSeesValve_parts (burnStateHoldEnds (supplyRemoved s))
  rw [hinputs] at hrunning hrunaway
  rw [burnHoldEnds_eq]
  exact ⟨hunseen, hstore, hnotices, hrunning, fun hopen hstate => hrunaway hopen
    ((unseen_field Burn.state (fun _ => rfl) hunseen).symm.trans hstate)⟩

/-! ## HELD, with a program in flight -/

section
variable (harray : s.store.array = .programming q) (hroom : s.store.queue.length < 4)
include harray hroom

/-- The record asked stands last in the queue. -/
theorem askStore_queue {tag : Tag} {p : Payload} (h : u.store = s.store) :
    (askStore tag p u).store.queue = s.store.queue ++ [⟨p, some tag⟩] := by
  rw [askStore_joins p (by rw [h]; exact harray) (by rw [h]; exact hroom)]
  split <;> exact congrArg (fun st : Store => st.queue ++ [⟨p, some tag⟩]) h

/-- An automatic reset begun asks its RESET record (R88). -/
theorem beginReset_auto_joins (howed : s.burn.lockoutOwed = false) (hnone : s.burn.owed = [])
    (hasks : s.burn.asks = []) (hfew : s.burn.window.length < s.par.budget) :
    (beginReset .auto s).burn.state = .resetting ∧ (beginReset .auto s).burn.resetOrigin = .auto
      ∧ (beginReset .auto s).burn.resetPhase = .recording ∧ (beginReset .auto s).store.queue
        = s.store.queue ++ [⟨.reset .auto false (s.burn.window.length + 1), some .reset⟩] := by
  have hentered : (resetEntered .auto s).store = s.store := hide_eq_iff.1 (resetEntered_hide .auto s) .store (by decide)
  have hparked := askStore_parked .reset (.reset .auto false (s.burn.window.length + 1)) (resetEntered .auto s)
  have hburn := resetEntered_burn .auto s
  rw [beginReset_auto howed hnone hasks hfew, askStore_queue harray hroom hentered,
    parked_field Burn.state (fun _ => rfl) hparked, parked_field Burn.resetOrigin (fun _ => rfl) hparked,
    parked_field Burn.resetPhase (fun _ => rfl) hparked, hburn]
  exact ⟨rfl, rfl, rfl, rfl⟩

/-- A dark lamp in HELD is an external reset: at rest, its record asked and its proof pending (R94). -/
theorem takeDark_joins (howed : s.burn.lockoutOwed = false) (hnone : s.burn.owed = []) (hasks : s.burn.asks = []) :
    s.atRest (takeDark s) ∧ (takeDark s).burn.proofPending = true
      ∧ (takeDark s).burn.pendingOrigin = some .external ∧ (takeDark s).store.queue
        = s.store.queue ++ [⟨.reset .external true s.burn.window.length, some .closing⟩] := by
  obtain ⟨f, hf, hdarkens⟩ := takeDark_external howed hnone hasks
  let asked := askStore .closing (.reset .external true s.burn.window.length)
    (s.onBurn fun b => { b with cooldown := none, attendedOwed := false })
  have hqueue : asked.store.queue = s.store.queue
      ++ [⟨.reset .external true s.burn.window.length, some .closing⟩] := askStore_queue harray hroom rfl
  have easked : asked.hide [.burn, .store, .link, .sett] = s.hide [.burn, .store, .link, .sett] := by
    change (askStore .closing _ (s.onBurn _)).hide _ = _
    simp
  change takeDark s = goIdle (startProofLimit (asked.onBurn f)) at hdarkens
  rw [hdarkens]
  generalize asked = v at *
  have eidle : (goIdle (startProofLimit (v.onBurn f))).hide [.burn, .posts] = v.hide [.burn, .posts] := by simp
  have elimit : (startProofLimit (v.onBurn f)).hide [.burn] = v.hide [.burn] := by simp
  have hinputs : s.inputs = (startProofLimit (v.onBurn f)).inputs :=
    ((hide_eq_iff.1 elimit .inputs (by decide)).trans (hide_eq_iff.1 easked .inputs (by decide))).symm
  have hsame : (goIdle (startProofLimit (v.onBurn f))).store = v.store := hide_eq_iff.1 eidle .store (by decide)
  obtain ⟨hproof, horigin⟩ := startProofLimit_pending (v.onBurn f)
  obtain ⟨hpending, hexternal⟩ := hf v.burn
  refine ⟨(goIdle_atRest _).of_unseen hinputs rfl, ?_, ?_, by rw [hsame, hqueue]⟩
  · exact (steady_field Burn.proofPending (fun _ => rfl) (goIdle_steady _)).trans (hproof.trans hpending)
  · exact (steady_field Burn.pendingOrigin (fun _ => rfl) (goIdle_steady _)).trans (horigin.trans hexternal)

/-- An owed LOCKOUT record is asked again in HELD (R87). -/
theorem heldMinute_joins {l : Lockout} (hstate : s.burn.state = .held) (hreason : s.burn.heldReason = .store)
    (howed : s.burn.lockoutOwed = true) (hasked : s.burn.lockoutAsked = false) (hnewest : s.burn.newest = some l)
    (hnone : s.burn.owed = []) (hasks : s.burn.asks = []) : (heldMinute s).burn.state = .held
      ∧ (heldMinute s).store.queue = s.store.queue ++ [⟨.lockout l.cause l.left l.stage l.wasPending,
        some (.lockout s.burn.lockouts)⟩] := by
  have hparked := askStore_parked (.lockout s.burn.lockouts) (.lockout l.cause l.left l.stage l.wasPending)
    (s.onBurn fun b => { b with lockoutAsked := true })
  rw [heldMinute_asks hstate hreason howed hasked hnewest hnone hasks]
  exact ⟨(parked_field Burn.state (fun _ => rfl) hparked).trans hstate, askStore_queue harray hroom rfl⟩

end

/-- BURN at the end of the hold, with the hold lifted and a program in flight. -/
theorem burnHoldEnds_lifts (hnow : (supplyRemoved s).burnHold = false)
    (harray : s.store.array = .programming q) (hroom : s.store.queue.length < 4) :
    s.holdLifts s.store.queue (burnHoldEnds s) := by
  obtain ⟨hunseen, hstore, hnotices, hrunning, hrunaway⟩ := burnHoldEnds_parts s
  have field {β : Type} (g : Burn → β) (hg : ∀ b : Burn, g b.unseen = g b) :
      g (burnHoldEnds s).burn = g (burnStateHoldEnds (supplyRemoved s)).burn := unseen_field g hg hunseen
  have hstate := field Burn.state fun _ => rfl
  have hinhibit := field Burn.inhibit fun _ => rfl
  have hstep := field Burn.lockStep fun _ => rfl
  have hcooldown := field Burn.cooldown fun _ => rfl
  have hreason := field Burn.heldReason fun _ => rfl
  have howed := field Burn.lockoutOwed fun _ => rfl
  have hproof := field Burn.proofPending fun _ => rfl
  have horigin := field Burn.pendingOrigin fun _ => rfl
  have hrelock := field Burn.relock fun _ => rfl
  have hreset := field Burn.resetOrigin fun _ => rfl
  have hphase := field Burn.resetPhase fun _ => rfl
  have hnewest := field Burn.newest fun _ => rfl
  have hrest : (supplyRemoved s).atRest (burnStateHoldEnds (supplyRemoved s)) → s.atRest (burnHoldEnds s) := fun h =>
    h.of_unseen rfl hunseen
  have hlit : s.inputs.lockout = some true → (supplyRemoved s).lampLit = true := fun h => beq_iff_eq.2 h
  have hdark : s.inputs.lockout ≠ some true → ¬ (supplyRemoved s).lampLit = true := fun h h' => h (beq_iff_eq.1 h')
  generalize hx : supplyRemoved s = x at *
  have hxburn : x.burn = { s.burn with inhibit := s.burn.inhibit.put false .supply } := by rw [← hx]; rfl
  have hxstore : x.store = s.store := by rw [← hx]; rfl
  have hxarray : x.store.array = .programming q := by rw [hxstore]; exact harray
  have hxroom : x.store.queue.length < 4 := by rw [hxstore]; exact hroom
  have hxinputs : x.inputs = s.inputs := by rw [← hx]; rfl
  have hxsett : x.sett = s.sett := by rw [← hx]; rfl
  have hxstate : x.burn.state = s.burn.state := by rw [hxburn]
  have hxowed : x.burn.lockoutOwed = s.burn.lockoutOwed := by rw [hxburn]
  have hxnone : x.burn.owed = s.burn.owed := by rw [hxburn]
  have hxasks : x.burn.asks = s.burn.asks := by rw [hxburn]
  have hxwindow : x.burn.window = s.burn.window := by rw [hxburn]
  have hlocked : s.burn.state = .locked → burnStateHoldEnds x
      = if s.burn.lockStep = .awaitMains then lockedHoldEnds x else x := fun h => by
    rw [burnStateHoldEnds_locked (hxstate.trans h), hxburn]
  refine ⟨?_, hrunning, fun h => ?_, fun h hawait => ?_, fun h hawait hon => ?_, fun h hawait hoff => ?_,
    fun h ho hon => ?_, fun h hn ha ho hon hopen hfew => ?_, fun h hn ha ho hoff => ?_,
    fun l h hr ho hna hl hon hn ha => ?_, fun h hoff => ⟨?_, hrunaway⟩, fun h hon => ?_⟩
  · rw [hinhibit, burnStateHoldEnds_inhibit, hxburn]
    rfl
  · have hstays : burnStateHoldEnds x = x := by
      unfold burnStateHoldEnds
      rw [hxstate, h]
      rfl
    rw [hstate, hstays, hxstate, h]
  · rw [hstate, hstep, hlocked h, if_neg (by rw [hawait]; decide), hxburn]
    exact ⟨h, hawait⟩
  · obtain ⟨hstored, hrefused, hnone⟩ := lockedHoldEnds_lit (s := x) (by rw [hxinputs]; exact hon)
    rw [hxburn] at hstored hrefused hnone
    rw [hxsett] at hstored
    have heq := (hlocked h).trans (if_pos hawait)
    rw [hstate, hcooldown, hreason, howed, hstep, heq]
    refine ⟨hstored, fun hanswer => ?_, fun hanswer => ?_⟩
    · obtain ⟨h1, h2, h3, h4⟩ := hrefused hanswer
      exact ⟨h1, h2, h3, hnotices _ (by rw [heq]; exact h4)⟩
    · obtain ⟨h1, h2⟩ := hnone hanswer
      exact ⟨h1.trans h, h2⟩
  · obtain ⟨hatrest, hpending, hfailures⟩ := lockedHoldEnds_dark (s := x) (by rw [hxinputs]; exact hoff)
    have heq := (hlocked h).trans (if_pos hawait)
    rw [hproof, hrelock, heq, hpending, hfailures, hxburn]
    exact ⟨hrest (by rw [heq]; exact hatrest), rfl, rfl⟩
  · have heq := (burnStateHoldEnds_held (hxstate.trans h)).trans (if_pos (hlit hon))
    obtain ⟨hclosed, hmost⟩ := heldMinute_waits (hxstate.trans h) (hxowed.trans ho)
    rw [State.par, hxsett] at hclosed hmost
    rw [hxwindow] at hmost
    rw [hstate, hreason, heq]
    exact ⟨hclosed, hmost⟩
  · have heq := (burnStateHoldEnds_held (hxstate.trans h)).trans (if_pos (hlit hon))
    have hopen' : x.par.authority = .openToAll := by rw [State.par, hxsett]; exact hopen
    have hfew' : x.burn.window.length < x.par.budget := by rw [State.par, hxsett, hxwindow]; exact hfew
    rw [heldMinute_begins (hxstate.trans h) (hxowed.trans ho) hopen' hfew' hnow] at heq
    have hbegins := beginReset_auto_joins hxarray hxroom (hxowed.trans ho) (hxnone.trans hn) (hxasks.trans ha) hfew'
    rw [hstate, hreset, hphase, hstore, heq]
    rwa [hxstore, hxwindow] at hbegins
  · have heq := (burnStateHoldEnds_held (hxstate.trans h)).trans (if_neg (hdark hoff))
    obtain ⟨hatrest, hpending, hexternal, hqueue⟩ :=
      takeDark_joins hxarray hxroom (hxowed.trans ho) (hxnone.trans hn) (hxasks.trans ha)
    rw [hxstore, hxwindow] at hqueue
    rw [hproof, horigin, hstore, heq]
    exact ⟨hrest (by rw [heq]; exact hatrest), hpending, hexternal, hqueue⟩
  · have heq := (burnStateHoldEnds_held (hxstate.trans h)).trans (if_pos (hlit hon))
    have hjoins := heldMinute_joins (l := l) hxarray hxroom (hxstate.trans h) (by rw [hxburn]; exact hr)
      (hxowed.trans ho) (by rw [hxburn]; exact hna) (by rw [hxburn]; exact hl) (hxnone.trans hn) (hxasks.trans ha)
    have hnumber : x.burn.lockouts = s.burn.lockouts := by rw [hxburn]
    rw [hxstore, hnumber] at hjoins
    rw [hstate, hstore, heq]
    exact hjoins
  · exact hrest (burnStateHoldEnds_inhibited (hxstate.trans h) (hdark hoff))
  · have heq := burnStateHoldEnds_lit (by rw [hxstate]; exact h) (hlit hon)
    have hview := enterLocked_view (if x.burn.stage.scarce then .starvation else .unknown) (some x.burn.state) x
    have hnotice := enterLocked_notice (if x.burn.stage.scarce then .starvation else .unknown) (some x.burn.state) x
    rw [← heq] at hview hnotice
    have hstage : x.burn.stage = s.burn.stage ∧ x.burn.proofPending = s.burn.proofPending := by
      rw [hxburn]
      exact ⟨rfl, rfl⟩
    have hcause : (if s.burn.stage.scarce then LockCause.starvation else .unknown)
        = if s.burn.stage = .reserve ∨ s.burn.stage = .dry then .starvation else .unknown := by
      cases s.burn.stage <;> rfl
    rw [hstage.1, hstage.2, hxstate, hcause] at hview
    rw [hstate, hnewest]
    exact ⟨congrArg (fun y => y.1) hview, hnotices _ hnotice, congrArg (fun y => y.2.1) hview⟩

end Sys2Proof.Machine
end

section
/-! PROOF. RETURN_TIMER_EXPIRY ends SUPPLY_HOLD (O56): the blocks together. -/

namespace Sys2Proof.Machine

variable {s t u v : State} {q : Program}

/-- A look at rotation leaves the array, the append queue and the answers. -/
theorem lookRotation_parts (hold : Bool) (st : Store) : (st.lookRotation hold).array = st.array
    ∧ (st.lookRotation hold).queue = st.queue ∧ (st.lookRotation hold).answers = st.answers := by
  unfold Store.lookRotation
  (repeat' split) <;> exact ⟨rfl, rfl, rfl⟩

/-- While a program runs a look at rotation starts nothing (R143, R144). -/
theorem lookAtRotation_programming (harray : s.store.array = .programming q) :
    lookAtRotation s = s.onStore (Store.lookRotation s.supply.hold) := by
  obtain ⟨hsame, -⟩ := lookRotation_parts s.supply.hold s.store
  exact kick_programming _ q (hsame.trans harray)

/-- The hold lifts for BURN as it stands where its entry, its inputs, the settings and the queue stand. -/
theorem State.holdLifts.of_same {before : List QueueEntry} (hburn : v.burn = s.burn) (hinputs : v.inputs = s.inputs)
    (hsett : v.sett = s.sett) (hburnt : u.burn = t.burn) (hqueuet : u.store.queue = t.store.queue)
    (hlink : u.link = t.link) (h : v.holdLifts before u) : s.holdLifts before t := by
  have hrest : v.atRest u = s.atRest t := by
    unfold State.atRest
    rw [hburnt, hinputs]
  obtain ⟨hinhibit, haccumulator, hlatched, hwaiting, hlit, hdark, hwaits, hbegins, hheld, hasks, hinhibited,
    hnormal⟩ := h
  rw [hburnt] at hinhibit
  rw [hburnt, hinputs] at haccumulator
  rw [hburn, hburnt] at hlatched hwaiting
  rw [hburn, hburnt, hinputs, hsett, hlink] at hlit
  rw [hburn, hburnt, hinputs, hrest] at hdark
  rw [hburn, hburnt, hinputs, hsett] at hwaits
  rw [hburn, hburnt, hinputs, hsett, hqueuet] at hbegins
  rw [hburn, hburnt, hinputs, hqueuet, hrest] at hheld
  rw [hburn, hburnt, hinputs, hqueuet] at hasks
  rw [hburn, hburnt, hinputs, hrest] at hinhibited
  rw [hburn, hburnt, hinputs, hlink] at hnormal
  exact ⟨hinhibit, haccumulator, hlatched, hwaiting, hlit, hdark, hwaits, hbegins, hheld, hasks, hinhibited, hnormal⟩

/-- What SUPPLY's telling leaves from the state `s` in which it is told, a program in flight (R157; log entry 83). -/
structure State.liftTold (s t : State) : Prop where
  inputs : t.inputs = { s.inputs with held := if s.burnActive then s.inputs.held else s.inputs.held ++ [.hold false] }
  store : ∃ l : List QueueEntry, t.store = { s.store with queue := s.store.queue ++ l }
  notices : ∀ n ∈ s.link.notices, n ∈ t.link.notices
  same : t.hide [.inputs, .burn, .store, .link, .posts] = s.hide [.inputs, .burn, .store, .link, .posts]
  burn : s.burnActive = true → s.holdLifts s.store.queue t

theorem tellBurn_liftTold (hhold : s.supply.hold = false) (harray : s.store.array = .programming q)
    (hroom : s.store.queue.length ≤ 2) : s.liftTold (tellBurn false burnHoldEnds s) := by
  by_cases hburning : s.burnActive = true
  · have htold : tellBurn false burnHoldEnds s = burnHoldEnds s := if_pos hburning
    have hnow : (supplyRemoved s).burnHold = false := by
      have hactive : (supplyRemoved s).burnActive = true := hburning
      rw [burnHold_of_burnActive hactive]
      exact hhold
    obtain ⟨⟨l, -, hstore⟩, e, hnotices⟩ := State.enqueues.burnHoldEnds (s := s) ⟨q, harray⟩ (by omega)
    rw [htold]
    refine ⟨?_, ⟨l, hstore⟩, hnotices, hide_of_subset (by decide) e,
      fun _ => burnHoldEnds_lifts hnow harray (by omega)⟩
    rw [if_pos hburning]
    exact hide_eq_iff.1 e .inputs (by decide)
  · rw [tellBurn_before false burnHoldEnds (Bool.eq_false_iff.2 hburning)]
    refine ⟨by rw [if_neg hburning]; rfl, ⟨[], by rw [List.append_nil]; rfl⟩, fun _ h => h, by simp,
      fun h => absurd h hburning⟩

/-- The state in which the blocks are told that the hold has ended (R157). -/
def liftNoted (s : State) : State :=
  postNotice .mains (appendRecord (.mains (s.store.runMinute - s.supply.holdStart)) none (s.onSupply fun p =>
    { p with hold := false, returnTimer := none, lastDuration := some (s.store.runMinute - s.supply.holdStart) }))

theorem liftNoted_ready (h : s.store.ready) : liftNoted s = postNotice .mains { s with
    supply := { s.supply with
      hold := false, returnTimer := none, lastDuration := some (s.store.runMinute - s.supply.holdStart) }
    store := s.store.appending (.mains (s.store.runMinute - s.supply.holdStart)) none } := by
  unfold liftNoted
  rw [appendRecord_ready _ _ (s.onSupply _) h]
  rfl

theorem exec_returnTimerExpiry {n : Nat} (hactive : s.supplyActive = true) (hhold : s.supply.hold = true)
    (htimer : s.supply.returnTimer = some n) : exec .returnTimerExpiry s = .next (tellHoldEnds (liftNoted s)) := by
  have hall : s.supplyActive = true ∧ s.supply.hold = true ∧ s.supply.returnTimer.isSome :=
    ⟨hactive, hhold, by rw [htimer]; rfl⟩
  change Host.Outcome.next (if s.supplyActive = true ∧ s.supply.hold = true ∧ s.supply.returnTimer.isSome then
    endHold s else s) = _
  rw [if_pos hall]
  rfl

/-- The blocks after SUPPLY's telling: ZONE, GAUGE and STORE's look at rotation (R61, R121, R144). -/
def plantLifted (s : State) : State := lookAtRotation ((zonesHoldEnds s).onGauge Gauge.holdEnds)

theorem tellHoldEnds_eq (s : State) :
    tellHoldEnds s = settle (plantLifted (tellBurn false burnHoldEnds (outHoldEnds s))) := rfl

/-- ZONE, GAUGE and STORE at the end of the hold, while the MAINS record is programmed. -/
structure State.plantLifts (s t : State) : Prop where
  same : t.hide [.zone, .gauge, .store, .posts] = s.hide [.zone, .gauge, .store, .posts]
  zones : ∀ z : Fin 6, t.zone.zones[z]
    = s.zone.zones[z].holdEnded (s.inputs.ends[z] == some true) s.sett.working.zones[z].travel
  formed : t.plantFormed
  gauge : t.gauge = { s.gauge with counter := 0, faulty := 0 }
  array : t.store.array = s.store.array
  queue : t.store.queue = s.store.queue

theorem plantLifted_lifts (harray : s.store.array = .programming q) (hanswers : s.store.answers = []) :
    s.plantLifts (settle (plantLifted s)) := by
  have ezone : (zonesHoldEnds s).hide [.zone, .posts] = s.hide [.zone, .posts] := by simp
  obtain ⟨hzones, hformed⟩ := zonesHoldEnds_zone s
  have hgauge : (zonesHoldEnds s).gauge = s.gauge := hide_eq_iff.1 ezone .gauge (by decide)
  have hstore : (zonesHoldEnds s).store = s.store := hide_eq_iff.1 ezone .store (by decide)
  unfold plantLifted
  generalize zonesHoldEnds s = v at *
  have hstorev : (v.onGauge Gauge.holdEnds).store = s.store := hstore
  obtain ⟨harrayl, hqueuel, hanswersl⟩ :=
    lookRotation_parts (v.onGauge Gauge.holdEnds).supply.hold (v.onGauge Gauge.holdEnds).store
  rw [lookAtRotation_programming (q := q) (by rw [hstorev]; exact harray)]
  rw [hstorev] at harrayl hqueuel hanswersl
  have hsettled := settle_without_answers ((v.onGauge Gauge.holdEnds).onStore
    (Store.lookRotation (v.onGauge Gauge.holdEnds).supply.hold)) (by
      rw [onStore_store, hstorev, hanswersl]
      exact hanswers)
  rw [hsettled]
  have esame : v.hide [.zone, .gauge, .store, .posts] = s.hide [.zone, .gauge, .store, .posts] :=
    hide_of_subset (by decide) ezone
  refine ⟨?_, hzones, hformed, ?_, ?_, ?_⟩
  · rw [hide_onStore _ _ (by decide), hide_onGauge _ _ (by decide), esame]
  · exact congrArg Gauge.holdEnds hgauge
  · rw [onStore_store, hstorev, harrayl]
  · rw [onStore_store, hstorev, hqueuel]

/-- A zone at the end of the hold, case by case (R61). -/
theorem holdEnded_cases (made : Bool) (travel : Nat) (zn : Zone) :
    (zn.call = false ∨ zn.state ≠ .idle → zn.holdEnded made travel = zn)
      ∧ (zn.call = true → zn.state = .idle → made = false →
        zn.holdEnded made travel = { zn with state := .opening, timer := .travel (1000 * travel) })
      ∧ (zn.call = true → zn.state = .idle → made = true →
        zn.holdEnded made travel = { zn with state := .opened, timer := .stopped }) := by
  unfold Zone.holdEnded
  refine ⟨fun h => if_neg ?_, fun hcall hidle hmade => ?_, fun hcall hidle hmade => ?_⟩
  · rintro ⟨hcall, hidle⟩
    obtain h | h := h
    · rw [hcall] at h
      cases h
    · exact h hidle
  · rw [if_pos ⟨hcall, hidle⟩, hmade]
    rfl
  · rw [if_pos ⟨hcall, hidle⟩, hmade]
    rfl

/-- The channels go by Table 2-4 when the hold has ended (R22, R36). -/
theorem tellHoldEnds_outputs (s : State) : (tellHoldEnds s).outputsByTable := by
  have hdriven : kept_drivenBut.holds ∅ (tellHoldEnds s) := (drivenBut_univ s).tellHoldEnds
  exact drivenBut_empty.1 hdriven

theorem liftNoted_parts (h : s.store.ready) : (liftNoted s).supply = { s.supply with
      hold := false, returnTimer := none, lastDuration := some (s.store.runMinute - s.supply.holdStart) }
    ∧ (liftNoted s).store = s.store.appending (.mains (s.store.runMinute - s.supply.holdStart)) none
    ∧ .mains ∈ (liftNoted s).link.notices ∧ (liftNoted s).burnActive = s.burnActive
    ∧ (liftNoted s).hide [.store, .supply, .link] = s.hide [.store, .supply, .link] := by
  rw [liftNoted_ready h]
  exact ⟨rfl, rfl, mem_insertNotice.2 (.inl rfl), rfl, rfl⟩

/-- Settles O56: the MAINS record is programmed, behind it BURN's records join the queue, and the plant goes on. -/
theorem supplyHoldEnds : Obligations.SupplyHoldEnds := by
  intro n s hactive hhold htimer hready
  obtain ⟨hsupply, hstore, hmains, hburning, enoted⟩ := liftNoted_parts hready
  have houtputs := tellHoldEnds_outputs (liftNoted s)
  have eout : (outHoldEnds (liftNoted s)).hide [.out, .posts] = (liftNoted s).hide [.out, .posts] := by simp
  have hchannels := fun ch => outHoldEnds_channel ch (liftNoted s)
  obtain ⟨-, -, hanswers, -⟩ := hready
  refine ⟨_, exec_returnTimerExpiry hactive hhold htimer, ?_⟩
  rw [tellHoldEnds_eq] at houtputs ⊢
  have hnotedOut : (liftNoted s).out = s.out := hide_eq_iff.1 enoted .out (by decide)
  rw [hnotedOut] at hchannels
  generalize liftNoted s = v at *
  generalize outHoldEnds v = x at *
  have hxsupply : x.supply = v.supply := hide_eq_iff.1 eout .supply (by decide)
  have hxstore : x.store = v.store := hide_eq_iff.1 eout .store (by decide)
  have hxlink : x.link = v.link := hide_eq_iff.1 eout .link (by decide)
  have hxactive : x.burnActive = s.burnActive := (burnActive_of_hide _ eout (by decide)).trans hburning
  have hxburn : x.burn = s.burn := (hide_eq_iff.1 eout .burn (by decide)).trans (hide_eq_iff.1 enoted .burn (by decide))
  have hxinputs : x.inputs = s.inputs :=
    (hide_eq_iff.1 eout .inputs (by decide)).trans (hide_eq_iff.1 enoted .inputs (by decide))
  have hxsett : x.sett = s.sett := (hide_eq_iff.1 eout .sett (by decide)).trans (hide_eq_iff.1 enoted .sett (by decide))
  have hxzone : x.zone = s.zone := (hide_eq_iff.1 eout .zone (by decide)).trans (hide_eq_iff.1 enoted .zone (by decide))
  have hxgauge : x.gauge = s.gauge :=
    (hide_eq_iff.1 eout .gauge (by decide)).trans (hide_eq_iff.1 enoted .gauge (by decide))
  have hqueue : x.store.queue = [⟨.mains (s.store.runMinute - s.supply.holdStart), none⟩] := by
    rw [hxstore, hstore]
    rfl
  have harray : x.store.array = .programming
      (.append (s.store.recordOf (.mains (s.store.runMinute - s.supply.holdStart))) none) := by
    rw [hxstore, hstore]
    rfl
  have htold := tellBurn_liftTold (s := x) (by rw [hxsupply, hsupply]) harray (by rw [hqueue]; exact Nat.le_succ 1)
  generalize tellBurn false burnHoldEnds x = b at *
  obtain ⟨l, hbstore⟩ := htold.store
  have hplant := plantLifted_lifts (s := b) (by rw [hbstore]; exact harray)
    (by rw [hbstore, hxstore, hstore]; exact hanswers)
  generalize settle (plantLifted b) = t at *
  have hbsame := hide_eq_iff.1 htold.same
  have htsame := hide_eq_iff.1 hplant.same
  have hends : b.inputs.ends = s.inputs.ends := by rw [htold.inputs, hxinputs]
  have hbzone : b.zone = s.zone := (hbsame .zone (by decide)).trans hxzone
  have hbsett : b.sett = s.sett := (hbsame .sett (by decide)).trans hxsett
  have hbgauge : b.gauge = s.gauge := (hbsame .gauge (by decide)).trans hxgauge
  have htout : t.out = x.out := (htsame .out (by decide)).trans (hbsame .out (by decide))
  have htsupply : t.supply = v.supply :=
    (htsame .supply (by decide)).trans ((hbsame .supply (by decide)).trans hxsupply)
  have htlink : b.link = t.link := (htsame .link (by decide)).symm
  have htburn : b.burn = t.burn := (htsame .burn (by decide)).symm
  have htinputs : t.inputs = b.inputs := htsame .inputs (by decide)
  refine ⟨?_, ?_, ?_⟩
  · exact hide_eq_iff.1 (((hide_of_subset (by decide) hplant.same).trans (hide_of_subset (by decide) htold.same)).trans
      ((hide_of_subset (by decide) eout).trans (hide_of_subset (by decide) enoted)))
  · rw [htinputs, htold.inputs, hxinputs, hxactive]
  rintro m rfl
  refine ⟨htsupply.trans hsupply, ?_, ?_, ⟨l, ?_⟩, fun ch => ?_, fun z => ?_, hplant.formed, ?_, fun hburns => ?_⟩
  · rw [← htlink]
    exact htold.notices _ (by rw [hxlink]; exact hmains)
  · rw [hplant.array, hbstore]
    exact harray
  · rw [hplant.queue, hbstore]
    exact congrArg (· ++ l) hqueue
  · obtain ⟨hsettle, hdemand, hload⟩ := hchannels ch
    rw [htout]
    exact ⟨hsettle, htout ▸ houtputs ch, hdemand, hload⟩
  · rw [hplant.zones z, hbzone, hends, hbsett]
    obtain ⟨hstays, hopening, hopened⟩ :=
      holdEnded_cases (s.inputs.ends[z] == some true) s.sett.working.zones[z].travel s.zone.zones[z]
    exact ⟨hstays, fun hcall hidle hmade => hopening hcall hidle (beq_eq_false_iff_ne.2 hmade),
      fun hcall hidle hmade => hopened hcall hidle (beq_iff_eq.2 hmade)⟩
  · rw [hplant.gauge, hbgauge]
  · have hlifts := (htold.burn (hxactive.trans hburns)).of_same hxburn hxinputs hxsett htburn hplant.queue.symm htlink
    rw [hqueue] at hlifts
    exact ⟨hlifts.inhibit, hlifts.accumulator, hlifts.latched, hlifts.waiting,
      fun h hawait => ⟨hlifts.lit h hawait, hlifts.dark h hawait⟩,
      fun h hnone hasks howed => ⟨fun hlit => ⟨(hlifts.heldWaits h howed hlit).1, (hlifts.heldWaits h howed hlit).2,
        hlifts.heldBegins h hnone hasks howed hlit⟩, hlifts.heldDark h hnone hasks howed⟩,
      hlifts.heldAsks, hlifts.inhibited, hlifts.normal⟩

end Sys2Proof.Machine
end

section
/-! PROOF. What a look at rotation leaves (O51): the history's newest records and those a rotation carries forward
(R145), the guard, and R144's cases. -/

namespace Sys2Proof.Machine

variable {r : Record} {p stop : Record → Bool} {h : List Record}

/-! ## A history in order of its original sequence -/

/-- Of records in order of their original sequence, two with the same one are the same. -/
theorem eq_of_origin {x y : Record} (hs : h.Pairwise fun x y => x.origin < y.origin) (hx : x ∈ h) (hy : y ∈ h)
    (e : x.origin = y.origin) : x = y := by
  by_contra hne
  have hsymm : Std.Symm fun x y : Record => x.origin ≠ y.origin := ⟨fun _ _ => Ne.symm⟩
  have hdistinct : h.Pairwise fun x y => x.origin ≠ y.origin := hs.imp fun hlt => Nat.ne_of_lt hlt
  exact hdistinct.forall hx hy hne e

/-- The last of records in order is the one of the greatest original sequence. -/
theorem getLast?_eq_some_iff_greatest (hs : h.Pairwise fun x y => x.origin < y.origin) :
    h.getLast? = some r ↔ r ∈ h ∧ ∀ x ∈ h, x.origin ≤ r.origin := by
  have hlast : ∀ q, h.getLast? = some q → q ∈ h ∧ ∀ x ∈ h, x.origin ≤ q.origin := by
    intro q hq
    obtain ⟨l, rfl⟩ := List.getLast?_eq_some_iff.1 hq
    obtain ⟨-, -, hbelow⟩ := List.pairwise_append.1 hs
    refine ⟨by simp, fun x hx => ?_⟩
    obtain hx | hx := List.mem_append.1 hx
    · exact (hbelow x hx q (by simp)).le
    · rw [List.mem_singleton.1 hx]
  refine ⟨hlast r, fun ⟨hr, hmost⟩ => ?_⟩
  cases hq : h.getLast? with
  | none =>
    rw [List.getLast?_eq_none_iff.1 hq] at hr
    cases hr
  | some q =>
    obtain ⟨hmem, hgreatest⟩ := hlast q hq
    rw [eq_of_origin hs hmem hr (le_antisymm (hmost q hmem) (hgreatest r hr))]

variable (hs : h.Pairwise fun x y => x.origin < y.origin)
include hs

theorem newest_eq_some_iff : newest p h = some r ↔
    r ∈ h ∧ p r = true ∧ ∀ x ∈ h, p x = true → x.origin ≤ r.origin := by
  unfold newest
  rw [getLast?_eq_some_iff_greatest (hs.filter p)]
  simp only [List.mem_filter, and_assoc, and_imp]

omit hs in
theorem mem_newestUnless : r ∈ newestUnless p stop h ↔
    newest p h = some r ∧ ¬ ∃ x ∈ h, stop x = true ∧ r.origin < x.origin := by
  have hstanding : ∀ q, r ∈ standing stop h q ↔ q = r ∧ ¬ ∃ x ∈ h, stop x = true ∧ q.origin < x.origin := fun q => by
    have hfollows : ((newerThan q h).any stop = true) ↔ ∃ x ∈ h, stop x = true ∧ q.origin < x.origin := by
      simp only [newerThan, List.any_filter, List.any_eq_true, Bool.and_eq_true, decide_eq_true_eq]
      exact exists_congr fun x => and_congr_right fun _ => and_comm
    unfold standing
    rw [← hfollows]
    split
    · next hq => simp [hq]
    · next hq => simp [hq, eq_comm]
  unfold newestUnless
  cases newest p h with
  | none => simp
  | some q =>
    refine (hstanding q).trans ?_
    rw [Option.some_inj]
    exact and_congr_right fun e => by rw [e]

theorem mem_failuresSince : r ∈ failuresSince h ↔ r ∈ h ∧ r.isFailure = true
    ∧ ¬ ∃ x ∈ h, (x.isRecovered || x.isAck) = true ∧ r.origin < x.origin := by
  unfold failuresSince
  cases hnewest : newest (fun r => r.isRecovered || r.isAck) h with
  | none =>
    have hnever : ∀ x ∈ h, ¬ (x.isRecovered || x.isAck) = true := by
      unfold newest at hnewest
      exact List.filter_eq_nil_iff.1 (List.getLast?_eq_none_iff.1 hnewest)
    rw [List.mem_filter]
    exact and_congr_right fun _ => (and_iff_left fun ⟨x, hx, hp, _⟩ => hnever x hx hp).symm
  | some q =>
    obtain ⟨hq, hqp, hmost⟩ := (newest_eq_some_iff hs).1 hnewest
    simp only [newerThan, List.mem_filter, decide_eq_true_eq]
    refine ⟨fun ⟨⟨hr, hlt⟩, hf⟩ => ⟨hr, hf, fun ⟨x, hx, hxp, hxlt⟩ => ?_⟩, fun ⟨hr, hf, hnot⟩ => ⟨⟨hr, ?_⟩, hf⟩⟩
    · exact absurd (hmost x hx hxp) (by omega)
    · by_contra hle
      have hnotBefore : ¬ r.origin < q.origin := fun hlt => hnot ⟨q, hq, hqp, hlt⟩
      have hsame : r = q := eq_of_origin hs hr hq (by omega)
      have hneither : ∀ x : Record, x.isFailure = true → (x.isRecovered || x.isAck) = false := by
        intro x hx
        unfold Record.isFailure at hx
        unfold Record.isRecovered Record.isAck
        split at hx
        · next e => simp [e]
        · next e => simp [e]
        · cases hx
      rw [← hsame, hneither r hf] at hqp
      cases hqp

omit hs

/-! ## The records a rotation carries forward (R145) -/

variable {st : Store}

/-- Records in order with the same members are the same list. -/
theorem eq_of_origin_sorted {l l' : List Record} (hl : l.Pairwise fun x y => x.origin < y.origin)
    (hl' : l'.Pairwise fun x y => x.origin < y.origin) (hmem : ∀ r, r ∈ l ↔ r ∈ l') : l = l' := by
  have : Std.Irrefl fun x y : Record => x.origin < y.origin := ⟨fun _ => Nat.lt_irrefl _⟩
  have : Std.Antisymm fun x y : Record => x.origin < y.origin :=
    ⟨fun _ _ hxy hyx => absurd hxy (Nat.lt_asymm hyx)⟩
  exact hl.eq_of_mem_iff hl' hmem

theorem mem_newestUnless_history (hn : st.numbered) :
    r ∈ newestUnless p stop st.history ↔ st.newestOf p r ∧ ¬ st.followed stop r := by
  obtain ⟨hs, hkeeps⟩ := history_sorted st hn
  rw [mem_newestUnless, newest_eq_some_iff hs]
  simp only [hkeeps]
  rfl

theorem mem_failuresSince_history (hn : st.numbered) : r ∈ failuresSince st.history ↔ st.failing r := by
  obtain ⟨hs, hkeeps⟩ := history_sorted st hn
  rw [mem_failuresSince hs]
  simp only [hkeeps]
  rfl

/-- What a rotation would carry is what R145 lists. -/
theorem mem_liveRecords (hn : st.numbered) : r ∈ liveRecords st.history ↔ st.live r := by
  obtain ⟨-, hkeeps⟩ := history_sorted st hn
  have hnothing : ¬ st.followed (fun _ => false) r := fun ⟨_, _, hstop, _⟩ => Bool.false_ne_true hstop
  have hlisted : r ∈ liveRecords st.history ↔ st.keeps r ∧ st.live r := by
    unfold liveRecords Store.live
    simp only [List.mem_filter, List.mem_append, decide_eq_true_eq, mem_newestUnless_history hn,
      mem_failuresSince_history hn, hkeeps, or_assoc, and_assoc, hnothing, not_false_eq_true, and_true,
      and_comm (a := ¬ st.followed (fun x => x.isReset || x.isAck) r) (b := r.isStarvation = true),
      and_comm (a := ¬ st.followed Record.isDelivery r) (b := r.isSuspect = true)]
  rw [hlisted]
  refine and_iff_right_of_imp fun hlive => ?_
  obtain ⟨⟨hkept, -⟩, -⟩ | ⟨⟨hkept, -⟩, -⟩ | ⟨⟨hkept, -⟩, -⟩ | ⟨hkept, -⟩ | ⟨hkept, -⟩ | ⟨⟨hkept, -⟩, -⟩ := hlive
  all_goals exact hkept

/-! ## The guard (R144) -/

theorem foldl_max_pos (f : Record → Nat) (l : List Record) (m : Nat) :
    0 < l.foldl (fun m r => max m (f r)) m ↔ 0 < m ∨ ∃ r ∈ l, 0 < f r := by
  induction l generalizing m with
  | nil => simp
  | cons a rest ih =>
    rw [List.foldl_cons, ih]
    simp [or_assoc]

theorem guardLeft_pos {i : Fin 4} : 0 < guardLeft st.runMinute st.sectors[i] ↔
    ∃ r, st.lies i r ∧ r.payload.safety = true ∧ st.runMinute < r.stamp + 1440 := by
  unfold guardLeft guardMinutes
  rw [foldl_max_pos]
  simp only [List.mem_filter, mem_goods, Nat.lt_irrefl, false_or, and_assoc]
  exact exists_congr fun r => and_congr_right fun _ => and_congr_right fun _ => by omega

/-! ## The look -/

theorem rotationNeeded_iff {i : Fin 4} (hhead : st.head = some i) : st.rotationNeeded = true ↔
    56 ≤ st.sectors[i].slots.length ∧ st.sectors[i + 1].mark ≠ .erased := by
  unfold Store.rotationNeeded
  rw [hhead]
  dsimp only
  rw [Bool.and_eq_true, decide_eq_true_eq, decide_eq_true_eq, Sector.room, slotsPerSector]
  exact and_congr (by omega) Iff.rfl

/-- A look at rotation leaves what R144 and R145 say. -/
theorem lookRotation_byRule (hold : Bool) (hn : st.numbered) : st.rotatedByRule hold (st.lookRotation hold) := by
  refine ⟨fun hstarted => ?_, fun hstarted i hhead => ⟨fun hnot => ?_, fun hfull hmark => ?_⟩⟩
  · have heq : st.lookRotation hold = { st with setBack := st.whySetBack hold } := if_pos hstarted
    rw [heq]
    refine ⟨rfl, rfl, ?_⟩
    unfold Store.whySetBack
    dsimp only
    cases st.reading <;> rfl
  · have hunneeded : ¬ st.rotationNeeded = true := fun hneeded => by
      obtain ⟨hroom, hmark⟩ := (rotationNeeded_iff hhead).1 hneeded
      exact hnot.elim (fun hlt => absurd hroom (Nat.not_le.2 hlt)) hmark
    unfold Store.lookRotation
    rw [if_neg (by simp [hstarted]), if_neg hunneeded]
    exact ⟨rfl, rfl⟩
  · have hneeded : st.rotationNeeded = true := (rotationNeeded_iff hhead).2 ⟨hfull, hmark⟩
    have hguard : (0 < guardLeft st.runMinute st.sectors[i + 1]) ↔ st.guarded i := guardLeft_pos
    have htail : st.tail = some (i + 1) := by
      unfold Store.tail
      rw [hhead]
      rfl
    unfold Store.lookRotation
    rw [if_neg (by simp [hstarted]), if_pos hneeded, htail]
    dsimp only
    refine ⟨fun hg => ?_, fun hg hhold => ?_, fun hg hhold hread => ?_, fun hg hhold hread => ?_⟩
    · rw [if_pos (hguard.2 hg)]
      exact ⟨rfl, rfl⟩
    · rw [if_neg fun h => hg (hguard.1 h), if_pos hhold]
      exact ⟨rfl, rfl⟩
    · rw [if_neg fun h => hg (hguard.1 h), if_neg (by simp [hhold]), if_pos (Option.isSome_iff_ne_none.2 hread)]
      exact ⟨rfl, rfl⟩
    · rw [if_neg fun h => hg (hguard.1 h), if_neg (by simp [hhold]), if_neg (by simp [hread])]
      refine ⟨rfl, fun l hl hmem => congrArg (st.carryWork ++ ·) ?_⟩
      obtain ⟨hs, -⟩ := history_sorted st hn
      refine eq_of_origin_sorted ((hs.filter _).filter _) hl fun r => ?_
      rw [hmem, List.mem_filter, mem_liveRecords hn, decide_eq_true_eq, mem_goods]

end Sys2Proof.Machine
end

section
/-! PROOF. A run minute (O51): its stages, the counts of OUT, ZONE and FUEL, STORE's clock and its look at rotation. -/

namespace Sys2Proof.Machine

variable {s t u v : State}

/-! ## STORE with nothing asked -/

/-- No append and no reading waits for the array, and no answer for BURN. -/
def Store.unasked (st : Store) : Prop := st.queue = [] ∧ st.reading = none ∧ st.answers = []

/-- Nothing is asked of STORE, and from `s` to `t` only STORE and the image's mark change. -/
def State.idles (s t : State) : Prop :=
  t.store.unasked ∧ t.par = s.par ∧ t.hide [.store, .sett] = s.hide [.store, .sett]

namespace State.idles

theorem refl (h : s.store.unasked) : s.idles s := ⟨h, rfl, rfl⟩

theorem trans (h : s.idles u) (ht : u.idles t) : s.idles t := by
  obtain ⟨-, hpar, e⟩ := h
  obtain ⟨hunasked, hpart, et⟩ := ht
  exact ⟨hunasked, hpart.trans hpar, et.trans e⟩

theorem onStore {f : Store → Store} (hf : (f s.store).unasked) : s.idles (s.onStore f) :=
  ⟨hf, rfl, hide_onStore _ _ (by decide)⟩

theorem startErase (h : s.store.unasked) (e : startErase s = some t) : s.idles t := by
  unfold Machine.startErase at e
  repeat' split at e
  all_goals cases e
  · exact onStore h
  · exact ⟨h, rfl, by simp⟩

theorem serveOnce (h : s.store.unasked) (e : serveOnce s = some t) : s.idles t := by
  have ⟨hqueue, hreading, _⟩ := h
  have happend : s.store.serveAppend = none := by
    unfold Store.serveAppend
    rw [hqueue]
  have hcarry : ∀ st, s.store.serveCarry = some st → st.unasked := fun st e => by
    unfold Store.serveCarry at e
    repeat' split at e
    all_goals cases e
    all_goals exact h
  have hkeep : ∀ st, s.store.serveKeep = some st → st.unasked := fun st e => by
    unfold Store.serveKeep at e
    split at e
    all_goals cases e
    exact h
  have hsuspended : ∀ st, s.store.serveSuspended = some st → st.unasked := fun st e => by
    unfold Store.serveSuspended at e
    split at e
    all_goals cases e
    exact h
  have hinner : ∀ st, s.store.serveInner = some st → st.unasked := fun st e => by
    unfold Store.serveInner at e
    rw [happend] at e
    dsimp only at e
    split at e
    · next he =>
      cases e
      exact hcarry _ he
    · split at e
      · next he =>
        cases e
        exact hkeep _ he
      · exact hsuspended st e
  unfold Machine.serveOnce at e
  rw [hreading] at e
  dsimp only at e
  split at e
  · next he =>
    cases e
    exact onStore (hinner _ he)
  · exact startErase h e

theorem serve (n : Nat) (h : s.store.unasked) : s.idles (serve n s) := by
  induction n generalizing s with
  | zero => exact refl h
  | succ n ih =>
    unfold Machine.serve
    split
    · split
      · next he => exact (serveOnce h he).trans (ih (serveOnce h he).1)
      · exact refl h
    · exact refl h

theorem lookAtRotation (h : s.store.unasked) : s.idles (lookAtRotation s) := by
  have hlook : s.idles (s.onStore (Store.lookRotation s.supply.hold)) := by
    refine onStore ?_
    unfold Store.lookRotation
    (repeat' split) <;> exact h
  have hkick : ∀ x : State, x.store.unasked → x.idles (kick x) := fun x hx => by
    unfold kick
    split
    · exact serve _ hx
    · split
      · exact (onStore (f := fun st => { st with array := .free, suspended := _ }) hx).trans (serve _ hx)
      · exact refl hx
    · exact refl hx
  exact hlook.trans (hkick _ hlook.1)

end State.idles

/-- A look at rotation with nothing to do leaves the state. -/
theorem lookAtRotation_quiet (h : s.store.quiet) : lookAtRotation s = s := by
  obtain ⟨halone, hfree, hqueue, hkeep, hneeded⟩ := h
  have ⟨_, _, _, _, hrotation, _, _⟩ := halone
  have hlook : s.store.lookRotation s.supply.hold = s.store := by
    unfold Store.lookRotation
    rw [hrotation, if_neg (by decide), hneeded, if_neg Bool.false_ne_true]
    exact congrArg (fun r => { s.store with rotation := r }) hrotation.symm
  have hsame : s.onStore (Store.lookRotation s.supply.hold) = s := by
    change { s with store := s.store.lookRotation s.supply.hold } = s
    rw [hlook]
  change kick (s.onStore (Store.lookRotation s.supply.hold)) = s
  rw [hsame]
  unfold kick
  rw [hfree]
  exact serve_nothing _ s halone hqueue (by rw [hkeep]; exact fun _ _ _ => nofun)

/-! ## The stages of a run minute -/

/-- STORE's look at rotation, once the scan's findings are handed over (R144, R154). -/
def minuteLook (s : State) : State := if s.storeActive then lookAtRotation s else s

/-- The counts of OUT and ZONE (R26, R56). -/
def plantMinute (s : State) : State := zonesMinute (countOverrides s)

/-- The state in which a run minute reaches BURN (log entry 32). -/
def minuteTold (s : State) : State := whenRunning plantMinute (minuteLook (s.onStore Store.minute))

/-- FUEL's counts, after BURN's (R126, R129, R134). -/
def fuelMinute (s : State) : State := whenRunning (fun v => v.onFuel Fuel.minute) s

/-- What a run minute leaves (R137). -/
def minuteOver (s : State) : State := settle (fuelMinute (ifBurning burnMinute (minuteTold s)))

theorem exec_runMinute (hset : s.store.minutesSet = true) (hphase : s.phase ≠ .unpowered) :
    exec .runMinute s = .next (minuteOver s) := by
  have hcounts : (s.store.minutesSet && s.phase != .unpowered) = true := by simp [hset, hphase]
  change Host.Outcome.next (if (s.store.minutesSet && s.phase != .unpowered) = true then
    blocksMinute (s.onStore Store.minute) else s) = _
  rw [if_pos hcounts]
  rfl

theorem exec_runMinute_waits (h : s.store.minutesSet = false ∨ s.phase = .unpowered) :
    exec .runMinute s = .next s := by
  have hwaits : ¬ (s.store.minutesSet && s.phase != .unpowered) = true := by
    obtain h | h := h <;> simp [h]
  change Host.Outcome.next (if (s.store.minutesSet && s.phase != .unpowered) = true then
    blocksMinute (s.onStore Store.minute) else s) = _
  rw [if_neg hwaits]

variable {F : List Block}

@[simp] theorem hide_minuteLook (s : State) (store : Block.store ∈ F) (link : Block.link ∈ F) (sett : Block.sett ∈ F) :
    (minuteLook s).hide F = s.hide F := by
  unfold minuteLook
  split <;> simp [store, link, sett]

@[simp] theorem hide_plantMinute (s : State) (out : Block.out ∈ F) (zone : Block.zone ∈ F) :
    (plantMinute s).hide F = s.hide F := by
  unfold plantMinute
  simp [out, zone]

@[simp] theorem hide_fuelMinute (s : State) (fuel : Block.fuel ∈ F) : (fuelMinute s).hide F = s.hide F :=
  hide_whenRunning _ _ fun _ => hide_onFuel _ _ fuel

/-- What the minute leaves between BURN and STORE. -/
theorem minuteTold_hide (s : State) : (minuteTold s).hide [.out, .zone]
    = (minuteLook (s.onStore Store.minute)).hide [.out, .zone] := by
  unfold minuteTold
  rw [hide_whenRunning _ _ fun _ => hide_plantMinute _ (by decide) (by decide)]

/-! ## OUT, ZONE and FUEL (R26, R56, R126, R129, R134) -/

theorem plantMinute_parts (s : State) :
    (∀ ch : Fin 10, (plantMinute s).out.channels[ch] = { s.out.channels[ch] with
      override := s.out.channels[ch].override.map fun (v, m) => (v, m - 1) })
    ∧ ∀ z : Fin 6, (plantMinute s).zone.zones[z] = s.zone.zones[z].minute := by
  have ezone : (plantMinute s).hide [.zone] = (countOverrides s).hide [.zone] := hide_zonesMinute _ (by decide)
  have eout : (countOverrides s).hide [.out] = s.hide [.out] := by simp
  have hout : (plantMinute s).out = (countOverrides s).out := hide_eq_iff.1 ezone .out (by decide)
  have hzone : (countOverrides s).zone = s.zone := hide_eq_iff.1 eout .zone (by decide)
  refine ⟨fun ch => ?_, fun z => ?_⟩
  · rw [hout]
    exact eachChannel_onChan _ ch s
  · rw [← hzone]
    exact eachZone_entry (P := fun _ => True) (g := fun _ zn => zn.minute) (fun _ _ _ => trivial)
      (fun z y v _ => onZone_entry z y Zone.minute v) trivial z

theorem Zone.minute_eq (zn : Zone) : zn.minute = { zn with
    timer := match zn.timer with
      | .retry n => .retry (n - 1) | .travel ms => .travel ms | .stopped => .stopped } := by
  unfold Zone.minute
  cases htimer : zn.timer with
  | retry n => rfl
  | travel ms => simp [← htimer]
  | stopped => simp [← htimer]

/-- With the work begun, every count of OUT, ZONE and FUEL goes down with the minute. -/
theorem minute_counts (hrunning : s.running = true)
    (ht : t = minuteOver s) :
    (∀ ch : Fin 10, t.out.channels[ch] = { s.out.channels[ch] with
      override := s.out.channels[ch].override.map fun (v, m) => (v, m - 1) })
    ∧ (∀ z : Fin 6, t.zone.zones[z] = { s.zone.zones[z] with
      timer := match s.zone.zones[z].timer with
        | .retry n => .retry (n - 1) | .travel ms => .travel ms | .stopped => .stopped })
    ∧ t.fuel = { s.fuel with
      periodTimer := s.fuel.periodTimer - 1, trendTimer := s.fuel.trendTimer - 1
      settling := s.fuel.settling.map fun x => { x with minutes := min (x.minutes + 1) 60 } } := by
  unfold minuteOver at ht
  have elook : (minuteLook (s.onStore Store.minute)).hide [.store, .link, .sett] = s.hide [.store, .link, .sett] := by
    simp
  have hlook := hide_eq_iff.1 elook
  have hlookRuns : (minuteLook (s.onStore Store.minute)).running = true :=
    (running_of_hide _ elook (by decide)).trans hrunning
  have htold : minuteTold s = plantMinute (minuteLook (s.onStore Store.minute)) := if_pos hlookRuns
  have eburn : (ifBurning burnMinute (minuteTold s)).hide [.burn, .store, .link, .sett, .posts]
      = (minuteTold s).hide [.burn, .store, .link, .sett, .posts] := hide_ifBurning _ _ fun _ => by simp
  have hburn := hide_eq_iff.1 eburn
  obtain ⟨hchannels, hzones⟩ := plantMinute_parts (minuteLook (s.onStore Store.minute))
  rw [← htold] at hchannels hzones
  have etold := minuteTold_hide s
  have htoldFuel : (minuteTold s).fuel = s.fuel :=
    (hide_eq_iff.1 etold .fuel (by decide)).trans (hlook .fuel (by decide))
  have htoldRuns : (minuteTold s).running = true := (running_of_hide _ etold (by decide)).trans hlookRuns
  generalize minuteTold s = m at *
  have hruns : (ifBurning burnMinute m).running = true := (running_of_hide _ eburn (by decide)).trans htoldRuns
  generalize ifBurning burnMinute m = b at *
  have hfuel : fuelMinute b = b.onFuel Fuel.minute := if_pos hruns
  rw [hfuel] at ht
  have et : t.hide [.burn, .store, .link, .sett, .posts]
      = (b.onFuel Fuel.minute).hide [.burn, .store, .link, .sett, .posts] := by rw [ht]; simp
  have hsame := hide_eq_iff.1 et
  have hout : t.out = m.out := (hsame .out (by decide)).trans (hburn .out (by decide))
  have hzone : t.zone = m.zone := (hsame .zone (by decide)).trans (hburn .zone (by decide))
  have hlooked : (minuteLook (s.onStore Store.minute)).out = s.out
      ∧ (minuteLook (s.onStore Store.minute)).zone = s.zone := ⟨hlook .out (by decide), hlook .zone (by decide)⟩
  rw [hlooked.1] at hchannels
  rw [hlooked.2] at hzones
  refine ⟨fun ch => ?_, fun z => ?_, ?_⟩
  · rw [hout]
    exact hchannels ch
  · rw [hzone, hzones, Zone.minute_eq]
  · have hfuelt : t.fuel = b.fuel.minute := hsame .fuel (by decide)
    rw [hfuelt, show b.fuel = s.fuel from (hburn .fuel (by decide)).trans htoldFuel]
    rfl

/-! ## STORE's clock, and its look (R137, R138, R144) -/

theorem settlesTo_of_hide (h : t.hide [.out, .zone, .fuel] = s.hide [.out, .zone, .fuel]) : s.settlesTo t := by
  have hburn : t.burn = s.burn := hide_eq_iff.1 h .burn (by decide)
  have hlink : t.link = s.link := hide_eq_iff.1 h .link (by decide)
  have hstore : t.store = s.store := hide_eq_iff.1 h .store (by decide)
  exact ⟨by rw [hburn], by rw [hlink]; exact fun _ hn => hn, by rw [hstore], .of_eq hstore⟩

theorem State.settlesTo.burnMinute (h : s.settlesTo u) : s.settlesTo (burnMinute u) :=
  heldMinute (askOwed (h.onBurn rfl))

/-- After STORE's look its clock stands, and so do the array and rotation while a program runs. -/
theorem minute_settles (s : State) : (minuteLook (s.onStore Store.minute)).settlesTo (minuteOver s) := by
  have htold := settlesTo_of_hide (hide_of_subset (by decide) (minuteTold_hide s))
  have hburn : (minuteLook (s.onStore Store.minute)).settlesTo (ifBurning burnMinute (minuteTold s)) :=
    .ite htold.burnMinute htold
  exact (hburn.trans (settlesTo_of_hide (hide_fuelMinute _ (by decide)))).settle

theorem minute_clock (s : State) : (minuteOver s).store.clock = s.store.minute.clock := by
  obtain ⟨-, -, hclock, -⟩ := minute_settles s
  refine hclock.trans ?_
  unfold minuteLook
  split
  · obtain ⟨-, ⟨hlook, -⟩, -⟩ := State.serves.lookAtRotation (s.onStore Store.minute)
    exact hlook
  · rfl

/-- While a program runs, STORE's look is what a minute leaves of rotation. -/
theorem minute_rotation (hactive : s.storeActive = true) {q : Program} (hprogram : s.store.array = .programming q)
    (hn : s.store.numbered) : s.store.minute.rotatedByRule s.supply.hold (minuteOver s).store := by
  obtain ⟨-, -, -, hstands⟩ := minute_settles s
  have hlook : minuteLook (s.onStore Store.minute)
      = (s.onStore Store.minute).onStore (Store.lookRotation s.supply.hold) := by
    have hlooks : minuteLook (s.onStore Store.minute) = lookAtRotation (s.onStore Store.minute) := if_pos hactive
    rw [hlooks]
    exact lookAtRotation_programming hprogram
  obtain ⟨harray, -⟩ := lookRotation_parts s.supply.hold s.store.minute
  have hrotating := hstands q (by rw [hlook]; exact harray.trans hprogram)
  rw [hlook] at hrotating
  generalize (minuteOver s).store = st at *
  have hrotation : st.rotation = (s.store.minute.lookRotation s.supply.hold).rotation :=
    congrArg (fun x => x.2.1) hrotating
  have hcarry : st.carryWork = (s.store.minute.lookRotation s.supply.hold).carryWork :=
    congrArg (fun x => x.2.2.1) hrotating
  have hback : st.setBack = (s.store.minute.lookRotation s.supply.hold).setBack :=
    congrArg (fun x => x.2.2.2) hrotating
  have hrule := lookRotation_byRule (st := s.store.minute) s.supply.hold hn
  unfold Store.rotatedByRule at hrule ⊢
  rw [hrotation, hcarry, hback]
  exact hrule

/-- Before the scan's findings are handed over a minute only counts (R154; log entry 68). -/
theorem minute_onlyCounts (hstore : s.storeActive = false) (hburn : s.burnActive = false)
    (hanswers : s.store.answers = []) :
    minuteOver s = s.onStore Store.minute := by
  have hrunning : ¬ s.running = true := fun h => by
    unfold State.running at h
    unfold State.storeActive at hstore
    rw [h] at hstore
    cases hstore
  have hlook : minuteLook (s.onStore Store.minute) = s.onStore Store.minute :=
    if_neg (fun h => by rw [show (s.onStore Store.minute).storeActive = s.storeActive from rfl, hstore] at h; cases h)
  have htold : minuteTold s = s.onStore Store.minute := by
    unfold minuteTold
    rw [hlook]
    exact if_neg hrunning
  have hburns : ifBurning burnMinute (s.onStore Store.minute) = s.onStore Store.minute :=
    if_neg (fun h => by rw [show (s.onStore Store.minute).burnActive = s.burnActive from rfl, hburn] at h; cases h)
  have hfuel : fuelMinute (s.onStore Store.minute) = s.onStore Store.minute := if_neg hrunning
  unfold minuteOver
  rw [htold, hburns, hfuel]
  exact settle_without_answers _ hanswers

end Sys2Proof.Machine
end

section
/-! PROOF. RUN_MINUTE moves every count (O51): BURN's counts, HELD and its owed records (R83, R87, R91). -/

namespace Sys2Proof.Machine

variable {s t m : State}

/-! ## The minute at BURN -/

/-- BURN's counts have gone down, and its owed record is not yet asked (R83, R91). -/
def minuteMet (s : State) : State := (minuteTold s).onBurn (Burn.minute (minuteTold s).now)

/-- What BURN leaves when STORE has no answer for it is what the minute leaves. -/
theorem minuteOver_burn (hactive : s.burnActive = true)
    (hanswers : (heldMinute (askOwed (minuteMet s))).store.answers = []) :
    (minuteOver s).burn = (heldMinute (askOwed (minuteMet s))).burn
      ∧ (minuteOver s).store = (heldMinute (askOwed (minuteMet s))).store
      ∧ (minuteOver s).link = (heldMinute (askOwed (minuteMet s))).link := by
  have elook : (minuteLook (s.onStore Store.minute)).hide [.store, .link, .sett] = s.hide [.store, .link, .sett] := by
    simp
  have htold : (minuteTold s).burnActive = true :=
    (burnActive_of_hide _ (minuteTold_hide s) (by decide)).trans
      ((burnActive_of_hide _ elook (by decide)).trans hactive)
  have hburns : ifBurning burnMinute (minuteTold s) = heldMinute (askOwed (minuteMet s)) := if_pos htold
  unfold minuteOver
  rw [hburns]
  generalize heldMinute (askOwed (minuteMet s)) = y at *
  have hsame := hide_eq_iff.1 (hide_fuelMinute (F := [.fuel]) y (by decide))
  have hstore : (fuelMinute y).store = y.store := hsame .store (by decide)
  rw [settle_without_answers _ (by rw [hstore]; exact hanswers)]
  exact ⟨hsame .burn (by decide), hstore, hsame .link (by decide)⟩

/-- The state in which BURN has counted, with nothing asked of STORE. -/
structure State.meetsMinute (s m : State) : Prop where
  burn : m.burn = s.burn.minute s.store.minute.runMinute
  par : m.par = s.par
  hold : m.burnHold = s.supply.hold
  link : m.link = s.link
  unasked : m.store.unasked
  quiet : s.store.quiet → m.store = s.store.minute

theorem minuteMet_meets (hactive : s.burnActive = true) (hready : s.store.ready) : s.meetsMinute (minuteMet s) := by
  obtain ⟨-, hqueue, hanswers, hreading, -⟩ := hready
  have hunasked : (s.onStore Store.minute).store.unasked := ⟨hqueue, hreading, hanswers⟩
  have hlook : (s.onStore Store.minute).idles (minuteLook (s.onStore Store.minute)) := by
    unfold minuteLook
    split
    · exact .lookAtRotation hunasked
    · exact .refl hunasked
  have hquiet : s.store.quiet → minuteLook (s.onStore Store.minute) = s.onStore Store.minute := fun h => by
    unfold minuteLook
    rw [lookAtRotation_quiet (s := s.onStore Store.minute) h, ite_self]
  have hclock : (minuteLook (s.onStore Store.minute)).store.runMinute = s.store.minute.runMinute := by
    unfold minuteLook
    split
    · obtain ⟨-, ⟨hclock, -⟩, -⟩ := State.serves.lookAtRotation (s.onStore Store.minute)
      exact congrArg Prod.fst hclock
    · rfl
  have etold := minuteTold_hide s
  obtain ⟨hasks, hpar, elook⟩ := hlook
  unfold minuteMet
  generalize minuteLook (s.onStore Store.minute) = v at *
  generalize minuteTold s = u at *
  have htold := hide_eq_iff.1 etold
  have hlooked := hide_eq_iff.1 elook
  have hburn : u.burn = s.burn := (htold .burn (by decide)).trans (hlooked .burn (by decide))
  have hstore : u.store = v.store := htold .store (by decide)
  have hsett : u.sett = v.sett := htold .sett (by decide)
  have hsupply : u.supply = s.supply := (htold .supply (by decide)).trans (hlooked .supply (by decide))
  have hburns : u.burnActive = true :=
    (burnActive_of_hide _ etold (by decide)).trans ((burnActive_of_hide _ elook (by decide)).trans hactive)
  refine ⟨?_, ?_, ?_, (htold .link (by decide)).trans (hlooked .link (by decide)), ?_, fun h => ?_⟩
  · have hnow : u.now = s.store.minute.runMinute := (congrArg Store.runMinute hstore).trans hclock
    rw [onBurn_burn, hburn, hnow]
  · exact (congrArg SetBlock.working hsett).trans hpar
  · have hactiveMet : (u.onBurn (Burn.minute u.now)).burnActive = true := hburns
    rw [burnHold_of_burnActive hactiveMet]
    exact congrArg (fun p => p.hold) hsupply
  · exact hstore ▸ hasks
  · change u.store = s.store.minute
    rw [hstore, hquiet h]
    rfl

/-! ## An owed record asked again (R91) -/

theorem heldMinute_of_not_held (h : m.burn.state ≠ .held) : heldMinute m = m := by
  unfold heldMinute evaluateHeld
  rw [if_neg fun hheld => h hheld.1, if_neg fun hheld => h hheld.1]

/-- The oldest owed record is asked at once when STORE is ready. -/
theorem minute_asksOwed {p : Payload} {more : List Payload} (hactive : s.burnActive = true)
    (howed : s.burn.owed = p :: more) (hasked : s.burn.owedAsked = false) (hready : s.store.ready)
    (hquiet : s.store.quiet) (hstate : s.burn.state ≠ .held) :
    (minuteOver s).burn = { s.burn.minute s.store.minute.runMinute with owedAsked := true }
      ∧ (minuteOver s).store = s.store.minute.appending p (some .owed) := by
  have hmet := minuteMet_meets hactive hready
  have hstore := hmet.quiet hquiet
  have hmready : (minuteMet s).store.ready := hstore ▸ ready_of_time _ _ _ _ hready
  have hmowed : (minuteMet s).burn.owed = p :: more := by rw [hmet.burn]; exact howed
  have hmasked : ¬ (minuteMet s).burn.owedAsked = true := by rw [hmet.burn]; exact Bool.eq_false_iff.1 hasked
  have happends := askStore_ready (tag := .owed) rfl p
    (s := (minuteMet s).onBurn fun b => { b with owedAsked := true }) hmready
  have hasks : askOwed (minuteMet s) =
      askStore .owed p ((minuteMet s).onBurn fun b => { b with owedAsked := true }) := by
    unfold askOwed
    rw [hmowed]
    exact if_neg hmasked
  rw [happends] at hasks
  have hgoes : heldMinute (askOwed (minuteMet s)) = askOwed (minuteMet s) := by
    refine heldMinute_of_not_held ?_
    rw [hasks]
    change (minuteMet s).burn.state ≠ .held
    rw [hmet.burn]
    exact hstate
  have hover := minuteOver_burn (s := s) hactive
  rw [hgoes, hasks] at hover
  obtain ⟨hburn, hstored, -⟩ := hover (by obtain ⟨-, -, hanswers, -⟩ := hmready; exact hanswers)
  refine ⟨hburn.trans ?_, hstored.trans ?_⟩
  · rw [← hmet.burn]
    rfl
  · rw [← hstore]
    rfl

/-! ## HELD (R87) -/

/-- A LOCKOUT record asked of a ready STORE is marked as asked, and programmed at once (R84, R142). -/
theorem askStore_lockout_ready (n : Nat) (p : Payload) (h : s.store.ready) : askStore (.lockout n) p s =
    { s.onBurn (fun b => { b with lockoutAsked := true }) with
      store := s.store.appending p (some (.lockout n)) } :=
  appendRecord_ready p (some (.lockout n)) (s.onBurn fun b => { b with lockoutAsked := true }) h

section Clear

variable (hactive : s.burnActive = true) (hclear : s.recordsClear)
include hactive hclear

theorem minuteMet_clear : s.meetsMinute (minuteMet s) ∧ (minuteMet s).burn.owed = [] ∧ (minuteMet s).burn.asks = []
    ∧ askOwed (minuteMet s) = minuteMet s := by
  obtain ⟨hready, howed, hasks⟩ := hclear
  have hmet := minuteMet_meets hactive hready
  have hmowed : (minuteMet s).burn.owed = [] := by rw [hmet.burn]; exact howed
  refine ⟨hmet, hmowed, by rw [hmet.burn]; exact hasks, ?_⟩
  unfold askOwed
  rw [hmowed]

/-- Where BURN's look at HELD changes nothing, its counts alone have gone down. -/
theorem minute_counts_only (hstays : heldMinute (minuteMet s) = minuteMet s) :
    (minuteOver s).burn = s.burn.minute s.store.minute.runMinute := by
  obtain ⟨hmet, -, -, hnone⟩ := minuteMet_clear hactive hclear
  have hover := minuteOver_burn (s := s) hactive
  rw [hnone, hstays] at hover
  obtain ⟨-, -, hanswers⟩ := hmet.unasked
  exact (hover hanswers).1.trans hmet.burn

/-- HELD waits with the reason that stands in its way. -/
theorem minute_remains {r : HeldReason} (hstate : s.burn.state = .held)
    (howed : s.burn.heldReason = .store → s.burn.lockoutOwed = false)
    (hr : s.par.authority ≠ .openToAll ∧ r = .awaitOrder ∨ s.par.authority = .openToAll
      ∧ s.par.budget ≤ (s.burn.minute s.store.minute.runMinute).window.length ∧ r = .budget) :
    (minuteOver s).burn.state = .held ∧ (minuteOver s).burn.heldReason = r
      ∧ (minuteOver s).burn.window = (s.burn.minute s.store.minute.runMinute).window
      ∧ (s.burn.heldReason ≠ r → .held ∈ (minuteOver s).link.notices) := by
  obtain ⟨hmet, -, -, hnone⟩ := minuteMet_clear hactive hclear
  obtain ⟨hheld, hreason, hwindow, hstore, hnotice⟩ := heldMinute_remains (s := minuteMet s) (r := r)
    (by rw [hmet.burn]; exact hstate) (by rw [hmet.burn]; exact howed) (by rw [hmet.par, hmet.burn]; exact hr)
  have hover := minuteOver_burn (s := s) hactive
  rw [hnone] at hover
  obtain ⟨-, -, hanswers⟩ := hmet.unasked
  obtain ⟨hburn, -, hlink⟩ := hover (by rw [hstore]; exact hanswers)
  rw [hburn, hlink]
  exact ⟨hheld, hreason, by rw [hwindow, hmet.burn], fun h => hnotice (by rw [hmet.burn]; exact h)⟩

/-- With room, outside the hold, an automatic reset begins, and its record is asked. -/
theorem minute_begins (hstate : s.burn.state = .held) (hopen : s.par.authority = .openToAll)
    (hroom : (s.burn.minute s.store.minute.runMinute).window.length < s.par.budget) (hhold : s.supply.hold = false)
    (howed : s.burn.lockoutOwed = false) (hquiet : s.store.quiet) :
    State.resetBegun { s with store := s.store.minute, burn := s.burn.minute s.store.minute.runMinute }
      (minuteOver s) .auto := by
  obtain ⟨hmet, hmowed, hmasks, hnone⟩ := minuteMet_clear hactive hclear
  obtain ⟨hready, -⟩ := hclear
  have hstore := hmet.quiet hquiet
  have hmroom : (minuteMet s).burn.window.length < (minuteMet s).par.budget := by rw [hmet.par, hmet.burn]; exact hroom
  have hmlockout : (minuteMet s).burn.lockoutOwed = false := by rw [hmet.burn]; exact howed
  have hbegins := heldMinute_begins (s := minuteMet s) (by rw [hmet.burn]; exact hstate) hmlockout
    (by rw [hmet.par]; exact hopen) hmroom (hmet.hold.trans hhold)
  have hentered : (resetEntered .auto (minuteMet s)).store = s.store.minute :=
    (hide_eq_iff.1 (resetEntered_hide .auto (minuteMet s)) .store (by decide)).trans hstore
  have heready : (resetEntered .auto (minuteMet s)).store.ready := hentered ▸ ready_of_time _ _ _ _ hready
  have hburnEntered := resetEntered_burn .auto (minuteMet s)
  have hover := minuteOver_burn (s := s) hactive
  rw [hnone, hbegins, beginReset_auto hmlockout hmowed hmasks hmroom, askStore_ready rfl _ heready] at hover
  have hanswers : (resetEntered .auto (minuteMet s)).store.answers = [] := by
    obtain ⟨-, -, hanswers, -⟩ := heready
    exact hanswers
  obtain ⟨hburn, hstored, -⟩ := hover hanswers
  dsimp only at hburn hstored
  rw [hburnEntered] at hburn
  rw [hentered, hmet.burn] at hstored
  unfold State.resetBegun
  rw [hburn]
  refine ⟨rfl, rfl, rfl, rfl, rfl, rfl, ?_, ?_⟩
  · change (minuteMet s).burn.window = _
    rw [hmet.burn]
  · rw [if_pos (.inl rfl)]
    exact hstored

/-- An owed LOCKOUT record is asked again. -/
theorem minute_asksLockout {l : Lockout} (hstate : s.burn.state = .held) (hreason : s.burn.heldReason = .store)
    (hquiet : s.store.quiet) (howed : s.burn.lockoutOwed = true) (hasked : s.burn.lockoutAsked = false)
    (hnewest : s.burn.newest = some l) :
    (minuteOver s).burn = { s.burn.minute s.store.minute.runMinute with lockoutAsked := true }
      ∧ (minuteOver s).store = s.store.minute.appending (.lockout l.cause l.left l.stage l.wasPending)
        (some (.lockout s.burn.lockouts)) := by
  obtain ⟨hmet, hmowed, hmasks, hnone⟩ := minuteMet_clear hactive hclear
  obtain ⟨hready, -⟩ := hclear
  have hstore := hmet.quiet hquiet
  have hmready : (minuteMet s).store.ready := hstore ▸ ready_of_time _ _ _ _ hready
  have hasks := heldMinute_asks (s := minuteMet s) (l := l) (by rw [hmet.burn]; exact hstate)
    (by rw [hmet.burn]; exact hreason) (by rw [hmet.burn]; exact howed) (by rw [hmet.burn]; exact hasked)
    (by rw [hmet.burn]; exact hnewest) hmowed hmasks
  have hover := minuteOver_burn (s := s) hactive
  rw [hnone, hasks,
    askStore_lockout_ready (s := (minuteMet s).onBurn fun b => { b with lockoutAsked := true }) _ _ hmready]
    at hover
  obtain ⟨hburn, hstored, -⟩ := hover (by obtain ⟨-, -, hanswers, -⟩ := hmready; exact hanswers)
  refine ⟨hburn.trans ?_, hstored.trans ?_⟩
  · rw [← hmet.burn]
    rfl
  · rw [← hstore, hmet.burn]
    rfl

/-- In the hold HELD with reason STORE stays, with room for a reset that needs no order. -/
theorem minute_waitsForMains (hstate : s.burn.state = .held) (hreason : s.burn.heldReason = .store)
    (howed : s.burn.lockoutOwed = false) (hopen : s.par.authority = .openToAll)
    (hroom : (s.burn.minute s.store.minute.runMinute).window.length < s.par.budget) (hhold : s.supply.hold = true) :
    (minuteOver s).burn = s.burn.minute s.store.minute.runMinute := by
  obtain ⟨hmet, -⟩ := minuteMet_clear hactive hclear
  refine minute_counts_only hactive hclear ?_
  have hheld : (minuteMet s).burn.state = .held ∧ (minuteMet s).burn.heldReason = .store := by
    rw [hmet.burn]
    exact ⟨hstate, hreason⟩
  have hnotOwed : ¬ (minuteMet s).burn.lockoutOwed = true := by rw [hmet.burn]; exact Bool.eq_false_iff.1 howed
  have hmroom : (minuteMet s).budgetRoom = true := by
    unfold State.budgetRoom
    rw [hmet.par, hmet.burn]
    exact decide_eq_true hroom
  unfold heldMinute retryHeld
  rw [if_pos hheld, if_pos hheld, if_neg hnotOwed,
    if_pos ⟨by rw [hmet.par]; exact hopen, hmroom, hmet.hold.trans hhold⟩]

end Clear

/-! ## The obligation -/

/-- Settles O51, block by block in the order of log entry 32. -/
theorem runMinuteMovesEveryCount : Obligations.RunMinuteMovesEveryCount := by
  intro s
  refine ⟨exec_runMinute_waits, fun hset hphase => ⟨minuteOver s, exec_runMinute hset hphase, ?_⟩⟩
  have hclock := minute_clock s
  have hminute : (minuteOver s).store.runMinute = s.store.minute.runMinute := congrArg (fun c => c.1) hclock
  have hwall : (minuteOver s).store.wall = s.store.minute.wall := congrArg (fun c => c.2.2.1) hclock
  have hstore : { s.store with
      runMinute := (minuteOver s).store.runMinute, timebase := 0, wall := (minuteOver s).store.wall }
      = s.store.minute := by
    rw [hminute, hwall]
    rfl
  refine ⟨?_, hminute, congrArg (fun c => c.2.1) hclock, congrArg (fun c => c.2.2.2) hclock, hwall,
    fun hrunning => minute_counts hrunning rfl, ?_, ?_, ?_⟩
  · have e := hide_blocksMinute (F := [.out, .zone, .burn, .fuel, .store, .link, .sett, .posts])
      (s.onStore Store.minute)
      (by decide) (by decide) (by decide) (by decide) (by decide) (by decide) (by decide) (by decide)
    exact hide_eq_iff.1 (e.trans (hide_onStore _ _ (by decide)))
  · rintro p more v hactive howed hasked hready hquiet hstate rfl
    obtain ⟨hburn, hstored⟩ := minute_asksOwed hactive howed hasked hready hquiet hstate
    rw [hstore, hburn]
    exact ⟨rfl, rfl, rfl, hstored⟩
  · rintro v rfl
    rw [hstore]
    refine ⟨fun hactive ⟨q, hq⟩ hn => minute_rotation hactive hq hn, fun hstoreOff hburnOff hanswers => ?_⟩
    exact minute_onlyCounts hstoreOff hburnOff hanswers
  · intro u hu hactive hclear
    have hburnMinute : u.burn = s.burn.minute s.store.minute.runMinute := by
      rw [hu, Burn.minute, agedWindow_eq, ← hminute]
      rfl
    have hpassed : u = { s with store := s.store.minute, burn := s.burn.minute s.store.minute.runMinute } := by
      rw [← hburnMinute, ← hstore, hu]
    clear hu
    subst hpassed
    refine ⟨fun hstate => ?_, fun hstate hreason => ⟨fun hclosed => ?_, fun hopen hmost => ?_, ?_⟩, ?_⟩
    · refine minute_counts_only hactive hclear (heldMinute_of_not_held ?_)
      obtain ⟨hmet, -⟩ := minuteMet_clear hactive hclear
      rw [hmet.burn]
      exact hstate
    · obtain ⟨hheld, horder, hwindow, -⟩ := minute_remains hactive hclear hstate (fun h => absurd h hreason)
        (.inl ⟨hclosed, rfl⟩)
      exact ⟨hheld, horder, hwindow⟩
    · obtain ⟨hheld, hbudget, hwindow, hnotice⟩ := minute_remains hactive hclear hstate (fun h => absurd h hreason)
        (.inr ⟨hopen, hmost, rfl⟩)
      exact ⟨hheld, hbudget, hwindow, fun h => hnotice (by rw [h]; decide)⟩
    · exact fun hopen hroom hhold howed hquiet => minute_begins hactive hclear hstate hopen hroom hhold howed hquiet
    · intro hstate hreason hquiet
      have hnotOrder : s.burn.heldReason ≠ .awaitOrder ∧ s.burn.heldReason ≠ .budget := by
        rw [hreason]
        decide
      refine ⟨fun l howed hasked hnewest =>
          minute_asksLockout hactive hclear hstate hreason hquiet howed hasked hnewest,
        fun howed => ⟨fun hclosed => ?_, fun hopen hmost => ?_, fun hopen hroom => ⟨fun hhold => ?_, fun hhold => ?_⟩⟩⟩
      · obtain ⟨hheld, horder, -, hnotice⟩ := minute_remains hactive hclear hstate (fun _ => howed)
          (.inl ⟨hclosed, rfl⟩)
        exact ⟨hheld, horder, hnotice hnotOrder.1⟩
      · obtain ⟨hheld, hbudget, -, hnotice⟩ := minute_remains hactive hclear hstate (fun _ => howed)
          (.inr ⟨hopen, hmost, rfl⟩)
        exact ⟨hheld, hbudget, hnotice hnotOrder.2⟩
      · exact minute_begins hactive hclear hstate hopen hroom hhold howed hquiet
      · exact minute_waitsForMains hactive hclear hstate hreason howed hopen hroom hhold

end Sys2Proof.Machine
end

section
/-! PROOF. Invariants of the zones and of the record area: the changes they are kept by (O8, O9, O10, O15, O32). -/

namespace Sys2Proof.Machine

/-! ## What keeps an invariant -/

/-- The parts that bear neither on the zones nor on the record area. -/
def outerParts : List Block :=
  [.inputs, .scan, .out, .loop, .burn, .gauge, .fuel, .supply, .link, .svc, .posts, .free, .pending]

/-- What gives the records their numbers: the sectors, the head and the next sequence (R140). -/
def Store.area (st : Store) : Vector Sector 4 × Option (Fin 4) × Nat := (st.sectors, st.head, st.nextSeq)

/-- The events of ZONE while the part runs, each with the outputs it forms (Chapter 3). -/
inductive State.zoneEvent : State → State → Prop where
  | mode (s : State) : zoneEvent s (zonesTakeMode s)
  | channelFault (z : Fin 6) (s : State) : zoneEvent s (zoneChannelFault z s)
  | boilerFrost (s : State) : zoneEvent s (evaluateBoilerFrost s)
  | report (z : Fin 6) (r : Report) (s : State) : zoneEvent s (zoneTakesReport z r s)
  | nodeLost (z : Fin 6) (s : State) : zoneEvent s (zoneLosesNode z s)
  | noReport (z : Fin 6) (s : State) : zoneEvent s (zoneHasNoReport z s)
  | writeFailed (n : Fin 15) (v : Bool) (s : State) : zoneEvent s (markWriteFailed n v s)
  | stage (g : FuelStage) (s : State) : zoneEvent s (zonesTakeStage g s)
  | overrun (v : Bool) (s : State) : zoneEvent s (zonesTakeOverrun v s)
  | minute (s : State) : zoneEvent s (zonesMinute s)
  | hostMode (z : Fin 6) (m : HeatMode) (s : State) : zoneEvent s (setHostMode z m s)
  | blind (z : Fin 6) (n : Nat) (s : State) : zoneEvent s (blindAt z n s)
  | endMakes (z : Fin 6) (s : State) : zoneEvent s (endMakes z s)
  | endBreaks (z : Fin 6) (s : State) : zoneEvent s (endBreaks z s)
  | travel (z : Fin 6) (s : State) : zoneEvent s (travelExpires z s)
  | retry (z : Fin 6) (s : State) : zoneEvent s (retryExpires z s)
  | sink (old : Fin 6) (s : State) : zoneEvent s (sinkChanged old s)
  | stored (w : Settings) (z : Fin 6) (i : ZoneItem) (v : Int) (s : State) :
    zoneEvent s (changeEffect w (.zone z i) (storeWorking ((Param.zone z i).store s.par v) s))

/-- An event of ZONE changes ZONE and the working set, and tells LOOP, LINK, BURN and OUT. -/
theorem State.zoneEvent.hide {s t : State} (e : s.zoneEvent t) :
    t.hide [.loop, .zone, .link, .sett, .posts] = s.hide [.loop, .zone, .link, .sett, .posts] := by
  cases e with
  | stored w z i v =>
    cases i <;> simp only [changeEffect]
    case failSafe => split <;> simp
    all_goals simp
  | _ => simp

/-- An invariant of the zones or of the record area: the changes of the state that keep it, from the end of the
start-up scan on; and the starts. -/
structure Persists (Q : State → Prop) : Prop where
  rest {s t} : t.hide outerParts = s.hide outerParts → Q s → Q t
  onSett {s} {f : SetBlock → SetBlock} :
    (f s.sett).working.zones = s.sett.working.zones → Q s → Q (s.onSett f)
  onStore {s} {f : Store → Store} : s.storeActive = true → (f s.store).area = s.store.area →
    Q s → Q (s.onStore f)
  write {s} {f : Store → Store} {slot opens} : s.storeActive = true →
    (f s.store).area = (s.store.writeSlot slot opens).area → Q s → Q (s.onStore f)
  leave {s} {f : Store → Store} {i : Fin 4} {x : Sector} : s.storeActive = true → x.isValid = false →
    (f s.store).area = (s.store.sectors.set i x, s.store.head, s.store.nextSeq) → Q s → Q (s.onStore f)
  event {s t} : s.running = true → s.zoneEvent t → Q s → Q t
  holdBegins {s} : Q s → Q (zonesHoldBegins s)
  holdEnds {s} : Q s → Q (zonesHoldEnds s)
  tick {s} : Q s → Q (s.onZoneBlock fun b => { b with zones := b.zones.map Zone.tick })
  derived {s} : s.phase = .burnerWait → Q s → Q (s.withPhase .derived)
  begins {s t} : s.phase = .derived → t.phase = .running →
    t.hide (.phase :: outerParts) = s.hide (.phase :: outerParts) → Q s → Q (zonesBegin t)
  starts {s p} : p = .unpowered ∨ p = .released → Q s → Q (abandonAll p s)
  loses {s} : s.phase = .unpowered → Q s → Q (s.onStore Store.loseTime)
  scans {s} : s.phase = .unpowered ∨ s.phase = .released → Q s → Q (beginScan s)

/-- The invariant in a phase in which STORE's own state has begun. -/
def Persists.holds {Q : State → Prop} (_ : Persists Q) (p : Phase) (s : State) : Prop :=
  s.phase = p ∧ s.storeActive = true ∧ Q s

variable {Q : State → Prop} {k : Persists Q} {p : Phase} {s t : State}

namespace Persists.holds

/-! ## The elementary changes -/

section Updates
variable (h : k.holds p s)
include h

theorem of_phase (hp : t.phase = s.phase) (ht : Q t) : k.holds p t := by
  obtain ⟨hphase, hactive, -⟩ := h
  refine ⟨hp.trans hphase, ?_, ht⟩
  rw [← hactive]
  simp only [State.storeActive, hp]

/-- A change of the outer parts alone. -/
theorem outer (e : t.hide outerParts = s.hide outerParts) : k.holds p t :=
  h.of_phase (hide_eq_iff.1 e .phase (by decide)) (k.rest e h.2.2)

theorem onInputs {f} : k.holds p (s.onInputs f) := h.outer (by simp [outerParts])
theorem onScan {f} : k.holds p (s.onScan f) := h.outer (by simp [outerParts])
theorem onOut {f} : k.holds p (s.onOut f) := h.outer (by simp [outerParts])
theorem onLoop {f} : k.holds p (s.onLoop f) := h.outer (by simp [outerParts])
theorem onNode {n f} : k.holds p (s.onNode n f) := h.outer (by simp [outerParts])
theorem onChan {c f} : k.holds p (s.onChan c f) := h.outer (by simp [outerParts])
theorem onBurn {f} : k.holds p (s.onBurn f) := h.outer (by simp [outerParts])
theorem onGauge {f} : k.holds p (s.onGauge f) := h.outer (by simp [outerParts])
theorem onFuel {f} : k.holds p (s.onFuel f) := h.outer (by simp [outerParts])
theorem onSupply {f} : k.holds p (s.onSupply f) := h.outer (by simp [outerParts])
theorem onLink {f} : k.holds p (s.onLink f) := h.outer (by simp [outerParts])
theorem onSvc {f} : k.holds p (s.onSvc f) := h.outer (by simp [outerParts])
theorem onPosts {f} : k.holds p (s.onPosts f) := h.outer (by simp [outerParts])
theorem postNotice {n} : k.holds p (postNotice n s) := h.outer (by simp [outerParts])
theorem beginReply : k.holds p (beginReply s) := h.outer (by simp [outerParts])
theorem resolveChannel {c} : k.holds p (resolveChannel c s) := h.outer (by simp [outerParts])
theorem evaluatePump : k.holds p (evaluatePump s) := h.outer (by simp [outerParts])
theorem outTakesMeasureFault {v} : k.holds p (outTakesMeasureFault v s) := h.outer (by simp [outerParts])
theorem evaluateOverheat : k.holds p (evaluateOverheat s) := h.outer (by simp [outerParts])
theorem gaugeTakesPass : k.holds p (gaugeTakesPass s) := h.outer (by simp [outerParts])
theorem evaluateLineHeat : k.holds p (evaluateLineHeat s) := h.outer (by simp [outerParts])
theorem burnTakesFlow : k.holds p (burnTakesFlow s) := h.outer (by simp [outerParts])
theorem writeRecords {counts} : k.holds p (writeRecords counts s) := h.outer (by simp [outerParts])
theorem endSelfTest : k.holds p (endSelfTest s) := h.outer (by simp [outerParts])
theorem countOverrides : k.holds p (countOverrides s) := h.outer (by simp [outerParts])
theorem endLoad {o r} : k.holds p (endLoad o r s) := h.outer (by simp [outerParts])
theorem openPollSlot : k.holds p (openPollSlot s) := h.outer (by simp [outerParts])
theorem slotAfterPoll : k.holds p (slotAfterPoll s) := h.outer (by simp [outerParts])
theorem queueStaleItems {n z} : k.holds p (queueStaleItems n z s) := h.outer (by simp [outerParts])
theorem burnTakesStage {g} : k.holds p (burnTakesStage g s) := h.outer (by simp [outerParts])
theorem loopTakesStage {g} : k.holds p (loopTakesStage g s) := h.outer (by simp [outerParts])
theorem reloadSilence : k.holds p (reloadSilence s) := h.outer (by simp [outerParts])
theorem outHoldBegins : k.holds p (outHoldBegins s) := h.outer (by simp [outerParts])
theorem outHoldEnds : k.holds p (outHoldEnds s) := h.outer (by simp [outerParts])
theorem setLevel {x v} : k.holds p (setLevel x v s) := h.outer (by simp [outerParts])
theorem mainsRises : k.holds p (mainsRises s) := h.outer (by simp [outerParts])
theorem drainFirst {order} : k.holds p (drainFirst order s) := h.outer (by simp [outerParts])
theorem valveRises : k.holds p (valveRises s) := h.outer (by simp [outerParts])
theorem valveFalls : k.holds p (valveFalls s) := h.outer (by simp [outerParts])
theorem fuelBegins : k.holds p (fuelBegins s) := h.outer (by simp [outerParts])
theorem linkBegins : k.holds p (linkBegins s) := h.outer (by simp [outerParts])
theorem supplyBegins : k.holds p (supplyBegins s) := h.outer (by simp [outerParts])
theorem pulseExpires : k.holds p (pulseExpires s) := h.outer (by simp [outerParts])
theorem sendNext : k.holds p (sendNext s) := h.outer (by simp [outerParts])
theorem endTask {o r n} : k.holds p (endTask o r n s) := h.outer (by simp [outerParts])
theorem startTask {kind} : k.holds p (startTask kind s) := h.outer (by simp [outerParts])
theorem enterHeld {r} : k.holds p (enterHeld r s) := h.outer (by simp [outerParts])
theorem endResetTask {o r} : k.holds p (endResetTask o r s) := h.outer (by simp [outerParts])
theorem enterCooldown : k.holds p (enterCooldown s) := h.outer (by simp [outerParts])
theorem awaitMains : k.holds p (awaitMains s) := h.outer (by simp [outerParts])
theorem goIdle : k.holds p (goIdle s) := h.outer (by simp [outerParts])
theorem burnTo {st} : k.holds p (burnTo st s) := h.outer (by simp [outerParts])
theorem endPulse : k.holds p (endPulse s) := h.outer (by simp [outerParts])
theorem withdraw : k.holds p (withdraw s) := h.outer (by simp [outerParts])
theorem startProofLimit : k.holds p (startProofLimit s) := h.outer (by simp [outerParts])
theorem stopOverrun : k.holds p (stopOverrun s) := h.outer (by simp [outerParts])
theorem askOverrun : k.holds p (askOverrun s) := h.outer (by simp [outerParts])
theorem raiseRelock : k.holds p (raiseRelock s) := h.outer (by simp [outerParts])
theorem setHeldReason {r} : k.holds p (setHeldReason r s) := h.outer (by simp [outerParts])
theorem findStopping : k.holds p (findStopping s) := h.outer (by simp [outerParts])
theorem burnSeesValve : k.holds p (burnSeesValve s) := h.outer (by simp [outerParts])
theorem clearLeakFlag : k.holds p (clearLeakFlag s) := h.outer (by simp [outerParts])
theorem takeDeferred : k.holds p (takeDeferred s) := h.outer (by simp [outerParts])
theorem setReference {v} : k.holds p (setReference v s) := h.outer (by simp [outerParts])
theorem restartPeriod : k.holds p (restartPeriod s) := h.outer (by simp [outerParts])
theorem setStage {g} : k.holds p (setStage g s) := h.outer (by simp [outerParts])
theorem computeStage {v} : k.holds p (computeStage v s) := h.outer (by simp [outerParts])
theorem fuelFaultEntered : k.holds p (fuelFaultEntered s) := h.outer (by simp [outerParts])
theorem computeVolumes {d} : k.holds p (computeVolumes d s) := h.outer (by simp [outerParts])
theorem postFiring : k.holds p (postFiring s) := h.outer (by simp [outerParts])
theorem runAccumulator {v} : k.holds p (runAccumulator v s) := h.outer (by simp [outerParts])
theorem resetStoredActs : k.holds p (resetStoredActs s) := h.outer (by simp [outerParts])

theorem onSett {f : SetBlock → SetBlock} (hf : (f s.sett).working.zones = s.sett.working.zones) :
    k.holds p (s.onSett f) := h.of_phase rfl (k.onSett hf h.2.2)

theorem onStore {f : Store → Store} (hf : (f s.store).area = s.store.area) : k.holds p (s.onStore f) :=
  h.of_phase rfl (k.onStore h.2.1 hf h.2.2)

theorem write {f : Store → Store} {slot opens} (hf : (f s.store).area = (s.store.writeSlot slot opens).area) :
    k.holds p (s.onStore f) := h.of_phase rfl (k.write h.2.1 hf h.2.2)

theorem leave {f : Store → Store} {i : Fin 4} {x : Sector} (hx : x.isValid = false)
    (hf : (f s.store).area = (s.store.sectors.set i x, s.store.head, s.store.nextSeq)) : k.holds p (s.onStore f) :=
  h.of_phase rfl (k.leave h.2.1 hx hf h.2.2)

theorem holdBegins : k.holds p (zonesHoldBegins s) :=
  h.of_phase (hide_eq_iff.1 (hide_zonesHoldBegins (F := [.loop, .zone, .posts]) s (by decide) (by decide)
    (by decide)) .phase (by decide)) (k.holdBegins h.2.2)

theorem holdEnds : k.holds p (zonesHoldEnds s) :=
  h.of_phase (hide_eq_iff.1 (hide_zonesHoldEnds (F := [.zone, .posts]) s (by decide) (by decide))
    .phase (by decide)) (k.holdEnds h.2.2)

theorem tick : k.holds p (s.onZoneBlock fun b => { b with zones := b.zones.map Zone.tick }) :=
  h.of_phase rfl (k.tick h.2.2)

omit h in
/-- An event of ZONE while the part runs. -/
theorem event (h : k.holds .running s) (e : s.zoneEvent t) : k.holds .running t :=
  h.of_phase (hide_eq_iff.1 e.hide .phase (by decide)) (k.event (by simp [State.running, h.1]) e h.2.2)

/-! ## Operations that run others -/

theorem ite {c : Prop} [Decidable c] (ht : k.holds p t) : k.holds p (if c then s else t) := by
  split
  · exact h
  · exact ht

omit h in
theorem iteFst {c : Prop} [Decidable c] {a b : State × Reply} (ha : k.holds p a.1)
    (hb : k.holds p b.1) : k.holds p (if c then a else b).1 := by
  split
  · exact ha
  · exact hb

theorem foldl {α : Type} {f : State → α → State} {l : List α}
    (hf : ∀ t a, k.holds p t → k.holds p (f t a)) : k.holds p (l.foldl f s) := by
  induction l generalizing s with
  | nil => exact h
  | cons a rest ih => exact ih (hf s a h)

theorem takeHeld {sort : Held → Bool} {f : State → Held → State}
    (hf : ∀ t x, k.holds p t → k.holds p (f t x)) : k.holds p (takeHeld sort f s) := h.onInputs.foldl hf

section Conditional
variable {f : State → State} (hf : ∀ t, k.holds p t → k.holds p (f t))
include hf

theorem ifBurning : k.holds p (ifBurning f s) := ite (hf s h) h
theorem outsideHold : k.holds p (outsideHold f s) := ite h (hf s h)
theorem ofNewest {n : Nat} : k.holds p (ofNewest n f s) := ite (hf s h) h
theorem tellBurn {stands : Bool} : k.holds p (tellBurn stands f s) := ite (hf s h) h.onInputs
theorem edge {x : Input} {v : Bool} : k.holds p (edge x v f s) :=
  ite (ite h.onInputs h) (ite (hf _ h.onInputs) h)

end Conditional

/-- A block's own event while the part runs. -/
theorem whenRunning {f : State → State} (hf : ∀ t, k.holds .running t → k.holds .running (f t)) :
    k.holds p (Machine.whenRunning f s) := by
  unfold Machine.whenRunning
  split
  · next hrun =>
    obtain ⟨hphase, hq⟩ := h
    have hp : p = .running := hphase.symm.trans (by simpa [State.running] using hrun)
    subst hp
    exact hf s ⟨hphase, hq⟩
  · exact h

section Requests
variable {f : State → State × Reply} (hf : ∀ t, k.holds p t → k.holds p (f t).1)
include hf

theorem unlessBusy {kind : Byte} : k.holds p (unlessBusy kind f s).1 := iteFst (b := f s) h (hf s h)
theorem unlessHeld {kind : Byte} : k.holds p (unlessHeld kind f s).1 := iteFst (a := f s) (hf s h) h

theorem takeFrame : k.holds p (takeFrame f s) := ite (onLink h.onLink) (beginReply (onLink (hf _ h.onLink)))

end Requests

/-- A request reaches a block while the part runs alone (R152). -/
theorem request {payload : List Byte} {f : List Byte → State → State × Reply}
    (hf : ∀ t, k.holds .running t → k.holds .running (f payload t).1) : k.holds p (request payload f s) :=
  h.whenRunning (f := fun t => if payload.length ≤ maxPayload then Machine.takeFrame (f payload) t else hunt t)
    fun _ ht => ite (ht.takeFrame hf) (ht.outer (by simp [outerParts]))

end Updates

end Persists.holds

end Sys2Proof.Machine
end

section
/-! PROOF. The operations of every block, built of the changes that keep an invariant of the zones or of the record
area (O8, O9, O10, O15, O32). -/

namespace Sys2Proof.Machine

variable {Q : State → Prop} {k : Persists Q} {p : Phase} {s t : State}

/-! ## STORE's changes that leave the record area -/

theorem join_area (q : Payload) (tag : Option Tag) (st : Store) : (st.join q tag).area = st.area := by
  unfold Store.join Store.answerTo
  (repeat' split) <;> rfl

theorem answerTo_area (tag : Option Tag) (q : Payload) (stored : Option (Nat × Nat)) (st : Store) :
    (st.answerTo tag q stored).area = st.area := by
  unfold Store.answerTo
  split <;> rfl

theorem lookRotation_area (hold : Bool) (st : Store) : (st.lookRotation hold).area = st.area := by
  unfold Store.lookRotation
  (repeat' split) <;> rfl

theorem serveCarry_area {st st' : Store} (e : st.serveCarry = some st') : st'.area = st.area := by
  unfold Store.serveCarry at e
  repeat' split at e
  all_goals cases e
  all_goals rfl

theorem serveAppend_area {st st' : Store} (e : st.serveAppend = some st') : st'.area = st.area := by
  unfold Store.serveAppend at e
  repeat' split at e
  all_goals cases e
  all_goals first | rfl | exact answerTo_area _ _ _ _

theorem serveKeep_area {st st' : Store} (e : st.serveKeep = some st') : st'.area = st.area := by
  unfold Store.serveKeep at e
  split at e
  · cases e
    rfl
  · cases e

theorem serveSuspended_area {st st' : Store} (e : st.serveSuspended = some st') : st'.area = st.area := by
  unfold Store.serveSuspended at e
  split at e
  · cases e
    rfl
  · cases e

theorem serveInner_area {st st' : Store} (e : st.serveInner = some st') : st'.area = st.area := by
  unfold Store.serveInner at e
  split at e
  · next hcarry =>
    cases e
    exact serveCarry_area hcarry
  · split at e
    · next happend =>
      cases e
      exact serveAppend_area happend
    · split at e
      · next hkeep =>
        cases e
        exact serveKeep_area hkeep
      · exact serveSuspended_area e

theorem appendDone_area (good : Bool) (r : Record) (opens : Option (Fin 4)) (st : Store) :
    (st.appendDone good r opens).area = (st.writeSlot (slotOf good r) opens).area := by
  unfold Store.appendDone
  dsimp only
  split
  · exact answerTo_area _ _ _ _
  · rfl

namespace Persists.holds

variable (h : k.holds p s)
include h

/-! ## STORE (Chapter 8) -/

theorem endReading {r : ReadTask} : k.holds p (endReading r s) := by
  unfold Machine.endReading
  dsimp only
  refine onStore ?_ (lookRotation_area _ _)
  have hread : k.holds p (s.onStore fun st => { st with reading := none }) := h.onStore rfl
  split
  · exact hread.outer (by simp [outerParts])
  · exact hread.outer (by simp [outerParts])

theorem startErase (e : startErase s = some t) : k.holds p t := by
  unfold Machine.startErase at e
  repeat' split at e
  all_goals cases e
  · next i _ _ => exact h.leave (i := i) (x := { s.store.sectors[i] with mark := .retiring }) rfl rfl
  · exact onSett (h.onStore rfl) rfl

theorem serveOnce (e : serveOnce s = some t) : k.holds p t := by
  unfold Machine.serveOnce at e
  split at e
  · cases e
    exact h.endReading
  · split at e
    · next hinner =>
      cases e
      exact h.onStore (serveInner_area hinner)
    · exact h.startErase e

theorem serve {n} : k.holds p (serve n s) := by
  induction n generalizing s with
  | zero => exact h
  | succ n ih =>
    unfold Machine.serve
    split
    · split
      · next hserve => exact ih (h.serveOnce hserve)
      · exact h
    · exact h

theorem kick : k.holds p (kick s) := by
  unfold Machine.kick
  split
  · exact h.serve
  · exact ite (h.onStore rfl).serve h
  · exact h

theorem appendRecord {q tag} : k.holds p (appendRecord q tag s) := (h.onStore (join_area q tag _)).kick

theorem lookAtRotation : k.holds p (lookAtRotation s) := (h.onStore (lookRotation_area _ _)).kick

theorem keepVerified {image good} : k.holds p (keepVerified image good s) := by
  have hnone : k.holds p (s.onStore fun st => { st with keep := .none }) := h.onStore rfl
  have himage : k.holds p (((s.onStore fun st => { st with keep := .none }).onStore fun st =>
      { st with settings := .image image }).onSett fun b =>
      { b with imageState := some (checkWordOf image), defaulted := false }) := (hnone.onStore rfl).onSett rfl
  unfold Machine.keepVerified
  dsimp only
  split
  · split
    · exact himage.postNotice.endTask.appendRecord
    · exact himage.endTask.appendRecord
  · exact (hnone.onSett rfl).endTask.kick

theorem keepBlockDone {good} : k.holds p (keepBlockDone good s) := by
  have hfree : k.holds p (s.onStore fun st => { st with array := .free }) := h.onStore rfl
  unfold Machine.keepBlockDone
  dsimp only
  split
  · split
    · exact kick (hfree.onStore (lookRotation_area _ _))
    · exact keepVerified (hfree.onStore (lookRotation_area _ _))
  · exact hfree.kick

theorem settingsErased : k.holds p (settingsErased s) :=
  (h.onStore (f := fun st => { st with array := .free, keep := .programming s.par 0 true }) rfl).onSett rfl

theorem eraseDone : k.holds p (eraseDone s) := by
  unfold Machine.eraseDone
  split
  · next i _ _ => exact kick (h.leave (i := i) (x := Sector.blank) rfl rfl)
  · exact h.settingsErased.kick
  · exact h

theorem programDone {good} : k.holds p (programDone good s) := by
  unfold Machine.programDone
  split
  · exact lookAtRotation (h.write (appendDone_area _ _ _ _))
  · next r opens _ => exact lookAtRotation (h.write (slot := slotOf good r) (opens := opens) rfl)
  · exact h.keepBlockDone
  · exact h

theorem takeAnswers {n} (hanswer : ∀ t a, k.holds p t → k.holds p (burnAnswer a t)) :
    k.holds p (takeAnswers n s) := by
  induction n generalizing s with
  | zero => exact h
  | succ n ih =>
    unfold Machine.takeAnswers
    split
    · exact h
    · exact ih (hanswer _ _ (h.onStore rfl))

/-! ## FUEL and GAUGE (Chapters 6 and 7) -/

theorem raiseLeak {d} : k.holds p (raiseLeak d s) := postNotice (appendRecord h.onFuel)

theorem judgeLoss : k.holds p (judgeLoss s) :=
  ite (onFuel h.onFuel) (ite (onFuel h.onFuel) (raiseLeak h.onFuel))

theorem reconcile : k.holds p (reconcile s) := h.judgeLoss.appendRecord.setReference.restartPeriod

theorem confirmDelivery {final} : k.holds p (confirmDelivery final s) :=
  takeDeferred (postNotice (onFuel (setStage (clearLeakFlag (onFuel (setReference (appendRecord h.onFuel)))))))

theorem finishSettling {final} : k.holds p (finishSettling final s) :=
  h.confirmDelivery.ite (h.outer (by simp [outerParts]))

theorem settleValue {v x} : k.holds p (settleValue v x s) := ite (finishSettling h.onFuel) h.onFuel

theorem actOnGood {v} : k.holds p (actOnGood v s) := by
  unfold Machine.actOnGood
  split
  · exact h.outer (by simp [outerParts])
  · exact ite (onFuel h.onFuel) (h.outer (by simp [outerParts]))
  · split
    · exact h.settleValue
    · exact h.onFuel.ite h

theorem fuelTakesValue {v st} : k.holds p (fuelTakesValue v st s) :=
  ite h.onFuel.computeStage.actOnGood h.onFuel.computeStage

theorem periodEnds : k.holds p (periodEnds s) := ite h.onFuel (ite h.reconcile (h.outer (by simp [outerParts])))

theorem handValue {v st} : k.holds p (handValue v st s) := h.onGauge.fuelTakesValue

theorem replaceTable {ps} : k.holds p (replaceTable ps s) := by
  have hstored : k.holds p (fuelTableReplaced (s.onSett fun b =>
      { b with working := { b.working with table := ps }, changed := true })) :=
    outer (h.onSett (f := fun b => { b with working := { b.working with table := ps }, changed := true }) rfl)
      (by simp [outerParts])
  unfold Machine.replaceTable
  dsimp only
  split
  · exact hstored.computeVolumes.handValue
  · exact hstored.onGauge

theorem handEstimate : k.holds p (handEstimate s) := h.handValue

theorem handFiltered : k.holds p (handFiltered s) := h.computeVolumes.handValue

theorem leaveGaugeFault : k.holds p (leaveGaugeFault s) := postNotice (handFiltered h.onGauge)

theorem takeGood {c d} : k.holds p (takeGood c d s) :=
  h.onGauge.ite (h.onGauge.leaveGaugeFault.ite h.onGauge.handFiltered)

theorem enterGaugeFault {cause} : k.holds p (enterGaugeFault cause s) :=
  h.onGauge.fuelFaultEntered.handEstimate.postNotice

theorem takeFaulty {c} : k.holds p (takeFaulty c s) :=
  h.onGauge.onGauge.ite (h.onGauge.enterGaugeFault.ite h.onGauge.onGauge)

theorem takeSample {c} : k.holds p (takeSample c s) := h.takeFaulty.ite h.takeGood

theorem takeDue {c measureFault} : k.holds p (takeDue c measureFault s) :=
  ((h.ite h.takeSample).handEstimate).ite (h.ite h.takeSample)

theorem gaugeTakesMeasureFault : k.holds p (gaugeTakesMeasureFault s) := h.onGauge.ite h.enterGaugeFault

/-! ## BURN (Chapters 4 and 5) -/

theorem endNoStart : k.holds p (endNoStart s) := h.onBurn.withdraw.appendRecord.postNotice

theorem windowExpires : k.holds p (windowExpires s) := by
  unfold Machine.windowExpires
  split
  · exact ite (h.outer (by simp [outerParts])) h.endNoStart
  · exact h.endNoStart

theorem askStore {tag q} : k.holds p (askStore tag q s) := appendRecord (ite h.onBurn h)

theorem askResetRecord : k.holds p (askResetRecord s) :=
  ((h.askStore.ite h.endResetTask.enterHeld).ite h.askStore).ite h

theorem askNow {a} : k.holds p (askNow s a) := by
  unfold Machine.askNow
  split
  · exact h.askStore
  · exact h.askResetRecord

theorem askOwed : k.holds p (askOwed s) := by
  unfold Machine.askOwed
  split
  · exact ite h (askStore h.onBurn)
  · exact h

theorem askAll {l} : k.holds p (askAll l s) := ite (h.foldl fun _ _ ht => ht.askNow) (askOwed h.onBurn)

theorem askLockout : k.holds p (askLockout s) := by
  unfold Machine.askLockout
  split
  · exact ite h (askAll h.onBurn)
  · exact h

theorem beginReset {o} : k.holds p (beginReset o s) := ite h.burnTo.onBurn.askLockout h.burnTo.onBurn.askAll

theorem evaluateUntasked : k.holds p (evaluateUntasked s) := (h.beginReset.ite h.enterHeld).ite h.enterHeld

theorem owedStored : k.holds p (owedStored s) :=
  ite (foldl (onBurn h.onBurn) fun _ _ ht => ht.askNow) (askOwed h.onBurn)

theorem enterLatched {r} : k.holds p (enterLatched r s) := endResetTask (postNotice (askAll (endPulse h.burnTo.onBurn)))

theorem takeDark : k.holds p (takeDark s) := by
  unfold Machine.takeDark
  dsimp only
  split
  · exact h.askLockout.enterLatched
  · exact goIdle (startProofLimit (onBurn (askAll (onBurn (ite h.askLockout h)))))

theorem takePress : k.holds p (takePress s) := by
  unfold Machine.takePress
  split
  · exact h.beginReset
  · exact h.ite h.beginReset
  · exact ite h.onBurn h
  · exact h

theorem takeWaiting : k.holds p (takeWaiting s) :=
  ite (takeDark h.onBurn) (ite (takePress h.onBurn) h.onBurn)

theorem resetRefused : k.holds p (resetRefused s) :=
  ite h.endResetTask.enterHeld h.endResetTask.enterHeld.onBurn.takeDark

theorem lockoutRefused : k.holds p (lockoutRefused s) := by
  unfold Machine.lockoutRefused
  dsimp only
  split
  · exact ite h.onBurn.awaitMains h.onBurn.onBurn.endResetTask.enterHeld.takeWaiting
  · exact resetRefused h.onBurn
  · exact h.onBurn

theorem retryHeld : k.holds p (retryHeld s) := (h.askLockout.ite (h.ite h.evaluateUntasked)).ite h

theorem evaluateHeld : k.holds p (evaluateHeld s) :=
  (((h.ite h.beginReset).ite h.setHeldReason).ite h.setHeldReason).ite h

theorem heldMinute : k.holds p (heldMinute s) := h.retryHeld.ite h.evaluateHeld

theorem enterLocked {cause left} : k.holds p (enterLocked cause left s) := by
  have hmarked : k.holds p (lockMarked cause left s) :=
    postNotice (onBurn (ite h.burnTo.onBurn.askOverrun h.burnTo.onBurn))
  have hcounted : k.holds p (lockCounted cause left s) :=
    ite (ite hmarked.onBurn.raiseRelock.endResetTask hmarked.onBurn.raiseRelock) hmarked
  rw [enterLocked_eq]
  exact hcounted.onBurn.askAll

theorem burnStateHoldEnds : k.holds p (burnStateHoldEnds s) := by
  unfold Machine.burnStateHoldEnds
  split
  · exact (h.outer (by simp [outerParts])).ite h
  · exact h.heldMinute.ite h.takeDark
  · exact (h.enterLocked.ite ((h.outer (by simp [outerParts])).ite h)).ite h

theorem burnLampFall : k.holds p (burnLampFall s) := by
  unfold Machine.burnLampFall
  split
  · exact h.takeDark
  · exact h.takeDark
  · exact ite h.onBurn h
  · split
    · exact h.onBurn
    · exact h
    · exact h.outer (by simp [outerParts])
  · exact h

theorem abandonReset : k.holds p (abandonReset s) :=
  ite h.endPulse.onBurn.awaitMains.askAll h.endPulse.onBurn.awaitMains

theorem askMissingLatch : k.holds p (askMissingLatch s) := by
  unfold Machine.askMissingLatch
  split
  · exact askAll h.onBurn
  · exact h

theorem lockoutStoredDecides : k.holds p (lockoutStoredDecides s) := by
  unfold Machine.lockoutStoredDecides
  split
  · exact h.enterLatched
  · exact h.awaitMains.ite h.enterCooldown.takeWaiting

theorem lockoutStored : k.holds p (lockoutStored s) := by
  unfold Machine.lockoutStored
  dsimp only
  split
  · exact lockoutStoredDecides h.onBurn
  · exact lockoutStoredDecides h.onBurn
  · split
    · exact enterLatched h.onBurn
    · exact askAll h.onBurn
  · exact h.onBurn

theorem resetStored {o stamp} : k.holds p (resetStored o stamp s) := by
  unfold Machine.resetStored
  dsimp only
  split
  · exact askAll (onBurn (ite h.onBurn h))
  · exact ite (resetStoredActs (ite h.onBurn h)) (ite h.onBurn h)

theorem resetRecordRefused : k.holds p (resetRecordRefused s) := ite h.onBurn (ite h.resetRefused h)

theorem refuseAsk {a} : k.holds p (refuseAsk s a) := by
  unfold Machine.refuseAsk
  split
  · exact h.ofNewest fun _ ht => ht.lockoutRefused
  · exact h.onBurn
  · exact h.onBurn
  · exact h.resetRecordRefused
  · exact h
  · exact h.resetRecordRefused

theorem owedRefused : k.holds p (owedRefused s) := foldl h.onBurn fun _ _ ht => ht.refuseAsk

theorem burnAnswer {a} : k.holds p (burnAnswer a s) := by
  unfold Machine.burnAnswer
  split
  · exact h.ofNewest (fun _ h1 => h1.lockoutStored)
  · exact h.ofNewest (fun _ h1 => h1.lockoutRefused)
  · split
    · exact h.resetStored
    · exact h
  · exact h.resetRecordRefused
  · exact h
  · exact h.onBurn
  · exact h.owedStored
  · exact h.owedRefused
  · exact h.outer (by simp [outerParts])
  · exact h.onBurn

theorem settle : k.holds p (settle s) := h.takeAnswers fun _ _ ht => ht.burnAnswer

theorem burnHoldBegins : k.holds p (burnHoldBegins s) := by
  unfold Machine.burnHoldBegins
  lift_lets
  intro t u
  have ht : k.holds p t := h.postFiring.runAccumulator.onBurn
  have hu : k.holds p u := by
    dsimp only [u]
    split
    case h_6 => exact ht.outer (by simp [outerParts])
    case h_7 => exact ht.abandonReset
    case h_8 => exact ht
    all_goals exact ht.outer (by simp [outerParts])
  exact hu.outer (by simp [outerParts])

theorem burnMinute : k.holds p (burnMinute s) := heldMinute (askOwed h.onBurn)

theorem proveExpires : k.holds p (proveExpires s) := by
  exact ite h.onBurn.askAll.postNotice.endResetTask h.onBurn.askAll.postNotice

theorem deriveBurner : k.holds p (deriveBurner s) := by
  unfold Machine.deriveBurner
  lift_lets
  intro g u
  have hu : k.holds p u := h.onPosts.onBurn
  exact burnSeesValve (ite (hu.outer (by simp [outerParts])) (ite hu.enterLocked hu.goIdle))

theorem lampRiseIn : k.holds p (lampRiseIn s) := by
  unfold Machine.lampRiseIn
  split
  · exact ite h.onBurn h
  · exact ite h.onBurn h
  · exact h.enterLocked.ite h

theorem burnLampRise : k.holds p (burnLampRise s) := h.findStopping.lampRiseIn

theorem burnHoldEnds : k.holds p (burnHoldEnds s) := h.onBurn.burnStateHoldEnds.burnSeesValve

theorem takeAck : k.holds p (takeAck s) := by
  unfold Machine.takeAck
  split
  · exact ite h (askAll h.onBurn)
  · exact h

theorem cooldownExpires : k.holds p (cooldownExpires s) := by
  unfold Machine.cooldownExpires
  lift_lets
  intro t
  have ht : k.holds p t := h.onBurn
  split
  · exact ht.beginReset
  · split
    · exact ht.beginReset.ite (ht.endResetTask.evaluateUntasked.ite
        (ht.beginReset.ite ht.endResetTask.evaluateUntasked))
    · exact ht.evaluateUntasked

theorem checkExpires : k.holds p (checkExpires s) := by
  exact ite h.onBurn.raiseRelock.askAll.endResetTask.enterLatched
    h.onBurn.raiseRelock.askAll.endResetTask.enterCooldown

end Persists.holds

end Sys2Proof.Machine
end

section
/-! PROOF. The commands of every block, built of the changes that keep an invariant of the zones or of the record
area (O8, O9, O10, O15, O32). -/

namespace Sys2Proof.Machine

variable {Q : State → Prop} {k : Persists Q} {p : Phase} {s t : State}

namespace Persists.holds

/-! ## While the part runs: OUT, SCAN, LOOP and ZONE (Chapters 1 to 3) -/

section Running
variable (h : k.holds .running s)
include h

theorem tellLoad {ch new} : k.holds .running (tellLoad ch new s) := by
  unfold Machine.tellLoad
  split
  · next z _ => exact (h.event (.channelFault z s)).ite h
  · exact ite (h.outer (by simp [outerParts])) (ite h.onBurn h)

theorem setLoad {ch new} : k.holds .running (setLoad ch new s) := by
  have htold : k.holds .running (Machine.tellLoad ch new (Machine.postNotice .channelFault (s.onChan ch fun c =>
      { c with load := new }))) := h.onChan.postNotice.tellLoad
  exact h.ite ((htold.outer (by simp [outerParts])).ite htold)

theorem judge {ch ma} : k.holds .running (judge ch ma s) := by
  unfold Machine.judge judgeLow judgeHigh judgeWithin judgeLeaking judgeQuiet
  dsimp only
  (repeat' split) <;> first
    | exact h.onChan
    | exact h.onChan.setLoad
    | exact h.onChan.setLoad.resolveChannel

theorem takeCurrent {ch ma} : k.holds .running (takeCurrent ch ma s) := h.ite (h.onChan.ite (h.ite h.judge))

theorem outTakesPass : k.holds .running (outTakesPass s) :=
  evaluatePump (h.foldl fun _ _ ht => ht.takeCurrent)

theorem evaluateBoilerFrost : k.holds .running (evaluateBoilerFrost s) := h.event (.boilerFrost s)

theorem tellMeasureFault {v} : k.holds .running (tellMeasureFault v s) :=
  postNotice (evaluateBoilerFrost (evaluateOverheat (ite (gaugeTakesMeasureFault
    (outTakesMeasureFault h.onScan)) (outTakesMeasureFault h.onScan))))

theorem settleVerdict {pass} : k.holds .running (settleVerdict pass s) :=
  ite (ite (ite (tellMeasureFault h.onScan) h.onScan) h.onScan) (ite h.onScan (tellMeasureFault h.onScan))

theorem settleTest {ref counts} : k.holds .running (settleTest ref counts s) := h.onScan.settleVerdict.ite h.onScan

theorem offerPass : k.holds .running (offerPass s) :=
  h.outTakesPass.gaugeTakesPass.evaluateLineHeat.burnTakesFlow.evaluateBoilerFrost

theorem completePass {counts} : k.holds .running (completePass counts s) := by
  unfold Machine.completePass
  split
  · exact settle (endSelfTest (offerPass (writeRecords (settleTest h.onScan))))
  · exact h

theorem setMode {m cause} : k.holds .running (setMode m cause s) := by
  have hnoted := (h.onOut (f := fun o => { o with mode := m, cause := cause })).postNotice (n := .mode)
  exact h.ite (outer (hnoted.event (.mode _)) (by simp [outerParts]))

theorem resumeRequest {payload} : k.holds .running (resumeRequest payload s).1 := by
  unfold Machine.resumeRequest
  split
  · split
    · exact h.setMode
    · exact h
  · exact h

theorem silenceExpires : k.holds .running (silenceExpires s) := ite (setMode h.onLink) h

theorem clearTripRequest {payload} : k.holds .running (clearTripRequest payload s).1 := by
  unfold Machine.clearTripRequest
  split
  · split
    · exact iteFst h (iteFst h (iteFst h h.onChan.setLoad.resolveChannel))
    · exact h
  · exact h

theorem takeMiss {n z} : k.holds .running (takeMiss n z s) := by
  have hlost : k.holds .running (zoneLosesNode z (Machine.postNotice .statLost ((s.onNode n fun y =>
      { y with polled := true }).onNode n fun y => { y with statLost := true, miss := 0 }))) :=
    event h.onNode.onNode.postNotice (.nodeLost z _)
  exact h.onNode.ite (hlost.ite (h.onNode.onNode.ite (event h.onNode.onNode (.noReport z _))))

theorem goodReport {n z r} : k.holds .running (goodReport n z r s) :=
  queueStaleItems (event (h.onNode.postNotice.ite h.onNode) (.report z r _))

theorem pollResult {n ans} : k.holds .running (pollResult n ans s) := by
  unfold Machine.pollResult
  split
  · exact h
  · exact h.goodReport
  · exact h.takeMiss

theorem pollEnds {ans} : k.holds .running (pollEnds ans s) := by
  unfold Machine.pollEnds
  split
  · exact slotAfterPoll (h.ite h.pollResult)
  · exact h

theorem writeOutcome {acknowledged} : k.holds .running (writeOutcome acknowledged s) := by
  unfold Machine.writeOutcome
  split
  · exact h
  · split
    · exact event h.onLoop (.writeFailed _ _ _)
    · split
      · exact h.onLoop
      · exact ite (event h.onLoop (.writeFailed _ _ _)) h.onLoop

theorem writeEnds {acknowledged} : k.holds .running (writeEnds acknowledged s) := by
  unfold Machine.writeEnds
  split
  · exact openPollSlot (h.ite h.writeOutcome)
  · exact h

theorem zoneModeRequest {payload} : k.holds .running (zoneModeRequest payload s).1 := by
  unfold Machine.zoneModeRequest
  split
  · split
    · exact h.event (.hostMode _ _ s)
    · exact h
  · exact h

theorem blindAt {z n} : k.holds .running (blindAt z n s) := h.event (.blind z n s)

theorem deliverOverrun : k.holds .running (deliverOverrun s) := by
  unfold Machine.deliverOverrun
  split
  · exact h
  · exact event h.onPosts (.overrun _ _)

theorem deliverStage {who} : k.holds .running (deliverStage who s) := by
  unfold Machine.deliverStage
  split
  · split
    · exact h
    · exact h.onPosts.burnTakesStage
  · split
    · exact h
    · exact event h.onPosts (.stage _ _)
  · split
    · exact h
    · exact h.onPosts.loopTakesStage

end Running

/-! ## A stored parameter (R177, R178) -/

theorem store_zones {q : Param} (hq : ∀ z i, q ≠ .zone z i) (v : Int) (w : Settings) :
    (q.store w v).zones = w.zones := by
  cases q with
  | zone z i => exact absurd rfl (hq z i)
  | channel ch i => cases i <;> rfl
  | burner i => cases i <;> rfl
  | tank i => cases i <;> rfl
  | fuel i => cases i <;> rfl
  | silence | restart | sink => rfl

theorem changeEffect {w : Settings} {q : Param} (hq : ∀ z i, q ≠ .zone z i) (h : k.holds .running s) :
    k.holds .running (changeEffect w q s) := by
  cases q with
  | zone z i => exact absurd rfl (hq z i)
  | silence => exact h.reloadSilence
  | restart => exact h
  | sink => exact h.event (.sink _ s)
  | channel ch i =>
    cases i
    exacts [h.resolveChannel, h.resolveChannel, h.onChan, h.onChan]
  | burner i =>
    cases i
    case authority | budget => exact h.evaluateHeld.settle
    all_goals exact h
  | tank i =>
    cases i
    case coeff => exact h
    all_goals exact h.onGauge
  | fuel i =>
    cases i
    case period => exact h.restartPeriod
    case low | reserve | dry => exact h.computeStage
    all_goals exact h

theorem storeParam {q v} (h : k.holds .running s) : k.holds .running (storeParam q v s) := by
  have hbefore : k.holds .running (beforeChange q s) := h.outer (by simp [outerParts])
  refine h.ite ?_
  by_cases hq : ∃ z i, q = .zone z i
  · obtain ⟨z, i, rfl⟩ := hq
    exact hbefore.event (.stored _ z i v _)
  · simp only [not_exists] at hq
    exact (hbefore.onSett (store_zones hq v _)).changeEffect hq

theorem setRequest {payload} (h : k.holds .running s) : k.holds .running (setRequest payload s).1 := by
  unfold Machine.setRequest
  split
  · split
    · exact h
    · split
      · exact h
      · exact iteFst h (iteFst h (iteFst h (iteFst h.storeParam h)))
  · exact h

/-! ## In every phase -/

variable (h : k.holds p s)
include h

theorem tellHoldEnds : k.holds p (tellHoldEnds s) :=
  ((h.outHoldEnds.tellBurn fun _ ht => ht.burnHoldEnds).holdEnds).onGauge.lookAtRotation.settle

theorem endHold : k.holds p (endHold s) := h.onSupply.appendRecord.postNotice.tellHoldEnds

theorem tellHoldBegins {order} : k.holds p (tellHoldBegins order s) :=
  settle (tellBurn h.outHoldBegins.holdBegins.onGauge fun _ ht => ht.drainFirst.burnHoldBegins)

theorem beginHold {order} : k.holds p (beginHold order s) := h.onSupply.postNotice.tellHoldBegins

theorem mainsFalls {order} : k.holds p (mainsFalls order s) := (h.onSupply.ite h.beginHold).ite h

theorem supplyTakesHeld {x} : k.holds p (supplyTakesHeld s x) := by
  unfold Machine.supplyTakesHeld
  split
  · exact h.setLevel.mainsRises.ite h.setLevel.mainsFalls
  · exact h

theorem handMains : k.holds p (handMains s) := h.takeHeld fun _ _ ht => ht.supplyTakesHeld

theorem burnTakesHeld {x} : k.holds p (burnTakesHeld s x) := by
  unfold Machine.burnTakesHeld
  split
  · exact h.setLevel.outsideHold fun _ ht => (ite ht.burnLampRise ht.burnLampFall).settle
  · exact h.setLevel.outsideHold fun _ ht => ite ht.valveRises ht.valveFalls
  · exact h
  · exact (ite h.burnHoldBegins h.burnHoldEnds).settle

theorem blocksMinute : k.holds p (blocksMinute s) :=
  settle (whenRunning (ifBurning (whenRunning (ite h.lookAtRotation h) fun _ ht =>
    ht.countOverrides.event (.minute _)) fun _ ht => ht.burnMinute) fun _ ht => ht.onFuel)

theorem takeBurnerReset {o} : k.holds p (takeBurnerReset o s).1 :=
  ite h.startTask.onBurn.beginReset.settle h.startTask.onBurn

theorem burnerResetRequest {payload} : k.holds p (burnerResetRequest payload s).1 := by
  unfold Machine.burnerResetRequest
  split
  · exact h.unlessBusy fun _ ht => iteFst ht <| iteFst ht <| iteFst ht <| iteFst ht <|
      iteFst ht.takeBurnerReset <| iteFst ht <| iteFst ht ht.takeBurnerReset
  · exact h

theorem clearLeakRequest {payload} : k.holds p (clearLeakRequest payload s).1 := by
  unfold Machine.clearLeakRequest
  split
  · exact iteFst h.onFuel.clearLeakFlag.appendRecord h
  · exact h

theorem settlingTimesOut : k.holds p (settlingTimesOut s) := by
  unfold Machine.settlingTimesOut
  split
  · exact h.finishSettling.ite h
  · exact h

theorem takeDuePass : k.holds p (takeDuePass s) := by
  unfold Machine.takeDuePass
  split
  · exact takeDue h.onGauge
  · exact h

theorem tableEndRequest {payload} : k.holds p (tableEndRequest payload s).1 := by
  unfold Machine.tableEndRequest
  split
  · split
    · unfold finishLoad
      split
      · exact h.replaceTable.endLoad
      · exact h.endLoad
    · exact h
  · exact h

theorem historyRequest {payload} : k.holds p (historyRequest payload s).1 := by
  unfold Machine.historyRequest
  split
  · exact h.unlessBusy fun _ h1 => h1.unlessHeld fun _ h2 =>
      iteFst h2 (settle (kick (h2.startTask.onLink.onStore rfl)))
  · exact h

theorem keepRequest {payload} : k.holds p (keepRequest payload s).1 := by
  unfold Machine.keepRequest
  split
  · exact h.unlessBusy fun _ ht => settle (kick (ht.startTask.onStore rfl))
  · exact h

theorem setClockRequest {payload} : k.holds p (setClockRequest payload s).1 := by
  unfold Machine.setClockRequest
  split
  · exact iteFst h (h.onStore rfl)
  · exact h

theorem statusRequest {payload} : k.holds p (statusRequest payload s).1 := by
  unfold Machine.statusRequest
  split
  · exact h.onLink.onStore rfl
  · exact h

theorem abortRequest {payload} : k.holds p (abortRequest payload s).1 := by
  unfold Machine.abortRequest abortAnswer
  split
  · split
    · exact h
    · refine iteFst h (endTask ?_)
      unfold dropTask
      split
      · exact h.onScan
      · exact h.onBurn
      · exact h.onGauge
      · exact (h.onStore rfl).lookAtRotation
      · exact h.onStore rfl
  · exact h

end Persists.holds

end Sys2Proof.Machine
end

section
/-! PROOF. An invariant of the zones or of the record area through every command and every step, from the end of the
start-up scan on; an invariant of the zones through every step (O8, O9, O10, O15, O32). -/

namespace Sys2Proof.Machine

variable {Q : State → Prop} {k : Persists Q} {p : Phase} {s t : State}

/-- STORE's own state has begun in these phases (R151, R154). -/
theorem storeActive_iff : s.storeActive = true ↔ s.phase = .running ∨ s.phase = .derived ∨ s.phase = .burnerWait := by
  simp [State.storeActive, or_assoc]

namespace Persists

/-! ## Starts, and the end of start-up -/

theorem loseSupply (k : Persists Q) (h : Q s) : Q (loseSupply s) := k.loses rfl (k.starts (.inl rfl) h)

theorem beginRestart (k : Persists Q) (h : Q s) : Q (beginRestart s) := k.starts (.inr rfl) h

theorem orderedRestart (k : Persists Q) (h : Q s) : Q (orderedRestart s) := k.scans (.inr rfl) (k.beginRestart h)

theorem powerOn (k : Persists Q) (h : Q s) : Q (beginScan (Machine.loseSupply s)) := k.scans (.inl rfl) (k.loseSupply h)

end Persists

namespace Persists.holds

theorem transmitDone (h : k.holds p s) : Q (transmitDone s) := by
  unfold Machine.transmitDone
  split
  · unfold Machine.replySent
    dsimp only
    split
    · exact k.orderedRestart (ite (onLink h.onLink) h.onLink).2.2
    · exact (sendNext (ite (onLink h.onLink) h.onLink)).2.2
  · exact h.onLink.sendNext.2.2

theorem deriveAndFollow (h : k.holds .burnerWait s) : Q (deriveAndFollow s) := by
  have hfollowed := h.deriveBurner.settle.takeHeld (sort := Held.ofBurn) (f := Machine.burnTakesHeld)
    fun _ _ ht => ht.burnTakesHeld
  exact k.derived hfollowed.1 hfollowed.2.2

theorem beginWork (h : k.holds .derived s) : k.holds .running (beginWork s) := by
  have hhide : (outBegins (startPass (s.withPhase .running))).hide (.phase :: outerParts)
      = s.hide (.phase :: outerParts) := by simp [outerParts]
  have hphase : (outBegins (startPass (s.withPhase .running))).phase = .running :=
    hide_eq_iff.1 (show (outBegins (startPass (s.withPhase .running))).hide [.scan, .out, .posts]
      = (s.withPhase .running).hide [.scan, .out, .posts] by simp) .phase (by decide)
  have hbegun : (zonesBegin (outBegins (startPass (s.withPhase .running)))).phase = .running :=
    (hide_eq_iff.1 (show (zonesBegin (outBegins (startPass (s.withPhase .running)))).hide [.zone, .posts]
      = (outBegins (startPass (s.withPhase .running))).hide [.zone, .posts] by simp) .phase (by decide)).trans hphase
  have hzones : k.holds .running (zonesBegin (outBegins (startPass (s.withPhase .running)))) :=
    ⟨hbegun, storeActive_iff.2 (.inl hbegun), k.begins h.1 hphase hhide h.2.2⟩
  exact hzones.openPollSlot.fuelBegins.linkBegins.supplyBegins.askMissingLatch.settle

/-! ## Every command -/

/-- From the end of the start-up scan on every command keeps the invariant. -/
theorem exec (h : k.holds p s) (c : Instr) : ∃ t, exec c s = .next t ∧ Q t := by
  have keeps {t : State} (ht : k.holds p t) : Q t := ht.2.2
  have hactive : s.storeActive = true := h.2.1
  have hq : Q s := keeps h
  cases c with
  | powerOn => exact ⟨_, rfl, k.powerOn hq⟩
  | lossOfSupply => exact ⟨_, rfl, k.loseSupply hq⟩
  | restart =>
    refine ⟨_, rfl, ?_⟩
    split
    · exact hq
    · exact k.beginRestart hq
  | resetNRelease =>
    refine ⟨_, rfl, ?_⟩
    split
    · next hphase => exact k.scans (.inr hphase) hq
    · exact hq
  | handOver =>
    refine ⟨_, rfl, ?_⟩
    unfold handOver State.scanDone
    obtain hphase | hphase | hphase := storeActive_iff.1 hactive <;> simp [hphase, hq]
  | burnerDerivation =>
    refine ⟨_, rfl, ?_⟩
    split
    · next hwait => exact deriveAndFollow (k := k) ⟨hwait.1, hactive, hq⟩
    · exact hq
  | endOfStartUp =>
    refine ⟨_, rfl, ?_⟩
    split
    · next hphase => exact (beginWork (k := k) ⟨hphase, hactive, hq⟩).2.2
    · exact hq
  | transmitComplete =>
    refine ⟨_, rfl, ?_⟩
    unfold Machine.whenRunning
    split
    · exact h.transmitDone
    · exact hq
  | passCompletion counts => exact ⟨_, rfl, keeps (h.whenRunning fun _ ht => ht.completePass)⟩
  | resume payload => exact ⟨_, rfl, keeps (h.request fun _ ht => ht.resumeRequest)⟩
  | silenceTimerExpiry => exact ⟨_, rfl, keeps (h.whenRunning fun _ ht => ht.silenceExpires)⟩
  | clearTrip payload => exact ⟨_, rfl, keeps (h.request fun _ ht => ht.clearTripRequest)⟩
  | runMinute =>
    refine ⟨_, rfl, ?_⟩
    split
    · exact keeps (h.onStore rfl).blocksMinute
    · exact hq
  | windowStampExpiry =>
    exact ⟨_, rfl, keeps (h.ifBurning fun _ ht => ite ht ht.onBurn.evaluateHeld.settle)⟩
  | pollSlotEnd answer => exact ⟨_, rfl, keeps (h.whenRunning fun _ ht => ht.pollEnds)⟩
  | writeSlotEnd acknowledged => exact ⟨_, rfl, keeps (h.whenRunning fun _ ht => ht.writeEnds)⟩
  | zoneMode payload => exact ⟨_, rfl, keeps (h.request fun _ ht => ht.zoneModeRequest)⟩
  | blindCycleStart z => exact ⟨_, rfl, keeps (h.whenRunning fun _ ht => ite ht.blindAt ht)⟩
  | blindDutyEnd z => exact ⟨_, rfl, keeps (h.whenRunning fun _ ht => ite ht.blindAt ht)⟩
  | endMade z =>
    exact ⟨_, rfl, keeps (h.edge fun _ h1 => h1.whenRunning fun _ h2 => h2.event (.endMakes z _))⟩
  | endBroken z =>
    exact ⟨_, rfl, keeps (h.edge fun _ h1 => h1.whenRunning fun _ h2 => h2.event (.endBreaks z _))⟩
  | travelTimerExpiry z => exact ⟨_, rfl, keeps (h.whenRunning fun _ ht => ht.event (.travel z _))⟩
  | faultRetryExpiry z => exact ⟨_, rfl, keeps (h.whenRunning fun _ ht => ht.event (.retry z _))⟩
  | overrunState => exact ⟨_, rfl, keeps (h.whenRunning fun _ ht => ht.deliverOverrun)⟩
  | fuelStage takers =>
    exact ⟨_, rfl, keeps (h.whenRunning fun _ h1 => h1.foldl fun _ _ h2 => h2.deliverStage)⟩
  | ignitionWindowExpiry => exact ⟨_, rfl, keeps (h.ifBurning fun _ ht => ite ht.windowExpires.settle ht)⟩
  | lockoutSenseRise =>
    exact ⟨_, rfl, keeps (h.edge fun _ h1 => h1.ifBurning fun _ h2 => h2.outsideHold fun _ h3 =>
      h3.burnLampRise.settle)⟩
  | lockoutSenseFall =>
    exact ⟨_, rfl, keeps (h.edge fun _ h1 => h1.ifBurning fun _ h2 => h2.outsideHold fun _ h3 =>
      h3.burnLampFall.settle)⟩
  | cooldownExpiry => exact ⟨_, rfl, keeps (h.ifBurning fun _ ht => ite ht.cooldownExpires.settle ht)⟩
  | pulseTimerExpiry => exact ⟨_, rfl, keeps (h.ifBurning fun _ ht => ite ht.pulseExpires.settle ht)⟩
  | checkTimerExpiry => exact ⟨_, rfl, keeps (h.ifBurning fun _ ht => ite ht.checkExpires.settle ht)⟩
  | proveTimerExpiry => exact ⟨_, rfl, keeps (h.ifBurning fun _ ht => ite ht.proveExpires.settle ht)⟩
  | burnerReset payload => exact ⟨_, rfl, keeps (h.request fun _ ht => ht.burnerResetRequest)⟩
  | holdTimerExpiry =>
    exact ⟨_, rfl, keeps (ite (ite (h.onSvc.ifBurning fun _ ht => ht.takeAck.settle) h.onSvc) h)⟩
  | localResetRelease =>
    exact ⟨_, rfl, keeps (h.edge fun _ h1 =>
      ite (h1.onSvc.ifBurning fun _ h2 => h2.takePress.settle) h1.onSvc)⟩
  | duePass => exact ⟨_, rfl, keeps (h.whenRunning fun _ ht => ht.takeDuePass)⟩
  | settlingTimeout => exact ⟨_, rfl, keeps (h.whenRunning fun _ ht => ht.settlingTimesOut)⟩
  | periodEnd => exact ⟨_, rfl, keeps (h.whenRunning fun _ ht => ht.periodEnds.ite ht)⟩
  | clearLeak payload => exact ⟨_, rfl, keeps (h.request fun _ ht => ht.clearLeakRequest)⟩
  | tableEnd payload => exact ⟨_, rfl, keeps (h.request fun _ ht => ht.tableEndRequest)⟩
  | setClock payload => exact ⟨_, rfl, keeps (h.request fun _ ht => ht.setClockRequest)⟩
  | programCompletion good => exact ⟨_, rfl, keeps (ite h.programDone.settle h)⟩
  | eraseCompletion =>
    refine ⟨_, rfl, ?_⟩
    split
    · next hphase => exact absurd (storeActive_iff.1 hactive) (by simp [hphase])
    · exact keeps h.eraseDone.settle
  | historyRead payload => exact ⟨_, rfl, keeps (h.request fun _ ht => ht.historyRequest)⟩
  | keep payload => exact ⟨_, rfl, keeps (h.request fun _ ht => ht.keepRequest)⟩
  | mainsOkFall order => exact ⟨_, rfl, keeps (h.edge fun _ ht => ht.mainsFalls)⟩
  | returnTimerExpiry => exact ⟨_, rfl, keeps (ite h.endHold h)⟩
  | setParam payload => exact ⟨_, rfl, keeps (h.request fun _ ht => ht.setRequest)⟩
  | abort payload => exact ⟨_, rfl, keeps (h.request fun _ ht => ht.abortRequest)⟩
  | status payload => exact ⟨_, rfl, keeps (h.request fun _ ht => ht.statusRequest)⟩
  | _ =>
    obtain ⟨t, ht, hide⟩ := exec_hide _ s
    exact ⟨t, ht, k.rest (hide_of_subset (by simp [Instr.touches, outerParts]) hide) hq⟩

end Persists.holds

/-! ## Before STORE's own state begins -/

/-- Before STORE's own state begins neither BURN nor SUPPLY nor the blocks act (R152, R154). -/
theorem inactive_of_waiting (hwait : s.storeActive = false) : s.running = false ∧ s.burnActive = false
    ∧ s.supplyActive = false := by
  simp only [State.storeActive, Bool.or_eq_false_iff] at hwait
  obtain ⟨⟨hrunning, hderived⟩, hburner⟩ := hwait
  exact ⟨hrunning, by simp [State.burnActive, hrunning, hderived],
    by simp [State.supplyActive, hrunning, hderived, hburner]⟩

/-- The commands that act before STORE's own state begins on more than the levels of the inputs. -/
def actsEarly : Instr → Bool
  | .powerOn | .restart | .lossOfSupply | .resetNRelease | .handOver | .runMinute | .eraseCompletion => true
  | _ => false

/-- An edge whose event bears on neither the zones nor the record area. -/
theorem edge_outer {x : Input} {v : Bool} {act : State → State}
    (hact : (act (setLevel x v s)).hide outerParts = (setLevel x v s).hide outerParts) :
    (edge x v act s).hide outerParts = s.hide outerParts := by
  have hlevel : (setLevel x v s).hide outerParts = s.hide outerParts := by simp [outerParts]
  unfold edge holdEdge
  (repeat' split) <;> first | exact hact.trans hlevel | simp [outerParts]

theorem edge_waiting {x : Input} {v : Bool} {f : State → State} (hwait : s.storeActive = false) :
    (edge x v (ifBurning f) s).hide outerParts = s.hide outerParts
      ∧ (edge x v (whenRunning f) s).hide outerParts = s.hide outerParts := by
  obtain ⟨hrunning, hburning, -⟩ := inactive_of_waiting hwait
  have hrunning' : (setLevel x v s).running = false := hrunning
  have hburning' : (setLevel x v s).burnActive = false := hburning
  exact ⟨edge_outer (by simp [ifBurning, hburning']), edge_outer (by simp [whenRunning, hrunning'])⟩

theorem request_waiting {payload f} (hwait : s.storeActive = false) : request payload f s = s := by
  simp [request, (inactive_of_waiting hwait).1]

/-- The other commands leave the zones and the record area as they are before STORE's own state begins. -/
theorem exec_waiting {c : Instr} (hwait : s.storeActive = false) (hc : actsEarly c = false) :
    ∃ t, exec c s = .next t ∧ t.hide outerParts = s.hide outerParts := by
  obtain ⟨hrunning, hburning, hsupply⟩ := inactive_of_waiting hwait
  have hwhen (f : State → State) : whenRunning f s = s := by simp [whenRunning, hrunning]
  have hif (f : State → State) : ifBurning f s = s := by simp [ifBurning, hburning]
  cases c with
  | powerOn | restart | lossOfSupply | resetNRelease | handOver | runMinute | eraseCompletion => cases hc
  | burnerDerivation | endOfStartUp =>
    refine ⟨s, ?_, rfl⟩
    obtain ⟨⟨-, hderived⟩, hburner⟩ : (s.phase ≠ .running ∧ s.phase ≠ .derived) ∧ s.phase ≠ .burnerWait := by
      simpa [State.storeActive] using hwait
    simp [exec, execBurnerDerivation, execEndOfStartUp, hderived, hburner]
  | resume | clearTrip | zoneMode | burnerReset | clearLeak | tableEnd | setClock | status | historyRead | keep
  | setParam | abort => exact ⟨s, congrArg _ (request_waiting hwait), rfl⟩
  | passCompletion | silenceTimerExpiry | pollSlotEnd | writeSlotEnd | blindCycleStart | blindDutyEnd
  | travelTimerExpiry | faultRetryExpiry | overrunState | fuelStage | duePass | settlingTimeout | periodEnd
  | transmitComplete => exact ⟨s, congrArg _ (hwhen _), rfl⟩
  | windowStampExpiry | ignitionWindowExpiry | cooldownExpiry | pulseTimerExpiry | checkTimerExpiry
  | proveTimerExpiry => exact ⟨s, congrArg _ (hif _), rfl⟩
  | endMade | endBroken => exact ⟨_, rfl, (edge_waiting hwait).2⟩
  | lockoutSenseRise | lockoutSenseFall => exact ⟨_, rfl, (edge_waiting hwait).1⟩
  | holdTimerExpiry =>
    refine ⟨_, rfl, ?_⟩
    split
    · have hsvc : ∀ f, (s.onSvc f).burnActive = false := fun _ => hburning
      simp [holdExpires, ifBurning, hsvc, outerParts]
    · rfl
  | localResetRelease =>
    refine ⟨_, rfl, edge_outer ?_⟩
    have hlevel : ∀ f, ((setLevel .localReset false s).onSvc f).burnActive = false := fun _ => hburning
    simp [releaseEdge, ifBurning, hlevel, outerParts]
  | mainsOkFall order =>
    refine ⟨_, rfl, edge_outer ?_⟩
    have hlevel : (setLevel .mainsOk false s).supplyActive = false := hsupply
    simp [mainsFalls, hlevel]
  | programCompletion => exact ⟨s, by simp [exec, execProgramCompletion, hwait], rfl⟩
  | returnTimerExpiry => exact ⟨s, by simp [exec, execReturnTimerExpiry, hsupply], rfl⟩
  | _ =>
    obtain ⟨t, ht, hide⟩ := exec_hide _ s
    exact ⟨t, ht, hide_of_subset (by simp [Instr.touches, outerParts]) hide⟩

end Sys2Proof.Machine
end

section
/-! PROOF. An invariant of the zones through every step (O8, O9, O10, O15, O32). -/

namespace Sys2Proof.Machine

/-- An invariant of the zones: it rests on the zones, their settings and on whether the part runs, before the end of
start-up on the zones alone, it holds of the first zones, and ZONE's events keep it. -/
structure ZoneInvariant (Q : State → Prop) : Prop where
  same {s t} : Q s → t.running = s.running → t.zone = s.zone → t.sett.working.zones = s.sett.working.zones → Q t
  still {s t} : Q s → s.running = false → t.running = false → t.zone = s.zone → Q t
  first {s} : s.running = false → s.zone = ZoneBlock.first → Q s
  event {s t} : s.running = true → s.zoneEvent t → Q s → Q t
  holdBegins {s} : Q s → Q (zonesHoldBegins s)
  holdEnds {s} : Q s → Q (zonesHoldEnds s)
  tick {s} : Q s → Q (s.onZoneBlock fun b => { b with zones := b.zones.map Zone.tick })
  begins {s t} : s.running = false → t.running = true → t.zone = s.zone → Q s → Q (zonesBegin t)

variable {Q : State → Prop} {p : Phase} {s t : State}

theorem not_running_of_phase (hphase : s.phase ≠ .running) : s.running = false := by
  simp [State.running, hphase]

/-- The zones, their settings and the phase stand where only outer parts change. -/
theorem zone_of_outer (e : t.hide outerParts = s.hide outerParts) :
    t.running = s.running ∧ t.zone = s.zone ∧ t.sett = s.sett ∧ t.store = s.store :=
  ⟨running_of_hide outerParts e (by decide), hide_eq_iff.1 e .zone (by decide), hide_eq_iff.1 e .sett (by decide),
    hide_eq_iff.1 e .store (by decide)⟩

namespace ZoneInvariant

theorem persists (z : ZoneInvariant Q) : Persists Q where
  rest e h := by
    obtain ⟨hrunning, hzone, hsett, -⟩ := zone_of_outer e
    exact z.same h hrunning hzone (by rw [hsett])
  onSett hf h := z.same h rfl rfl hf
  onStore _ _ h := z.same h rfl rfl rfl
  write _ _ h := z.same h rfl rfl rfl
  leave _ _ _ h := z.same h rfl rfl rfl
  event := z.event
  holdBegins := z.holdBegins
  holdEnds := z.holdEnds
  tick := z.tick
  derived hphase h := z.still h (not_running_of_phase (by simp [hphase])) rfl rfl
  begins hphase hrun e h :=
    z.begins (not_running_of_phase (by simp [hphase])) (by simp [State.running, hrun])
      (hide_eq_iff.1 e .zone (by decide)) h
  starts hp _ := by
    refine z.first (not_running_of_phase ?_) rfl
    obtain rfl | rfl := hp <;> simp [abandonAll]
  loses _ h := z.same h rfl rfl rfl
  scans hphase h := by
    refine z.still h (not_running_of_phase ?_) rfl rfl
    obtain hp | hp := hphase <;> simp [hp]

/-- The hand-over keeps an invariant of the zones (R154). -/
theorem handRest (z : ZoneInvariant Q) (hstill : s.running = false) (h : Q s) : Q (handRest s) := by
  unfold Machine.handRest
  split
  · next v _ =>
    have hzone : (handHistory (handSupply v s)).zone = s.zone :=
      hide_eq_iff.1 (show (handHistory (handSupply v s)).hide [.burn, .gauge, .fuel, .supply, .posts]
        = s.hide [.burn, .gauge, .fuel, .supply, .posts] by simp) .zone (by decide)
    have hhanded : z.persists.holds .burnerWait ((handHistory (handSupply v s)).withPhase .burnerWait) :=
      ⟨rfl, rfl, z.still h hstill rfl hzone⟩
    exact hhanded.lookAtRotation.handMains.2.2
  · exact z.still h hstill rfl rfl

theorem handOver (z : ZoneInvariant Q) (h : Q s) : Q (handOver s) := by
  unfold Machine.handOver
  split
  · next hdone =>
    have hstill : s.running = false := by
      simp only [State.scanDone, Bool.and_eq_true, beq_iff_eq] at hdone
      simp [State.running, hdone.1]
    have e : (handSettings (handTime s)).hide [.loop, .store, .link, .sett] = s.hide [.loop, .store, .link, .sett] := by
      simp
    have hset : (handSettings (handTime s)).running = false := (running_of_hide _ e (by decide)).trans hstill
    exact z.handRest hset (z.still h hstill hset (hide_eq_iff.1 e .zone (by decide)))
  · split
    · next hwait => exact z.handRest (not_running_of_phase (by simp [hwait.1])) h
    · exact h

/-- Every command keeps an invariant of the zones. -/
theorem exec (z : ZoneInvariant Q) (h : Q s) (c : Instr) : ∃ t, exec c s = .next t ∧ Q t := by
  by_cases hactive : s.storeActive = true
  · exact Persists.holds.exec (k := z.persists) ⟨rfl, hactive, h⟩ c
  have hwait : s.storeActive = false := by simpa using hactive
  obtain ⟨hrunning, hburning, -⟩ := inactive_of_waiting hwait
  by_cases hearly : actsEarly c = false
  · obtain ⟨t, ht, e⟩ := exec_waiting hwait hearly
    exact ⟨t, ht, z.persists.rest e h⟩
  cases c <;> simp only [actsEarly, not_true_eq_false] at hearly
  case powerOn => exact ⟨_, rfl, z.persists.powerOn h⟩
  case lossOfSupply => exact ⟨_, rfl, z.persists.loseSupply h⟩
  case restart =>
    refine ⟨_, rfl, ?_⟩
    split
    · exact h
    · exact z.persists.beginRestart h
  case resetNRelease =>
    refine ⟨_, rfl, ?_⟩
    split
    · exact z.still h hrunning rfl rfl
    · exact h
  case handOver => exact ⟨_, rfl, z.handOver h⟩
  case runMinute =>
    refine ⟨_, rfl, ?_⟩
    split
    · have e : blocksMinute (s.onStore Store.minute) = settle (s.onStore Store.minute) := by
        have hactive' : (s.onStore Store.minute).storeActive = false := hwait
        have hrunning' : (s.onStore Store.minute).running = false := hrunning
        have hburning' : (s.onStore Store.minute).burnActive = false := hburning
        simp [blocksMinute, whenRunning, ifBurning, hactive', hrunning', hburning']
      have hide : (settle (s.onStore Store.minute)).hide [.burn, .store, .link, .sett, .posts]
          = s.hide [.burn, .store, .link, .sett, .posts] := by simp
      rw [e]
      exact z.still h hrunning ((running_of_hide _ hide (by decide)).trans hrunning)
        (hide_eq_iff.1 hide .zone (by decide))
    · exact h
  case eraseCompletion =>
    refine ⟨_, rfl, ?_⟩
    split
    · exact z.same h rfl rfl rfl
    · simpa [hwait] using h

theorem exec_next (z : ZoneInvariant Q) (h : Q s) {c : Instr} (e : Machine.exec c s = .next t) : Q t := by
  obtain ⟨u, hu, hkept⟩ := z.exec h c
  rw [hu] at e
  cases e
  exact hkept

theorem quiet (z : ZoneInvariant Q) (h : Q s) : Q (quiet s) := by
  unfold Machine.quiet
  split
  · exact z.persists.rest (by simp [outerParts]) h
  · unfold passMillisecond
    split
    · exact h
    · exact z.same (z.tick h) rfl rfl rfl

/-- Every step keeps an invariant of the zones. -/
theorem step (z : ZoneInvariant Q) (h : Q s) (e : step s = .next t) : Q t := by
  unfold Machine.step idleStep at e
  split at e
  · next c rest _ => exact z.exec_next (z.same (t := s.withPending rest) h rfl rfl rfl) e
  · split at e
    · exact z.exec_next h e
    · cases e
      exact z.quiet h

end ZoneInvariant

/-! ## The heat request and the pump demand (O8) -/

/-- What the heat request and the pump demand are formed of stands. -/
theorem plantFormed_congr (hzones : ∀ z : Fin 6, t.zone.zones[z].state = s.zone.zones[z].state
      ∧ t.zone.zones[z].call = s.zone.zones[z].call)
    (hheat : t.zone.heatRequest = s.zone.heatRequest) (hpump : t.zone.pumpDemand = s.zone.pumpDemand)
    (hoverrun : t.zone.overrun = s.zone.overrun) (hfrost : t.zone.boilerFrost = s.zone.boilerFrost)
    (h : s.plantFormed) : t.plantFormed := by
  have hstate : ∀ z : Fin 6, t.zone.zones[z].state = s.zone.zones[z].state := fun z => (hzones z).1
  have hcall : ∀ z : Fin 6, t.zone.zones[z].call = s.zone.zones[z].call := fun z => (hzones z).2
  simpa only [State.plantFormed, hstate, hcall, hheat, hpump, hoverrun, hfrost] using h

/-- A zone's field that neither output is formed of. -/
theorem plantFormed_onZone {z : Fin 6} {f : Zone → Zone} (hf : ∀ zn : Zone, (f zn).state = zn.state
    ∧ (f zn).call = zn.call) (h : s.plantFormed) : (s.onZone z f).plantFormed := by
  refine plantFormed_congr (s := s) (fun y => ?_) rfl rfl rfl rfl h
  rw [onZone_entry]
  split
  · next hy =>
    subst hy
    exact hf _
  · exact ⟨rfl, rfl⟩

theorem plantFormed_eachZone {f : Fin 6 → State → State} (hf : ∀ z t, t.plantFormed → (f z t).plantFormed)
    (h : s.plantFormed) : (eachZone f s).plantFormed := by
  unfold eachZone
  induction allZones generalizing s with
  | nil => exact h
  | cons z rest ih => exact ih (hf z s h)

theorem minute_call (zn : Zone) : zn.minute.call = zn.call := by
  unfold Zone.minute
  split <;> rfl

/-- Every event of ZONE ends with the outputs formed, or leaves what they are formed of. -/
theorem zoneEvent_plantFormed (e : s.zoneEvent t) (h : s.plantFormed) : t.plantFormed := by
  cases e with
  | mode | report | nodeLost | stage | overrun | blind => exact formOutputs_plantFormed _
  | channelFault => exact iteInduction (fun _ => h) fun _ => formOutputs_plantFormed _
  | boilerFrost => exact iteInduction (fun _ => h) fun _ => formOutputs_plantFormed _
  | noReport => exact iteInduction (fun _ => formOutputs_plantFormed _) fun _ => h
  | sink => exact iteInduction (fun _ => formOutputs_plantFormed _) fun _ => h
  | writeFailed n v =>
    unfold markWriteFailed
    split
    · exact plantFormed_onZone (fun _ => ⟨rfl, rfl⟩) h
    · exact h
  | minute =>
    exact plantFormed_eachZone
      (fun z t ht => plantFormed_onZone (fun zn => ⟨minute_state zn, minute_call zn⟩) ht) h
  | hostMode z m =>
    exact iteInduction (fun _ => formOutputs_plantFormed _)
      fun _ => plantFormed_onZone (f := fun zn => { zn with hostMode := m }) (fun _ => ⟨rfl, rfl⟩) h
  | endMakes =>
    unfold endMakes
    split
    · exact h
    · split
      · exact formOutputs_plantFormed _
      · exact h
  | endBreaks =>
    unfold endBreaks
    split
    · exact h
    · split
      case h_4 => exact h
      all_goals exact formOutputs_plantFormed _
  | travel =>
    unfold travelExpires
    split
    · exact formOutputs_plantFormed _
    · exact formOutputs_plantFormed _
    · exact h
  | retry =>
    unfold retryExpires
    split
    · exact formOutputs_plantFormed _
    · exact h
  | stored w z i v =>
    have hstored : (storeWorking ((Param.zone z i).store s.par v) s).plantFormed := plantFormed_of_zone rfl h
    cases i <;> simp only [changeEffect]
    case travel => exact hstored
    case failSafe => exact iteInduction (fun _ => formOutputs_plantFormed _) fun _ => hstored
    all_goals exact formOutputs_plantFormed _

/-- ZONE's outputs through every step, as an invariant of the zones. -/
theorem plantFormed_invariant : ZoneInvariant State.plantFormed where
  same h _ hzone _ := plantFormed_of_zone hzone h
  still h _ _ hzone := plantFormed_of_zone hzone h
  first _ hzone := plantFormed_of_zone hzone reset_plantFormed
  event _ e h := zoneEvent_plantFormed e h
  holdBegins _ := formOutputs_plantFormed _
  holdEnds _ := formOutputs_plantFormed _
  tick {s} h := plantFormed_congr (s := s) (fun z => by simp [Zone.tick]) rfl rfl rfl rfl h
  begins _ _ _ _ := formOutputs_plantFormed _

/-- Settles O8: every event that changes a zone's state or call ends with both outputs formed again. -/
theorem everyStepKeepsPlantFormed : Obligations.EveryStepKeepsPlantFormed := by
  unfold Obligations.EveryStepKeepsPlantFormed
  intro s t h e
  exact plantFormed_invariant.step h e

end Sys2Proof.Machine
end

section
/-! PROOF. The valve sequence's own operations, zone by zone (O10, O34, O35). -/

namespace Sys2Proof.Machine

variable {s t : State} {z y : Fin 6}

/-! ## What the valve's operations leave -/

/-- A zone's entry where its valve has come to a state with its timer. -/
def Zone.moved (st : ZoneState) (timer : ZoneTimer) (zn : Zone) : Zone := { zn with state := st, timer := timer }

/-- A zone that entered IDLE: OPENING, or OPEN with the switch made, with its call on (R53, R61). -/
def State.idled (s : State) (z : Fin 6) (zn : Zone) : Zone :=
  if zn.call && !s.supply.hold then
    if s.endIsMade z then zn.moved .opened .stopped else zn.moved .opening (s.travelTimer z)
  else zn.moved .idle .stopped

/-- A zone that entered CLOSING, with its switch still made, or went on to IDLE (R55). -/
def State.closed (s : State) (z : Fin 6) (zn : Zone) : Zone :=
  if s.endIsMade z then zn.moved .closing (s.travelTimer z) else s.idled z zn

theorem closed_state_ne_hold (s : State) (z : Fin 6) (zn : Zone) : (s.closed z zn).state ≠ .hold := by
  unfold State.closed State.idled
  (repeat' split) <;> simp [Zone.moved]

/-- The valve's operations leave what they read beside the zones. -/
def State.sameAround (s t : State) : Prop := t.inputs = s.inputs ∧ t.supply = s.supply ∧ t.sett = s.sett

theorem sameAround_of_hide {F : List Block} (e : t.hide F = s.hide F) (hin : Block.inputs ∉ F)
    (hsupply : Block.supply ∉ F) (hsett : Block.sett ∉ F) : s.sameAround t :=
  ⟨hide_eq_iff.1 e .inputs hin, hide_eq_iff.1 e .supply hsupply, hide_eq_iff.1 e .sett hsett⟩

theorem State.sameAround.made (h : s.sameAround t) (z : Fin 6) : t.endIsMade z = s.endIsMade z := by
  obtain ⟨hinputs, -, -⟩ := h
  simp only [State.endIsMade, hinputs]

theorem State.sameAround.travel (h : s.sameAround t) (z : Fin 6) : t.travelTimer z = s.travelTimer z := by
  obtain ⟨-, -, hsett⟩ := h
  simp only [State.travelTimer, State.zoneSet, hsett]

theorem State.sameAround.idled (h : s.sameAround t) (z : Fin 6) : t.idled z = s.idled z := by
  funext zn
  have hsupply : t.supply = s.supply := h.2.1
  simp only [State.idled, hsupply, h.made, h.travel]

theorem State.sameAround.closed (h : s.sameAround t) (z : Fin 6) : t.closed z = s.closed z := by
  funext zn
  simp only [State.closed, h.made, h.travel, h.idled]

theorem State.sameAround.trans {u : State} (h : s.sameAround t) (hu : t.sameAround u) : s.sameAround u := by
  obtain ⟨hinputs, hsupply, hsett⟩ := h
  obtain ⟨hinputs', hsupply', hsett'⟩ := hu
  exact ⟨hinputs'.trans hinputs, hsupply'.trans hsupply, hsett'.trans hsett⟩

theorem zoneTo_around (z : Fin 6) (st : ZoneState) (timer : ZoneTimer) (s : State) :
    s.sameAround (zoneTo z st timer s) :=
  sameAround_of_hide (F := [.zone, .posts]) (by simp) (by decide) (by decide) (by decide)

theorem enterClosing_around (z : Fin 6) (s : State) : s.sameAround (enterClosing z s) :=
  sameAround_of_hide (F := [.zone, .posts]) (by simp) (by decide) (by decide) (by decide)

theorem enterIdle_entry (z y : Fin 6) (s : State) : (enterIdle z s).zone.zones[y]
    = if y = z then s.idled z s.zone.zones[z] else s.zone.zones[y] := by
  have haround := zoneTo_around z .idle .stopped s
  have hsupply := haround.2.1
  have hcall : ((zoneTo z .idle .stopped s).zoneAt z).call = s.zone.zones[z].call := by
    unfold State.zoneAt
    rw [zoneTo_entry, if_pos rfl]
  unfold enterIdle State.idled
  dsimp only
  rw [hcall, hsupply]
  by_cases hgoes : (s.zone.zones[z].call && !s.supply.hold) = true
  · rw [if_pos hgoes, if_pos hgoes, enterOpening_entry, haround.made, haround.travel, zoneTo_entry,
      zoneTo_entry, if_pos rfl]
    by_cases hy : y = z
    · rw [if_pos hy, if_pos hy]
      split <;> rfl
    · rw [if_neg hy, if_neg hy, if_neg hy]
  · rw [if_neg hgoes, if_neg hgoes, zoneTo_entry]
    rfl

theorem enterClosing_entry (z y : Fin 6) (s : State) : (enterClosing z s).zone.zones[y]
    = if y = z then s.closed z s.zone.zones[z] else s.zone.zones[y] := by
  have haround := zoneTo_around z .closing (s.travelTimer z) s
  unfold enterClosing State.closed
  dsimp only
  rw [haround.made]
  by_cases hswitch : s.endIsMade z = true
  · rw [if_pos hswitch, if_pos hswitch, zoneTo_entry]
    rfl
  · rw [if_neg hswitch, if_neg hswitch, enterIdle_entry, haround.idled, zoneTo_entry, zoneTo_entry, if_pos rfl]
    by_cases hy : y = z
    · rw [if_pos hy, if_pos hy]
      rfl
    · rw [if_neg hy, if_neg hy, if_neg hy]

/-- Every zone that a test of its entry names enters CLOSING (R54, R60). -/
theorem closings_entry {c : Fin 6 → Zone → Prop} [∀ y zn, Decidable (c y zn)] {f : Fin 6 → State → State}
    (hf : ∀ y t, f y t = if c y (t.zone.zones[y]) then enterClosing y t else t) (s : State) (y : Fin 6) :
    (eachZone f s).zone.zones[y]
      = if c y s.zone.zones[y] then s.closed y s.zone.zones[y] else s.zone.zones[y] := by
  have hentry : (eachZone f s).zone.zones[y]
      = (fun z zn => if c z zn then s.closed z zn else zn) y s.zone.zones[y] := by
    refine eachZone_entry (P := s.sameAround) (g := fun z zn => if c z zn then s.closed z zn else zn)
      (fun z v hv => ?_) (fun z x v hv => ?_) ⟨rfl, rfl, rfl⟩ y
    · rw [hf]
      split
      · exact hv.trans (enterClosing_around z v)
      · exact hv
    · rw [hf]
      by_cases hc : c z v.zone.zones[z]
      · rw [if_pos hc, enterClosing_entry, hv.closed, if_pos hc]
      · rw [if_neg hc, if_neg hc]
        split
        · next hx => rw [hx]
        · rfl
  exact hentry

theorem closeHolds_entry (y : Fin 6) (s : State) : (closeHolds s).zone.zones[y]
    = if s.zone.zones[y].state = .hold then s.closed y s.zone.zones[y] else s.zone.zones[y] := by
  have heach : closeHolds s = eachZone (fun y t => if (t.zoneAt y).state = .hold then enterClosing y t else t) s := rfl
  have hentry := closings_entry (c := fun _ zn => zn.state = .hold)
    (f := fun y t => if (t.zoneAt y).state = .hold then enterClosing y t else t) (fun _ _ => rfl) s y
  rw [heach]
  exact hentry

theorem closeOtherHolds_entry (z y : Fin 6) (s : State) : (closeOtherHolds z s).zone.zones[y]
    = if y ≠ z ∧ s.zone.zones[y].state = .hold then s.closed y s.zone.zones[y] else s.zone.zones[y] :=
  closings_entry (c := fun y zn => y ≠ z ∧ zn.state = .hold) (f := fun y t =>
    if y ≠ z ∧ (t.zoneAt y).state = .hold then enterClosing y t else t) (fun _ _ => rfl) s y

/-- No other zone is left in HOLD (R54). -/
theorem closeOtherHolds_state (hy : y ≠ z) (s : State) : (closeOtherHolds z s).zone.zones[y].state ≠ .hold := by
  rw [closeOtherHolds_entry]
  split
  · exact closed_state_ne_hold _ _ _
  · next h => exact fun hstate => h ⟨hy, hstate⟩

end Sys2Proof.Machine
end

section
/-! PROOF. Invariants zone by zone: the changes of the zones they are kept by, and ZONE's events (O9, O10, O32). -/

namespace Sys2Proof.Machine

/-! ## What keeps an invariant zone by zone -/

/-- Two settings of a zone are of the same kind, and both enabled or neither (Table 3-2). -/
def sameUse (p q : ZoneSettings) : Prop := p.enabled = q.enabled ∧ p.kind = q.kind

/-- The parts a call is formed of (R52). -/
def Zone.parts (zn : Zone) : Bool × Bool × Bool := (zn.modeCall, zn.frostCall, zn.sinkDrive)

/-- A zone SIGHTED as it was, or not at all, or while the part runs by a report with what its kind goes by (R49). -/
def Zone.seesAs (old new : Zone) (running : Bool) (p : ZoneSettings) : Prop :=
  new.sighted = .sighted →
    (old.sighted = .sighted ∧ new.temp = old.temp)
      ∨ (running = true ∧ (p.kind ≠ .contact → new.temp ≠ none))

/-- The call of zone `z` as R52 forms it while the part runs. -/
def State.formed (s : State) (z : Fin 6) : Bool :=
  s.sett.working.zones[z].enabled
    && (s.zone.zones[z].modeCall || s.zone.zones[z].frostCall || s.zone.zones[z].sinkDrive)

/-- A family of invariants, each but for a set of zones whose call is still to be formed, that the elementary
changes of the zones keep. The invariant itself is the one but for no zone. -/
structure ZonesKept (E : Set (Fin 6) → State → Prop) : Prop where
  mono {X Y s} : E X s → X ⊆ Y → E Y s
  own {Y} {s t : State} : E Y s → t.running = s.running →
    (∀ z : Fin 6, sameUse t.sett.working.zones[z] s.sett.working.zones[z]) →
    (∀ z : Fin 6, t.zone.zones[z].state = s.zone.zones[z].state ∧ t.zone.zones[z].call = s.zone.zones[z].call
      ∧ (z ∈ Y ∨ t.zone.zones[z].parts = s.zone.zones[z].parts)
      ∧ s.zone.zones[z].seesAs t.zone.zones[z] s.running s.sett.working.zones[z]) → E Y t
  valve {Y z st timer} {s : State} : E Y s → st ≠ .hold → E Y (s.onZone z (Zone.moved st timer))
  toHold {Y z} {s : State} : E Y s → (∀ y : Fin 6, y ≠ z → s.zone.zones[y].state ≠ .hold) →
    E Y (s.onZone z (Zone.moved .hold .stopped))
  call {Y z} {s : State} : E Y s → s.running = true →
    E (Y \ {z}) (s.onZone z fun zn => { zn with call := s.formed z })
  rebound {Y} {s t : State} {z : Fin 6} {f : Zone → Zone} : E Y s → t.running = s.running →
    t.zone.zones = s.zone.zones →
    (∀ y : Fin 6, y ≠ z → sameUse t.sett.working.zones[y] s.sett.working.zones[y]) →
    (∀ zn : Zone, (f zn).state = zn.state ∧ (f zn).call = zn.call ∧ (f zn).sighted ≠ .sighted) →
    E (insert z Y) (t.onZone z f)
  still {s t : State} : E ∅ s → s.running = false → t.running = false → t.zone = s.zone → E ∅ t
  first {s : State} : s.running = false → s.zone = ZoneBlock.first → E ∅ s
  begins {s t : State} : E ∅ s → s.running = false → t.running = true → t.zone = s.zone → E Set.univ t

/-- The invariant of a kept family, but for the zones of `Y`, in a part that runs or does not. -/
def ZonesKept.holds {E : Set (Fin 6) → State → Prop} (_ : ZonesKept E) (r : Bool) (Y : Set (Fin 6)) (s : State) :
    Prop := s.running = r ∧ E Y s

/-- The parts that no zone goes by in these invariants. -/
def aroundParts : List Block :=
  [.inputs, .scan, .out, .loop, .burn, .gauge, .fuel, .store, .supply, .link, .svc, .posts, .free, .pending]

variable {E : Set (Fin 6) → State → Prop} {k : ZonesKept E} {r : Bool} {Y : Set (Fin 6)} {s t : State} {z : Fin 6}

theorem sameUse_refl (p : ZoneSettings) : sameUse p p := ⟨rfl, rfl⟩

theorem see_call (v : Sighted) (zn : Zone) : (zn.see v).call = zn.call := by
  unfold Zone.see
  split <;> rfl

theorem see_sighted (v : Sighted) (zn : Zone) : (zn.see v).sighted = v := by
  unfold Zone.see
  split
  · next h => exact h
  · rfl

theorem take_call (kind : NodeKind) (rep : Report) (zn : Zone) : (zn.take kind rep).call = zn.call := by
  unfold Zone.take
  dsimp only
  (repeat' split) <;> exact see_call _ _

theorem minute_parts (zn : Zone) : zn.minute.parts = zn.parts := by
  unfold Zone.minute
  split <;> rfl

theorem minute_sight (zn : Zone) : zn.minute.sighted = zn.sighted ∧ zn.minute.temp = zn.temp := by
  unfold Zone.minute
  split <;> exact ⟨rfl, rfl⟩

/-- A report that makes a zone SIGHTED by its temperature brings one (R39, R49). -/
theorem take_temp {kind : NodeKind} {rep : Report} {zn : Zone} (hkind : kind ≠ .contact)
    (hsighted : (zn.take kind rep).sighted = .sighted) : (zn.take kind rep).temp ≠ none := by
  have hblind : ∀ zn : Zone, (zn.see .blind).sighted ≠ .sighted := fun zn => by rw [see_sighted]; decide
  cases kind with
  | contact => exact absurd rfl hkind
  | dial | sensor =>
    unfold Zone.take at hsighted ⊢
    dsimp only at hsighted ⊢
    split at hsighted
    · simp
    · exact absurd hsighted (hblind _)

namespace ZonesKept.holds

section Updates
variable (h : k.holds r Y s)
include h

theorem mono {X : Set (Fin 6)} (hX : Y ⊆ X) : k.holds r X s := ⟨h.1, k.mono h.2 hX⟩

/-- A change of parts that the zones do not go by. -/
theorem rest (e : t.hide aroundParts = s.hide aroundParts) : k.holds r Y t := by
  obtain ⟨hrun, hkept⟩ := h
  have hrunning : t.running = s.running := running_of_hide _ e (by decide)
  have hzone : t.zone = s.zone := hide_eq_iff.1 e .zone (by decide)
  have hsett : t.sett = s.sett := hide_eq_iff.1 e .sett (by decide)
  refine ⟨hrunning.trans hrun, k.own hkept hrunning (fun z => ?_) fun z => ?_⟩
  · rw [hsett]
    exact sameUse_refl _
  · rw [hzone]
    exact ⟨rfl, rfl, .inr rfl, fun hs => .inl ⟨hs, rfl⟩⟩

/-- A change of ZONE that leaves the zones. -/
theorem onZoneBlock {f : ZoneBlock → ZoneBlock} (hf : (f s.zone).zones = s.zone.zones) :
    k.holds r Y (s.onZoneBlock f) := by
  refine ⟨h.1, k.own h.2 rfl (fun z => sameUse_refl _) fun z => ?_⟩
  rw [show (s.onZoneBlock f).zone.zones = s.zone.zones from hf]
  exact ⟨rfl, rfl, .inr rfl, fun hs => .inl ⟨hs, rfl⟩⟩

/-- A change of one zone that leaves its valve and its call. -/
theorem onZone {f : Zone → Zone} (hstate : (f s.zone.zones[z]).state = s.zone.zones[z].state)
    (hcall : (f s.zone.zones[z]).call = s.zone.zones[z].call)
    (hparts : z ∈ Y ∨ (f s.zone.zones[z]).parts = s.zone.zones[z].parts)
    (hsight : s.zone.zones[z].seesAs (f s.zone.zones[z]) s.running s.sett.working.zones[z]) :
    k.holds r Y (s.onZone z f) := by
  refine ⟨h.1, k.own h.2 rfl (fun _ => sameUse_refl _) fun y => ?_⟩
  rw [onZone_entry]
  split
  · next hy =>
    subst hy
    exact ⟨hstate, hcall, hparts, hsight⟩
  · exact ⟨rfl, rfl, .inr rfl, fun hs => .inl ⟨hs, rfl⟩⟩

theorem ite {c : Prop} [Decidable c] (ht : k.holds r Y t) : k.holds r Y (if c then s else t) := by
  split
  · exact h
  · exact ht

theorem eachZone {f : Fin 6 → State → State} (hf : ∀ z t, k.holds r Y t → k.holds r Y (f z t)) :
    k.holds r Y (eachZone f s) := by
  unfold Machine.eachZone
  induction allZones generalizing s with
  | nil => exact h
  | cons z l ih => exact ih (hf z s h)

/-! ## The valve sequence and the calls -/

theorem postDemand {ch v} : k.holds r Y (postDemand ch v s) := h.rest (by simp [aroundParts])

theorem postHeat {v} : k.holds r Y (postHeat v s) := h.rest (by simp [aroundParts])

theorem postNotice {n} : k.holds r Y (postNotice n s) := h.rest (by simp [aroundParts])

theorem writeToZoneNode {z i v} : k.holds r Y (writeToZoneNode z i v s) := h.rest (by simp [aroundParts])

theorem zoneTo {st timer} (hst : st ≠ .hold) : k.holds r Y (zoneTo z st timer s) := by
  have hmoved : k.holds r Y (s.onZone z (Zone.moved st timer)) := ⟨h.1, k.valve h.2 hst⟩
  exact ite hmoved hmoved.postDemand

theorem formHeat : k.holds r Y (formHeat s) := h.ite (h.onZoneBlock rfl).postHeat

theorem formOutputs : k.holds r Y (formOutputs s) :=
  h.formHeat.ite (h.formHeat.onZoneBlock rfl).postDemand

theorem enterOpening : k.holds r Y (enterOpening z s) :=
  ((h.zoneTo (by decide)).zoneTo (by decide)).ite (h.zoneTo (by decide))

theorem enterIdle : k.holds r Y (enterIdle z s) := (h.zoneTo (by decide)).enterOpening.ite (h.zoneTo (by decide))

theorem enterClosing : k.holds r Y (enterClosing z s) := (h.zoneTo (by decide)).ite (h.zoneTo (by decide)).enterIdle

theorem enterFault {cause} : k.holds r Y (enterFault z cause s) :=
  ((h.zoneTo (by decide)).onZone rfl rfl (.inr rfl) fun hs => .inl ⟨hs, rfl⟩).postNotice.writeToZoneNode

theorem closeHolds : k.holds r Y (closeHolds s) := h.eachZone fun _ _ ht => ht.enterClosing.ite ht

theorem closeOtherHolds : k.holds r Y (closeOtherHolds z s) := h.eachZone fun _ _ ht => ht.enterClosing.ite ht

/-- A zone comes to HOLD when no other is left there (R54). -/
theorem enterHold : k.holds r Y (Machine.zoneTo z .hold .stopped (Machine.closeOtherHolds z s)) := by
  have hclosed : k.holds r Y (Machine.closeOtherHolds z s) := h.closeOtherHolds
  have hmoved : k.holds r Y ((Machine.closeOtherHolds z s).onZone z (Zone.moved .hold .stopped)) :=
    ⟨hclosed.1, k.toHold hclosed.2 fun _ hy => closeOtherHolds_state hy s⟩
  exact ite hmoved hmoved.postDemand

theorem callRises : k.holds r Y (callRises z s) := by
  unfold Machine.callRises
  split
  · exact h.ite h.enterOpening
  · exact h.zoneTo (by decide)
  · exact h

theorem callFalls : k.holds r Y (callFalls z s) := by
  unfold Machine.callFalls
  split
  · exact h.enterClosing
  · exact h.enterClosing.ite h.enterHold
  · exact h

end Updates

section Running
variable (h : k.holds true Y s)
include h

theorem onZonePart {f : Zone → Zone} (hstate : (f s.zone.zones[z]).state = s.zone.zones[z].state)
    (hcall : (f s.zone.zones[z]).call = s.zone.zones[z].call)
    (hsight : (f s.zone.zones[z]).sighted = .sighted →
      (s.zone.zones[z].sighted = .sighted ∧ (f s.zone.zones[z]).temp = s.zone.zones[z].temp)
        ∨ (s.sett.working.zones[z].kind ≠ .contact → (f s.zone.zones[z]).temp ≠ none)) :
    k.holds true (insert z Y) (s.onZone z f) :=
  (h.mono (Set.subset_insert z Y)).onZone hstate hcall (.inl (Set.mem_insert z Y))
    fun hs => (hsight hs).imp id fun ht => ⟨h.1, ht⟩

/-- A call formed is that of its parts (R52). -/
theorem formCall : k.holds true (Y \ {z}) (formCall z s) := by
  have hcalled : k.holds true (Y \ {z}) (s.onZone z fun zn => { zn with call := s.formed z }) :=
    ⟨h.1, k.call h.2 h.1⟩
  unfold Machine.formCall
  dsimp only
  split
  · next hsame =>
    have hentry : ∀ y : Fin 6, (s.onZone z fun zn => { zn with call := s.formed z }).zone.zones[y]
        = s.zone.zones[y] := fun y => by
      have hset : ({ s.zone.zones[z] with call := s.formed z } : Zone) = s.zone.zones[z] :=
        congrArg (fun v => ({ s.zone.zones[z] with call := v } : Zone)) hsame
      rw [onZone_entry]
      split
      · next hy => rw [hset, hy]
      · rfl
    refine ⟨h.1, k.own hcalled.2 rfl (fun _ => sameUse_refl _) fun y => ?_⟩
    rw [hentry]
    exact ⟨rfl, rfl, .inr rfl, fun hs => .inl ⟨hs, rfl⟩⟩
  · exact (hcalled.callRises.ite hcalled.callFalls).formOutputs

theorem evaluateCall : k.holds true (Y \ {z}) (evaluateCall z s) := by
  have hset : k.holds true (insert z Y) (s.onZone z fun zn =>
      { zn with modeCall := (s.callsOf z).1, frostCall := (s.callsOf z).2 }) :=
    h.onZonePart rfl rfl fun hs => .inl ⟨hs, rfl⟩
  refine hset.formCall.mono fun y hy => ?_
  obtain ⟨hmem, hne⟩ := hy
  exact ⟨hmem.resolve_left hne, hne⟩

theorem deriveTarget : k.holds true Y (deriveTarget z s) := by
  have hset : k.holds true Y (s.onZone z fun zn => { zn with target := s.targetOf z }) :=
    h.onZone rfl rfl (.inr rfl) fun hs => .inl ⟨hs, rfl⟩
  exact h.ite (hset.writeToZoneNode.evaluateCall.mono Set.sdiff_subset)

theorem modeChanged : k.holds true (Y \ {z}) (modeChanged z s) := h.deriveTarget.evaluateCall

theorem driveSink {v} : k.holds true (Y \ {z}) (driveSink z v s) := by
  have hset : k.holds true (insert z Y) (s.onZone z fun zn => { zn with sinkDrive := v }) :=
    h.onZonePart rfl rfl fun hs => .inl ⟨hs, rfl⟩
  refine hset.formCall.mono fun y hy => ?_
  obtain ⟨hmem, hne⟩ := hy
  exact ⟨hmem.resolve_left hne, hne⟩

end Running

/-! ## ZONE's events -/

/-- A zone whose view of its node changed, its target and call evaluated again (R48 to R52). -/
theorem evaluated (h : k.holds true {z} s) :
    k.holds true ∅ (Machine.formOutputs (Machine.evaluateCall z (Machine.deriveTarget z s))) :=
  (h.deriveTarget.evaluateCall.mono (by simp)).formOutputs

section Events
variable (h : k.holds true ∅ s)
include h

theorem formsCall : k.holds true ∅ (Machine.evaluateCall z s) := h.evaluateCall.mono Set.sdiff_subset

theorem changesMode : k.holds true ∅ (Machine.modeChanged z s) := h.modeChanged.mono Set.sdiff_subset

theorem drivesSink {v} : k.holds true ∅ (Machine.driveSink z v s) := h.driveSink.mono Set.sdiff_subset

/-- A zone that is not SIGHTED after a change of its view (R49, R51). -/
theorem unsights {f : Zone → Zone} (hf : ∀ zn : Zone, (f zn).state = zn.state ∧ (f zn).call = zn.call
    ∧ (f zn).sighted ≠ .sighted) : k.holds true {z} (s.onZone z f) := by
  obtain ⟨hstate, hcall, hsighted⟩ := hf s.zone.zones[z]
  exact (h.onZonePart hstate hcall fun hs => absurd hs hsighted).mono (by simp)

theorem takesReport {rep} : k.holds true ∅ (zoneTakesReport z rep s) :=
  ((h.onZonePart (take_state _ _ _) (take_call _ _ _) fun hs => .inr fun hkind => take_temp hkind hs).mono
    (by simp)).evaluated

theorem losesNode : k.holds true ∅ (zoneLosesNode z s) := by
  have hlost : k.holds true {z} (s.onZone z fun zn =>
      { zn.see .blind with temp := none, dial := none, contact := none, statLost := true }) :=
    h.unsights fun zn => ⟨see_state _ zn, see_call _ zn, by simp [see_sighted]⟩
  exact hlost.evaluated

theorem hasNoReport : k.holds true ∅ (zoneHasNoReport z s) :=
  ite (((h.unsights fun zn => ⟨see_state _ zn, see_call _ zn, by simp [see_sighted]⟩).evaluateCall.mono
    (by simp)).formOutputs) h

theorem takesMode : k.holds true ∅ (zonesTakeMode s) := (h.eachZone fun _ _ ht => ht.changesMode).formOutputs

theorem channelFault : k.holds true ∅ (zoneChannelFault z s) := h.ite h.enterFault.formOutputs

theorem evaluatesFrost : k.holds true ∅ (evaluateBoilerFrost s) :=
  h.ite (h.onZoneBlock rfl).drivesSink.formOutputs

theorem marksWrite {n v} : k.holds true ∅ (markWriteFailed n v s) := by
  unfold markWriteFailed
  split
  · exact h.onZone rfl rfl (.inr rfl) fun hs => .inl ⟨hs, rfl⟩
  · exact h

theorem takesStage {g} : k.holds true ∅ (zonesTakeStage g s) :=
  ((h.onZoneBlock rfl).eachZone fun _ _ ht => ht.deriveTarget).formOutputs

theorem takesOverrun {v} : k.holds true ∅ (zonesTakeOverrun v s) :=
  (ite (h.onZoneBlock rfl) (h.onZoneBlock rfl).closeHolds).formOutputs

theorem minute : k.holds true ∅ (zonesMinute s) :=
  h.eachZone fun _ _ ht => ht.onZone (minute_state _) (minute_call _) (.inr (minute_parts _)) fun hs =>
    .inl ((minute_sight _).imp (fun e => e.symm.trans hs) id)

theorem setsMode {m} : k.holds true ∅ (setHostMode z m s) := by
  have hset : k.holds true ∅ (s.onZone z fun zn => { zn with hostMode := m }) :=
    h.onZone rfl rfl (.inr rfl) fun hs => .inl ⟨hs, rfl⟩
  exact ite hset.changesMode.formOutputs hset

theorem blindAt {n} : k.holds true ∅ (blindAt z n s) :=
  formOutputs (formsCall (h.onZone (f := fun zn => { zn with blindPos := n }) rfl rfl (.inr rfl)
    fun hs => .inl ⟨hs, rfl⟩))

theorem switchMakes : k.holds true ∅ (endMakes z s) := h.ite ((h.zoneTo (by decide)).formOutputs.ite h)

theorem switchBreaks : k.holds true ∅ (endBreaks z s) := by
  unfold endBreaks
  split
  · exact h
  · split
    · exact h.enterIdle.formOutputs
    · exact h.enterFault.formOutputs
    · exact h.enterFault.formOutputs
    · exact h

theorem travelEnds : k.holds true ∅ (travelExpires z s) := by
  unfold travelExpires
  split
  · exact h.enterFault.formOutputs
  · exact h.enterFault.formOutputs
  · exact h

theorem retryEnds : k.holds true ∅ (retryExpires z s) := by
  unfold retryExpires
  split
  · have hidle : k.holds true ∅ (Machine.writeToZoneNode z .faultLamp 0
        (Machine.postNotice .zoneFault (Machine.zoneTo z .idle .stopped s))) :=
      (h.zoneTo (by decide)).postNotice.writeToZoneNode
    exact (hidle.enterOpening.ite hidle).formOutputs
  · exact h

theorem changesSink {old} : k.holds true ∅ (sinkChanged old s) := ite h.drivesSink.drivesSink.formOutputs h

/-- The working set changed in what no zone goes by here. -/
theorem onSett {f : SetBlock → SetBlock}
    (hf : ∀ z : Fin 6, sameUse (f s.sett).working.zones[z] s.sett.working.zones[z]) :
    k.holds true ∅ (s.onSett f) :=
  ⟨h.1, k.own h.2 rfl hf fun _ => ⟨rfl, rfl, .inr rfl, fun hs => .inl ⟨hs, rfl⟩⟩⟩

/-- A zone bound anew loses its view (R37, R46). -/
theorem rebinds {f : SetBlock → SetBlock}
    (hf : ∀ y : Fin 6, y ≠ z → sameUse (f s.sett).working.zones[y] s.sett.working.zones[y]) :
    k.holds true ∅ (bindingChanged z (s.onSett f)) := by
  have hreset : k.holds true (insert z ∅) (resetView z (s.onSett f)) :=
    ⟨h.1, k.rebound (t := s.onSett f) h.2 rfl rfl hf fun zn =>
      ⟨see_state _ zn, see_call _ zn, by simp [see_sighted]; split <;> decide⟩⟩
  exact ((hreset.mono (by simp)).rest (by simp [aroundParts])).evaluated

end Events

/-- A stored item of a zone's settings changes that zone alone. -/
theorem store_sameUse {y : Fin 6} (i : ZoneItem) (v : Int) (w : Settings) (hy : y ≠ z) :
    sameUse ((Param.zone z i).store w v).zones[y] w.zones[y] := by
  have hv : z.val ≠ y.val := fun e => hy (Fin.ext e.symm)
  simp [Param.store, sameUse, hv]

/-- The items a zone's use does not go by (Table 3-2). -/
theorem store_keepsUse {i : ZoneItem} (v : Int) (w : Settings) (y : Fin 6)
    (hi : ∀ p n, sameUse (i.store p n) p) : sameUse ((Param.zone z i).store w v).zones[y] w.zones[y] := by
  by_cases hy : y = z
  · subst hy
    simpa [Param.store] using hi _ _
  · exact store_sameUse i v w hy

theorem stores {w i v} (h : k.holds true ∅ s) :
    k.holds true ∅ (changeEffect w (.zone z i) (storeWorking ((Param.zone z i).store s.par v) s)) := by
  have hkept (hi : ∀ p n, sameUse (i.store p n) p) :
      k.holds true ∅ (storeWorking ((Param.zone z i).store s.par v) s) :=
    h.onSett fun y => store_keepsUse v s.par y hi
  have hbound : k.holds true ∅ (bindingChanged z (storeWorking ((Param.zone z i).store s.par v) s)) :=
    h.rebinds fun _ hy => store_sameUse i v s.par hy
  cases i with
  | enabled | node | kind => exact hbound
  | comfort | economy | frost | hyst | duty =>
    exact ((hkept fun _ _ => ⟨rfl, rfl⟩).mono (Set.empty_subset {z})).evaluated
  | travel => exact hkept fun _ _ => ⟨rfl, rfl⟩
  | failSafe =>
    have hstored := hkept fun _ _ => ⟨rfl, rfl⟩
    exact ite hstored.changesMode.formOutputs hstored

theorem event (h : k.holds true ∅ s) (e : s.zoneEvent t) : k.holds true ∅ t := by
  cases e with
  | mode => exact h.takesMode
  | channelFault => exact h.channelFault
  | boilerFrost => exact h.evaluatesFrost
  | report => exact h.takesReport
  | nodeLost => exact h.losesNode
  | noReport => exact h.hasNoReport
  | writeFailed => exact h.marksWrite
  | stage => exact h.takesStage
  | overrun => exact h.takesOverrun
  | minute => exact h.minute
  | hostMode => exact h.setsMode
  | blind => exact h.blindAt
  | endMakes => exact h.switchMakes
  | endBreaks => exact h.switchBreaks
  | travel => exact h.travelEnds
  | retry => exact h.retryEnds
  | sink => exact h.changesSink
  | stored => exact h.stores

/-- Every zone of a list evaluated, their calls are formed. -/
theorem foldl {f : Fin 6 → State → State} (hf : ∀ z Y t, k.holds true Y t → k.holds true (Y \ {z}) (f z t))
    (h : k.holds true Y s) (l : List (Fin 6)) :
    k.holds true (Y \ {z | z ∈ l}) (l.foldl (fun t z => f z t) s) := by
  induction l generalizing Y s with
  | nil => simpa using h
  | cons z l ih =>
    refine (ih (hf z Y s h)).mono fun y hy => ?_
    obtain ⟨⟨hmem, hne⟩, hrest⟩ := hy
    exact ⟨hmem, fun hin => (List.mem_cons.1 hin).elim hne hrest⟩

theorem begins (h : k.holds true Set.univ s) : k.holds true ∅ (zonesBegin s) := by
  refine ((foldl (fun z Y t ht => ?_) h allZones).mono fun y hy => hy.2 (mem_allZones y)).formOutputs
  have hseen : k.holds true (insert z Y) (t.onZone z (Zone.see .blind)) :=
    ht.onZonePart (see_state _ _) (see_call _ _) fun hs => by simp [see_sighted] at hs
  have hset : k.holds true (insert z Y)
      ((if (t.zoneSet z).enabled && (t.zoneSet z).node == 0 then t.onZone z (Zone.see .blind) else t).onZone z
        fun zn => { zn with target := t.targetOf z }) :=
    (hseen.ite (ht.mono (Set.subset_insert z Y))).onZone rfl rfl (.inr rfl) fun hs => .inl ⟨hs, rfl⟩
  refine hset.evaluateCall.mono fun y hy => ?_
  obtain ⟨hmem, hne⟩ := hy
  exact ⟨hmem.resolve_left hne, hne⟩

end ZonesKept.holds

/-- A family kept by the elementary changes of the zones is an invariant of the zones. -/
theorem ZonesKept.invariant (k : ZonesKept E) : ZoneInvariant (E ∅) where
  same h hrun hzone hsett := k.own h hrun (fun z => by rw [hsett]; exact sameUse_refl _) fun z => by
    rw [hzone]
    exact ⟨rfl, rfl, .inr rfl, fun hs => .inl ⟨hs, rfl⟩⟩
  still := k.still
  first := k.first
  event hrun e h := (ZonesKept.holds.event (k := k) ⟨hrun, h⟩ e).2
  holdBegins h :=
    (ZonesKept.holds.formOutputs (k := k) (ZonesKept.holds.eachZone ⟨rfl, h⟩ fun _ _ ht =>
      (ht.zoneTo (by decide)).writeToZoneNode.ite (ht.zoneTo (by decide)))).2
  holdEnds h :=
    (ZonesKept.holds.formOutputs (k := k) (ZonesKept.holds.eachZone ⟨rfl, h⟩ fun _ _ ht =>
      ht.enterOpening.ite ht)).2
  tick h := k.own h rfl (fun _ => sameUse_refl _) fun z => by
    simpa [Zone.tick, Zone.parts, Zone.seesAs] using fun hs => .inl hs
  begins hstill hrun hzone h := (ZonesKept.holds.begins (k := k) ⟨hrun, k.begins h hstill hrun hzone⟩).2

end Sys2Proof.Machine
end

section
/-! PROOF. The calls, the one HOLD and the sight of the zones through every step (O9, O10, O32). -/

namespace Sys2Proof.Machine

variable {s t : State}

/-! ## At most one HOLD (R54) -/

/-- What is in HOLD stands where every zone's state does. -/
theorem oneHold_congr (hstates : ∀ z : Fin 6, t.zone.zones[z].state = s.zone.zones[z].state) (h : s.oneHold) :
    t.oneHold := by
  intro z y hz hy
  rw [hstates] at hz hy
  exact h z y hz hy

theorem first_states (hzone : s.zone = ZoneBlock.first) (z : Fin 6) : s.zone.zones[z] = Zone.first := by
  rw [hzone]
  simp [ZoneBlock.first]

/-- A HOLD is entered with no other zone in HOLD, and every other change of a valve leaves fewer in HOLD. -/
theorem oneHold_kept : ZonesKept fun _ s => s.oneHold where
  mono h _ := h
  own h _ _ hzones := oneHold_congr (fun z => (hzones z).1) h
  valve {Y z st timer s} h hst := by
    intro x y hx hy
    rw [onZone_entry] at hx hy
    split at hx
    · exact absurd hx hst
    · split at hy
      · exact absurd hy hst
      · exact h x y hx hy
  toHold {Y z s} h hothers := by
    have hlone : ∀ x : Fin 6, (s.onZone z (Zone.moved .hold .stopped)).zone.zones[x].state = .hold → x = z :=
      fun x hx => by
        rw [onZone_entry] at hx
        split at hx
        · next hxz => exact hxz
        · next hxz => exact absurd hx (hothers x hxz)
    exact fun x y hx hy => (hlone x hx).trans (hlone y hy).symm
  call h _ := oneHold_congr (fun x => by rw [onZone_entry]; split <;> simp_all) h
  rebound {Y s t z f} h _ hzones _ hf := by
    refine oneHold_congr (fun x => ?_) h
    rw [onZone_entry, hzones]
    split
    · next hx =>
      rw [hx]
      exact (hf _).1
    · rfl
  still h _ _ hzone := oneHold_congr (fun _ => by rw [hzone]) h
  first _ hzone := by
    intro z y hz
    rw [first_states hzone] at hz
    cases hz
  begins h _ _ hzone := oneHold_congr (fun _ => by rw [hzone]) h

/-- Settles O10: a zone comes to HOLD only when every other one has left it. -/
theorem everyStepKeepsOneHold : Obligations.EveryStepKeepsOneHold := by
  unfold Obligations.EveryStepKeepsOneHold
  intro s t h e
  exact oneHold_kept.invariant.step h e

/-! ## The calls (R52) -/

/-- The calls of the zones outside `Y` are formed (R52, R61). -/
def State.callsFormedBut (Y : Set (Fin 6)) (s : State) : Prop :=
  ∀ z ∉ Y, s.zone.zones[z].call = (s.running && s.formed z)

theorem callsFormed_iff (s : State) : s.callsFormed ↔ s.callsFormedBut ∅ := by
  simp [State.callsFormed, State.callsFormedBut, State.formed, State.running, Bool.and_assoc]

theorem formed_congr {z : Fin 6} (huse : sameUse t.sett.working.zones[z] s.sett.working.zones[z])
    (hparts : t.zone.zones[z].parts = s.zone.zones[z].parts) : t.formed z = s.formed z := by
  obtain ⟨henabled, -⟩ := huse
  simp only [Zone.parts, Prod.mk.injEq] at hparts
  obtain ⟨hmode, hfrost, hsink⟩ := hparts
  simp only [State.formed, henabled, hmode, hfrost, hsink]

/-- A zone's call stands with what it is formed of. -/
theorem callsFormedBut_congr {X Y : Set (Fin 6)} (hXY : ∀ z ∉ Y, z ∉ X) (hrun : t.running = s.running)
    (hzones : ∀ z ∉ Y, t.zone.zones[z].call = s.zone.zones[z].call ∧ t.formed z = s.formed z)
    (h : s.callsFormedBut X) : t.callsFormedBut Y := by
  intro z hz
  obtain ⟨hcall, hformed⟩ := hzones z hz
  rw [hcall, hformed, hrun]
  exact h z (hXY z hz)

/-- A valve that moves leaves the calls. -/
theorem callsFormedBut_moved {Y : Set (Fin 6)} {z : Fin 6} {st : ZoneState} {timer : ZoneTimer}
    (h : s.callsFormedBut Y) : (s.onZone z (Zone.moved st timer)).callsFormedBut Y := by
  refine callsFormedBut_congr (s := s) (fun _ hx => hx) rfl (fun x _ => ?_) h
  unfold State.formed
  rw [onZone_entry]
  split
  · next hx =>
    subst hx
    exact ⟨rfl, rfl⟩
  · exact ⟨rfl, rfl⟩

/-- Every change of a part of a call is followed by the forming of that call. -/
theorem callsFormed_kept : ZonesKept State.callsFormedBut where
  mono h hXY z hz := h z fun hin => hz (hXY hin)
  own h hrun huse hzones :=
    callsFormedBut_congr (fun _ hz => hz) hrun (fun z hz => by
      obtain ⟨-, hcall, hparts, -⟩ := hzones z
      exact ⟨hcall, formed_congr (huse z) (hparts.resolve_left hz)⟩) h
  valve h _ := callsFormedBut_moved h
  toHold h _ := callsFormedBut_moved h
  call {Y z s} h hrun := by
    intro x hx
    have hrun' : (s.onZone z fun zn => { zn with call := s.formed z }).running = true := hrun
    have hformed : (s.onZone z fun zn => { zn with call := s.formed z }).formed x = s.formed x :=
      formed_congr (sameUse_refl _) (by rw [onZone_entry]; split <;> simp_all [Zone.parts])
    rw [hrun', hformed, Bool.true_and, onZone_entry]
    split
    · next hxz => rw [hxz]
    · next hxz =>
      have hcall := h x fun hin => hx ⟨hin, hxz⟩
      rwa [hrun, Bool.true_and] at hcall
  rebound {Y s t z f} h hrun hzones huse _ :=
    callsFormedBut_congr (fun _ hz hin => hz (Set.mem_insert_of_mem z hin)) hrun (fun x hx => by
      have hxz : x ≠ z := fun e => hx (e ▸ Set.mem_insert x Y)
      have hentry : (t.onZone z f).zone.zones[x] = s.zone.zones[x] := by
        rw [onZone_entry, if_neg hxz, hzones]
      exact ⟨by rw [hentry], formed_congr (huse x hxz) (by rw [hentry])⟩) h
  still h hs ht hzone := by
    intro z hz
    have hcall := h z hz
    rw [hs, Bool.false_and] at hcall
    rw [ht, Bool.false_and, hzone, hcall]
  first hs hzone := by
    intro z _
    rw [hs, Bool.false_and, first_states hzone]
    rfl
  begins _ _ _ _ := fun z hz => absurd (Set.mem_univ z) hz

/-- Settles O9: each change of a call's parts is followed by the forming of the call. -/
theorem everyStepKeepsCallsFormed : Obligations.EveryStepKeepsCallsFormed := by
  unfold Obligations.EveryStepKeepsCallsFormed
  intro s t h e
  rw [callsFormed_iff] at h ⊢
  exact callsFormed_kept.invariant.step h e

/-! ## The sight (R49, R51) -/

/-- A change of one zone that leaves its sight. -/
theorem sightedByReport_onZone {z : Fin 6} {f : Zone → Zone} (hf : ∀ zn : Zone, (f zn).sighted = zn.sighted
    ∧ (f zn).temp = zn.temp) (h : s.sightedByReport) : (s.onZone z f).sightedByReport := by
  have hsame : ∀ x : Fin 6, (s.onZone z f).zone.zones[x].sighted = s.zone.zones[x].sighted
      ∧ (s.onZone z f).zone.zones[x].temp = s.zone.zones[x].temp := fun x => by
    rw [onZone_entry]
    split
    · next hx =>
      rw [hx]
      exact hf _
    · exact ⟨rfl, rfl⟩
  obtain ⟨hseen, hrest⟩ := h
  refine ⟨fun x hx hkind => ?_, fun hstill x hx => ?_⟩
  · rw [(hsame x).1] at hx
    rw [(hsame x).2]
    exact hseen x hx hkind
  · rw [(hsame x).1] at hx
    exact hrest hstill x hx

/-- A zone becomes SIGHTED by a report alone, which brings what its kind goes by. -/
theorem sightedByReport_kept : ZonesKept fun _ s => s.sightedByReport where
  mono h _ := h
  own {Y s t} h hrun huse hzones := by
    obtain ⟨hseen, hrest⟩ := h
    refine ⟨fun z hz hkind => ?_, fun hstill z hz => ?_⟩
    · obtain ⟨-, hkinds⟩ := huse z
      rw [hkinds] at hkind
      obtain ⟨hsame, htemp⟩ | ⟨-, htemp⟩ := (hzones z).2.2.2 hz
      · rw [htemp]
        exact hseen z hsame hkind
      · exact htemp hkind
    · rw [hrun] at hstill
      obtain ⟨hsame, -⟩ | ⟨hruns, -⟩ := (hzones z).2.2.2 hz
      · exact hrest hstill z hsame
      · rw [hstill] at hruns
        cases hruns
  valve h _ := sightedByReport_onZone (fun _ => ⟨rfl, rfl⟩) h
  toHold h _ := sightedByReport_onZone (fun _ => ⟨rfl, rfl⟩) h
  call h _ := sightedByReport_onZone (fun _ => ⟨rfl, rfl⟩) h
  rebound {Y s t z f} h hrun hzones huse hf := by
    have hother : ∀ x : Fin 6, (t.onZone z f).zone.zones[x].sighted = .sighted →
        x ≠ z ∧ (t.onZone z f).zone.zones[x] = s.zone.zones[x] := fun x hx => by
      rw [onZone_entry] at hx ⊢
      split at hx
      · exact absurd hx (hf _).2.2
      · next hxz => exact ⟨hxz, by rw [if_neg hxz, hzones]⟩
    obtain ⟨hseen, hrest⟩ := h
    refine ⟨fun x hx hkind => ?_, fun hstill x hx => ?_⟩
    · obtain ⟨hxz, hentry⟩ := hother x hx
      obtain ⟨-, hkinds⟩ := huse x hxz
      rw [hentry] at hx ⊢
      exact hseen x hx fun e => hkind (hkinds.trans e)
    · obtain ⟨-, hentry⟩ := hother x hx
      rw [hentry] at hx
      exact hrest (hrun.symm.trans hstill) x hx
  still h hs _ hzone := by
    obtain ⟨-, hrest⟩ := h
    refine ⟨fun z hz => absurd hz ?_, fun _ z => ?_⟩
    · rw [hzone]
      exact hrest hs z
    · rw [hzone]
      exact hrest hs z
  first _ hzone := by
    refine ⟨fun z hz => absurd hz ?_, fun _ z => ?_⟩ <;> rw [first_states hzone] <;> decide
  begins h hs hrun hzone := by
    obtain ⟨-, hrest⟩ := h
    refine ⟨fun z hz => absurd hz ?_, fun hstill => ?_⟩
    · rw [hzone]
      exact hrest hs z
    · rw [hrun] at hstill
      cases hstill

theorem sightedByReport_step (h : s.sightedByReport) (e : step s = .next t) : t.sightedByReport :=
  sightedByReport_kept.invariant.step h e

theorem reset_sightedByReport : State.reset.sightedByReport :=
  sightedByReport_kept.first rfl rfl

end Sys2Proof.Machine
end

section
/-! PROOF. LOOP's write queue, STAT_WRITE and the write slot (O30, O31). -/

namespace Sys2Proof.Machine

variable {s t : State}

/-! ## The write queue (R41) -/

theorem sameAs_iff {n : Fin 15} {i : Item} {e : WriteEntry} : e.sameAs n i = true ↔ e.node = n ∧ e.item = i := by
  simp [WriteEntry.sameAs]

/-- A write to a node and an item that wait merges into their entry. -/
theorem queueWrite_merges {n : Fin 15} {i : Item} {q : List WriteEntry} (v : Nat)
    (h : ∃ e ∈ q, e.node = n ∧ e.item = i) : queueWrite n i v q = some (q.map fun e =>
      if e.node = n ∧ e.item = i then { e with value := v, failedOnce := false, merged := e.inSlot } else e) := by
  obtain ⟨e, he, hsame⟩ := h
  have hany : q.any (WriteEntry.sameAs n i) = true := List.any_eq_true.2 ⟨e, he, sameAs_iff.2 hsame⟩
  rw [queueWrite, if_pos hany]
  refine congrArg some (List.map_congr_left fun x _ => ?_)
  by_cases hx : x.node = n ∧ x.item = i
  · rw [if_pos (sameAs_iff.2 hx), if_pos hx]
  · rw [if_neg (sameAs_iff.not.2 hx), if_neg hx]

/-- A write to a node and an item that do not wait joins at the newest end, or finds the queue full. -/
theorem queueWrite_joins {n : Fin 15} {i : Item} {q : List WriteEntry} (v : Nat)
    (h : ∀ e ∈ q, ¬ (e.node = n ∧ e.item = i)) : queueWrite n i v q =
      if q.length < 8 then some (q ++ [⟨n, i, v, false, false, false⟩]) else none := by
  have hany : ¬ q.any (WriteEntry.sameAs n i) = true := fun hin => by
    obtain ⟨e, he, hsame⟩ := List.any_eq_true.1 hin
    exact h e he (sameAs_iff.1 hsame)
  rw [queueWrite, if_neg hany]
  rfl

/-! ## STAT_WRITE (R43) -/

theorem nodeOfAddress_none {a : Nat} (h : a = 0 ∨ 15 < a) : nodeOfAddress a = none :=
  dif_neg (by omega)

theorem itemOf_none {i : Nat} (h : 2 < i) : itemOf i = none := by
  obtain ⟨k, rfl⟩ : ∃ k, i = k + 3 := ⟨i - 3, by omega⟩
  rfl

theorem itemOf_code (item : Item) : itemOf item.code = some item := by
  cases item <;> rfl

/-- STAT_WRITE refused for an address, an item or a value (Table 3-5). -/
theorem exec_statWrite_refused {a i v0 v1 : Byte} (htakes : s.takes)
    (hbody : statWriteRequest [a, i, v0, v1] s.heard = answer (replyRefused kindStatWrite .badValue) s.heard) :
    exec (.statWrite [a, i, v0, v1]) s = .next (s.replied (plainReply 0x0B .refused .badValue [])) :=
  next_request_replied (body := statWriteRequest) htakes (Nat.le_of_ble_eq_true rfl) hbody

theorem statWriteRequest_address {a i v0 v1 : Byte} (h : a = 0 ∨ 15 < a.toNat ∨ 2 < i.toNat) :
    statWriteRequest [a, i, v0, v1] s = answer (replyRefused kindStatWrite .badValue) s := by
  unfold statWriteRequest
  dsimp only
  split
  · next hn hi =>
    obtain rfl | ha | hi' := h
    · rw [nodeOfAddress_none (a := BitVec.toNat 0) (.inl rfl)] at hn
      cases hn
    · rw [nodeOfAddress_none (.inr ha)] at hn
      cases hn
    · rw [itemOf_none hi'] at hi
      cases hi
  · rfl

section Node
variable {a i v0 v1 : Byte} {n : Fin 15} {item : Item} (ha : a.toNat = n.val + 1) (hi : i.toNat = item.code)
include ha hi

theorem statWriteRequest_bound (hbound : s.loop.nodes[n].zone ≠ none) :
    statWriteRequest [a, i, v0, v1] s = hostWrite n item (num16 v0 v1) s := by
  simp only [statWriteRequest, nodeOfAddress_eq_some.2 ha, hi, itemOf_code]
  exact if_pos (Option.isSome_iff_ne_none.2 hbound)

theorem statWriteRequest_free (hfree : s.loop.nodes[n].zone = none) :
    statWriteRequest [a, i, v0, v1] s = answer (replyRefused kindStatWrite .badValue) s := by
  simp only [statWriteRequest, nodeOfAddress_eq_some.2 ha, hi, itemOf_code]
  exact if_neg (by simpa [State.nodeAt] using hfree)

end Node

/-- The value an item takes (R43, 11.2). -/
theorem displayValue_eq {item : Item} {v w : Nat}
    (h : (item = .shownSetpoint ∧ w = (if v = 65535 then v else max 30 (min v 300)))
      ∨ (item = .oilLamp ∧ v ≤ 3 ∧ w = v) ∨ (item = .faultLamp ∧ v ≤ 1 ∧ w = v)) :
    displayValue item v = some w := by
  obtain ⟨rfl, rfl⟩ | ⟨rfl, hv, rfl⟩ | ⟨rfl, hv, rfl⟩ := h
  · unfold displayValue
    dsimp only
    split <;> rfl
  · exact if_pos hv
  · exact if_pos hv

theorem displayValue_none {item : Item} {v : Nat} (h : (item = .oilLamp ∧ 3 < v) ∨ (item = .faultLamp ∧ 1 < v)) :
    displayValue item v = none := by
  obtain ⟨rfl, hv⟩ | ⟨rfl, hv⟩ := h
  · exact if_neg (by omega)
  · exact if_neg (by omega)

/-- A STAT_WRITE that the queue takes (Table 3-5). -/
theorem exec_statWrite_taken {a i v0 v1 : Byte} {n : Fin 15} {item : Item} {w : Nat} {q : List WriteEntry}
    (htakes : s.takes) (ha : a.toNat = n.val + 1) (hi : i.toNat = item.code) (hbound : s.loop.nodes[n].zone ≠ none)
    (hw : displayValue item (num16 v0 v1) = some w) (hq : queueWrite n item w s.loop.queue = some q) :
    exec (.statWrite [a, i, v0, v1]) s = .next (State.replied { s with loop := { s.loop with queue := q } }
      (if w = num16 v0 v1 then plainReply 0x0B .ok .none [] else plainReply 0x0B .clamped .none (byte16 w))) := by
  have hqueue : queueWrite n item w s.heard.loop.queue = some q := hq
  refine next_request_answered (s := s) (u := { s with loop := { s.loop with queue := q } })
    (body := statWriteRequest) htakes (Nat.le_of_ble_eq_true rfl) ?_ rfl
  rw [statWriteRequest_bound (s := s.heard) ha hi hbound, hostWrite]
  simp only [hw, hqueue]
  rfl

/-- Settles O31: each row of Table 3-5, by the address, the item, the value and the queue. -/
theorem statWriteActsByItsTable : Obligations.StatWriteActsByItsTable := by
  unfold Obligations.StatWriteActsByItsTable
  intro a i v0 v1 s htakes
  refine ⟨fun haddress => exec_statWrite_refused htakes (statWriteRequest_address haddress), ?_⟩
  rintro n item v w ha hi rfl
  refine ⟨fun hfree => exec_statWrite_refused htakes (statWriteRequest_free (s := s.heard) ha hi hfree),
    fun hbound => ⟨fun hbad => exec_statWrite_refused htakes ?_,
      fun hvalue => ⟨fun q hq => ?_, fun hother hfull => ?_⟩⟩⟩
  · rw [statWriteRequest_bound (s := s.heard) ha hi hbound, hostWrite]
    simp only [show displayValue item (num16 v0 v1) = none from displayValue_none hbad]
  · refine exec_statWrite_taken htakes ha hi hbound (displayValue_eq hvalue) ?_
    obtain ⟨hwaits, rfl⟩ | ⟨hother, hroom, rfl⟩ := hq
    · exact queueWrite_merges w hwaits
    · rw [queueWrite_joins w hother, if_pos hroom]
  · have hqueue : queueWrite n item w s.heard.loop.queue = none :=
      (queueWrite_joins w hother).trans (if_neg (by omega))
    refine next_request_replied (body := statWriteRequest) htakes (Nat.le_of_ble_eq_true rfl) ?_
    rw [statWriteRequest_bound (s := s.heard) ha hi hbound, hostWrite]
    simp only [show displayValue item (num16 v0 v1) = some w from displayValue_eq hvalue, hqueue]
    rfl

/-! ## The next poll slot (R38) -/

/-- The lowest address that a test names. -/
theorem lowest_of_find {p : Fin 15 → Bool} {n : Fin 15} (h : allNodes.find? p = some n) :
    p n = true ∧ ∀ k : Fin 15, k < n → p k = false := by
  obtain ⟨hn, before, after, hsplit, hbefore⟩ := List.find?_eq_some_iff_append.1 h
  refine ⟨hn, fun k hk => ?_⟩
  have hsorted : allNodes.Pairwise (· < ·) := by decide
  have hmem : k ∈ before ++ n :: after := hsplit ▸ mem_allNodes k
  rw [hsplit] at hsorted
  have hlater : ∀ x ∈ after, n < x := (List.pairwise_cons.1 (List.pairwise_append.1 hsorted).2.1).1
  obtain hin | hin := List.mem_append.1 hmem
  · simpa using hbefore k hin
  · obtain rfl | hin := List.mem_cons.1 hin
    · exact absurd hk (lt_irrefl _)
    · exact absurd hk (hlater k hin).not_gt

/-- The next bound address round the ring. -/
theorem nextPoll_spec (s : State) :
    (s.nextPoll = none → ∀ k : Fin 15, s.loop.nodes[k].zone = none)
      ∧ ∀ m, s.nextPoll = some m → s.loop.nodes[m].zone ≠ none
        ∧ (s.loop.lastPolled = none → ∀ k : Fin 15, k < m → s.loop.nodes[k].zone = none)
        ∧ ∀ n : Fin 15, s.loop.lastPolled = some n →
          (n < m ∧ ∀ k : Fin 15, n < k → k < m → s.loop.nodes[k].zone = none)
            ∨ (m ≤ n ∧ ∀ k : Fin 15, n < k ∨ k < m → s.loop.nodes[k].zone = none) := by
  obtain ⟨hnone, hsome⟩ := boundNodes_head s
  unfold State.nextPoll
  cases hlast : s.loop.lastPolled with
  | none =>
    refine ⟨hnone.1, fun m hm => ?_⟩
    obtain ⟨hbound, hbelow⟩ := hsome m hm
    exact ⟨hbound, fun _ => hbelow, nofun⟩
  | some n =>
    have hfind : s.boundNodes.find? (fun k => decide (n < k))
        = allNodes.find? fun k => decide ((s.nodeAt k).zone.isSome = true ∧ decide (n < k) = true) :=
      List.find?_filter
    dsimp only
    rw [hfind]
    split
    · next m hm =>
      obtain ⟨hits, hbelow⟩ := lowest_of_find hm
      obtain ⟨hbound, habove⟩ : (s.nodeAt m).zone.isSome = true ∧ n < m := by simpa using hits
      refine ⟨nofun, fun x hx => ?_⟩
      cases hx
      refine ⟨Option.isSome_iff_ne_none.1 hbound, nofun, fun y hy => ?_⟩
      cases hy
      exact .inl ⟨habove, fun k hnk hkm => by simpa [hnk, State.nodeAt] using hbelow k hkm⟩
    · next hm =>
      have habove : ∀ k : Fin 15, n < k → s.loop.nodes[k].zone = none := fun k hk => by
        simpa [hk, State.nodeAt] using List.find?_eq_none.1 hm k (mem_allNodes k)
      refine ⟨hnone.1, fun m hm => ?_⟩
      obtain ⟨hbound, hbelow⟩ := hsome m hm
      refine ⟨hbound, nofun, fun y hy => ?_⟩
      cases hy
      exact .inr ⟨not_lt.1 fun hlt => hbound (habove m hlt), fun k hk => hk.elim (habove k) (hbelow k)⟩

theorem openPollSlot_rest (s : State) : (openPollSlot s).loop.nodes = s.loop.nodes
    ∧ (openPollSlot s).loop.queue = s.loop.queue := by
  unfold openPollSlot
  split <;> exact ⟨rfl, rfl⟩

/-- The next poll slot opens (R38), the address polled last as it was before. -/
theorem openPollSlot_polls (hlast : t.loop.lastPolled = s.loop.lastPolled) : s.pollsNext (openPollSlot t) := by
  obtain ⟨hnone, hsome⟩ := nextPoll_spec t
  unfold openPollSlot
  split
  · next m hm =>
    obtain ⟨hbound, hfirst, hround⟩ := hsome m hm
    rw [hlast] at hfirst hround
    exact .inr ⟨m, rfl, rfl, hbound, hfirst, hround⟩
  · next hm => exact .inl ⟨rfl, hnone hm⟩

/-! ## The write slot (R42) -/

/-- The entry a write slot carried, back from it or gone (Table 3-4). -/
def WriteEntry.answered (e : WriteEntry) (acknowledged : Bool) (rest : List WriteEntry) : List WriteEntry :=
  if e.merged then { e with inSlot := false, merged := false, failedOnce := false } :: rest
  else if acknowledged || e.failedOnce then rest
  else { e with inSlot := false, merged := false, failedOnce := true } :: rest

theorem markWriteFailed_loop (n : Fin 15) (v : Bool) (s : State) : (markWriteFailed n v s).loop = s.loop :=
  hide_eq_iff.1 (show (markWriteFailed n v s).hide [.zone] = s.hide [.zone] by simp) .loop (by decide)

/-- The flag of the zone a node is bound to. -/
theorem markWriteFailed_entry (n : Fin 15) (v : Bool) (s : State) (y : Fin 6) :
    (markWriteFailed n v s).zone.zones[y] = { s.zone.zones[y] with
      writeFailed := if s.loop.nodes[n].zone = some y then v else s.zone.zones[y].writeFailed } := by
  unfold markWriteFailed
  split
  · next z hz =>
    have hzone : s.loop.nodes[n].zone = some z := hz
    rw [onZone_entry, hzone]
    by_cases hy : y = z
    · subst hy
      rw [if_pos rfl, if_pos rfl]
    · have hne : ¬ some z = some y := fun e => hy (Option.some.inj e).symm
      rw [if_neg hy, if_neg hne]
  · next hz =>
    have hzone : s.loop.nodes[n].zone = none := hz
    rw [hzone, if_neg nofun]

/-- What a write slot leaves, by its answer and its entry (Table 3-4). -/
theorem writeOutcome_loop {e : WriteEntry} {rest : List WriteEntry} (ack : Bool) (hqueue : s.loop.queue = e :: rest) :
    (writeOutcome ack s).loop = { s.loop with queue := e.answered ack rest } := by
  unfold writeOutcome WriteEntry.answered
  rw [hqueue]
  dsimp only
  (repeat' split) <;> simp_all [markWriteFailed_loop, State.onLoop]

/-- The write-failed flags a write slot leaves: off by an acknowledgement, on by a second failure (Table 3-4). -/
theorem writeOutcome_entry {e : WriteEntry} {rest : List WriteEntry} (ack : Bool) (hqueue : s.loop.queue = e :: rest)
    (y : Fin 6) : (writeOutcome ack s).zone.zones[y] = { s.zone.zones[y] with
      writeFailed := if s.loop.nodes[e.node].zone = some y
          ∧ (ack = true ∨ (e.merged = false ∧ e.failedOnce = true)) then !ack
        else s.zone.zones[y].writeFailed } := by
  unfold writeOutcome
  rw [hqueue]
  dsimp only
  split
  · next hack =>
    refine (markWriteFailed_entry e.node false _ y).trans ?_
    simp only [hack, true_or, and_true]
    rfl
  · next hack =>
    split
    · next hmerged => simp [hack, hmerged]
    · next hmerged =>
      split
      · next honce =>
        refine (markWriteFailed_entry e.node true _ y).trans ?_
        simp only [hack, hmerged, honce, Bool.false_eq_true, false_or, and_self, and_true]
        rfl
      · next honce => simp [hack, honce]

theorem exec_writeSlotEnd (hrun : s.running = true) {w : Nat} {lost ack : Bool} (hslot : s.loop.slot = .write w lost) :
    exec (.writeSlotEnd ack) s = .next (openPollSlot (if lost then s else writeOutcome ack s)) := by
  refine congrArg Host.Outcome.next ((if_pos hrun).trans ?_)
  simp only [writeEnds, hslot]

/-- Settles O30: Table 3-4 by the entry's marks and the answer; a merge while the slot is open is STAT_WRITE's. -/
theorem writeSlotEndsByItsTable : Obligations.WriteSlotEndsByItsTable := by
  unfold Obligations.WriteSlotEndsByItsTable
  intro e rest ack s hrun hqueue
  refine ⟨?_, fun w hslot => ?_, fun w hslot => ?_⟩
  · rintro w a i v0 v1 n htakes hslot hin hnode ha hitem rfl hv rfl hbound
    have hvalue : displayValue .oilLamp (num16 v0 0) = some v0.toNat := by
      simp [displayValue, num16, hv]
    have hwaits : ∃ x ∈ s.loop.queue, x.node = n ∧ x.item = .oilLamp :=
      ⟨e, hqueue ▸ List.mem_cons_self, hnode, hitem⟩
    obtain ⟨more, hmerges⟩ : ∃ more, queueWrite n .oilLamp v0.toNat s.loop.queue
        = some ({ e with value := v0.toNat, failedOnce := false, merged := true } :: more) := by
      rw [queueWrite_merges _ hwaits, hqueue, List.map_cons, if_pos ⟨hnode, hitem⟩, hin]
      exact ⟨_, rfl⟩
    exact ⟨_, exec_statWrite_taken htakes ha (item := .oilLamp) rfl hbound hvalue hmerges, hslot, more, rfl⟩
  · have hopened : s.changesOnly [.loop] (openPollSlot s) := hide_eq_iff.1 (by simp)
    obtain ⟨hnodes, hkept⟩ := openPollSlot_rest s
    exact ⟨_, exec_writeSlotEnd hrun hslot, hopened, openPollSlot_polls rfl, hkept, hnodes⟩
  · have hloop := writeOutcome_loop ack hqueue
    have hends : s.changesOnly [.loop, .zone] (openPollSlot (writeOutcome ack s)) := hide_eq_iff.1 (by simp)
    have hzone : (openPollSlot (writeOutcome ack s)).zone = (writeOutcome ack s).zone :=
      hide_eq_iff.1 (show (openPollSlot (writeOutcome ack s)).hide [.loop] = _ by simp) .zone (by decide)
    obtain ⟨hnodes, hkept⟩ := openPollSlot_rest (writeOutcome ack s)
    rw [hloop] at hnodes hkept
    refine ⟨_, exec_writeSlotEnd hrun hslot, hends, openPollSlot_polls (by rw [if_neg (by decide), hloop]), hnodes,
      fun hmerged => ?_, fun hmerged hleft => ?_, fun hmerged hack honce => ?_, fun y => ?_⟩
    · exact hkept.trans (if_pos hmerged)
    · exact hkept.trans ((if_neg (by simp [hmerged])).trans (if_pos (by simpa using hleft)))
    · exact hkept.trans ((if_neg (by simp [hmerged])).trans (if_neg (by simp [hack, honce])))
    · refine ⟨_, (congrArg (fun b : ZoneBlock => b.zones[y]) hzone).trans (writeOutcome_entry ack hqueue y),
        fun hbound hack => ?_, fun hbound hack hmerged honce => ?_, fun hother => ?_⟩
      · exact (if_pos ⟨hbound, .inl hack⟩).trans (by rw [hack]; rfl)
      · exact (if_pos ⟨hbound, .inr ⟨hmerged, honce⟩⟩).trans (by rw [hack]; rfl)
      · refine if_neg fun hboth => ?_
        obtain ⟨hbound, hacked⟩ := hboth
        obtain hne | ⟨hack, hmarks⟩ := hother
        · exact hne hbound
        · simp only [hack, Bool.false_eq_true, false_or] at hacked
          simp [hacked] at hmarks

end Sys2Proof.Machine
end

section
/-! PROOF. One zone evaluated: its target, its calls and what they leave (O28, O29, O32, O33). -/

namespace Sys2Proof.Machine

variable {s t u v : State} {z y : Fin 6}

/-! ## What the forming of a call leaves -/

/-- A zone without its valve sequence. -/
def Zone.sansValve (zn : Zone) : Zone := zn.moved .idle .stopped


theorem idled_sansValve (s : State) (z : Fin 6) (zn : Zone) : (s.idled z zn).sansValve = zn.sansValve := by
  unfold State.idled
  (repeat' split) <;> rfl

theorem closed_sansValve (s : State) (z : Fin 6) (zn : Zone) : (s.closed z zn).sansValve = zn.sansValve := by
  unfold State.closed
  split
  · rfl
  · exact idled_sansValve s z zn

/-- A part of a zone that is not its valve's is the same where the sansValve zone is. -/
theorem sansValve_field {β : Type} (g : Zone → β) (hg : ∀ zn : Zone, g zn.sansValve = g zn) {a b : Zone}
    (h : a.sansValve = b.sansValve) : g a = g b := by
  rw [← hg, h, hg]

theorem zoneTo_sansValve (z y : Fin 6) (st : ZoneState) (timer : ZoneTimer) (s : State) :
    (zoneTo z st timer s).zone.zones[y].sansValve = s.zone.zones[y].sansValve := by
  rw [zoneTo_entry]
  split
  · next hy =>
    rw [hy]
    rfl
  · rfl

theorem enterOpening_sansValve (z y : Fin 6) (s : State) :
    (enterOpening z s).zone.zones[y].sansValve = s.zone.zones[y].sansValve := by
  rw [enterOpening_entry]
  split
  · next hy =>
    rw [hy]
    split <;> rfl
  · rfl

theorem enterClosing_sansValve (z y : Fin 6) (s : State) :
    (enterClosing z s).zone.zones[y].sansValve = s.zone.zones[y].sansValve := by
  rw [enterClosing_entry]
  split
  · next hy =>
    rw [hy]
    exact closed_sansValve s z _
  · rfl

theorem closeOtherHolds_sansValve (z y : Fin 6) (s : State) :
    (closeOtherHolds z s).zone.zones[y].sansValve = s.zone.zones[y].sansValve := by
  rw [closeOtherHolds_entry]
  split
  · exact closed_sansValve s y _
  · rfl

theorem callRises_sansValve (z y : Fin 6) (s : State) :
    (callRises z s).zone.zones[y].sansValve = s.zone.zones[y].sansValve := by
  unfold callRises
  split
  · split
    · rfl
    · exact enterOpening_sansValve z y s
  · exact zoneTo_sansValve z y _ _ s
  · rfl

theorem callFalls_sansValve (z y : Fin 6) (s : State) :
    (callFalls z s).zone.zones[y].sansValve = s.zone.zones[y].sansValve := by
  unfold callFalls
  split
  · exact enterClosing_sansValve z y s
  · split
    · exact enterClosing_sansValve z y s
    · exact (zoneTo_sansValve z y _ _ _).trans (closeOtherHolds_sansValve z y s)
  · rfl

theorem formCall_eq (z : Fin 6) (s : State) : formCall z s = if s.formed z = s.zone.zones[z].call then s
    else formOutputs (if s.formed z then callRises z (s.onZone z fun zn => { zn with call := s.formed z })
      else callFalls z (s.onZone z fun zn => { zn with call := s.formed z })) := rfl

/-- Forming a call changes that call and the valves (R52). -/
theorem formCall_sansValve (z y : Fin 6) (s : State) : (formCall z s).zone.zones[y].sansValve
    = ({ s.zone.zones[y] with call := if y = z then s.formed z else s.zone.zones[y].call } : Zone).sansValve := by
  have hset : (s.onZone z fun zn => { zn with call := s.formed z }).zone.zones[y]
      = { s.zone.zones[y] with call := if y = z then s.formed z else s.zone.zones[y].call } := by
    rw [onZone_entry]
    by_cases hy : y = z
    · subst hy
      rw [if_pos rfl, if_pos rfl]
    · rw [if_neg hy, if_neg hy]
  rw [formCall_eq]
  by_cases hsame : s.formed z = s.zone.zones[z].call
  · rw [if_pos hsame]
    by_cases hy : y = z
    · subst hy
      rw [if_pos rfl, hsame]
    · rw [if_neg hy]
  · rw [if_neg hsame, formOutputs_zones, ← hset]
    split
    · exact callRises_sansValve z y _
    · exact callFalls_sansValve z y _

/-- Evaluating a zone's calls changes its calls, and of the other zones the valves alone (R49 to R52). -/
theorem evaluateCall_sansValve (z : Fin 6) (s : State) :
    (∀ y : Fin 6, y ≠ z → (evaluateCall z s).zone.zones[y].sansValve = s.zone.zones[y].sansValve)
      ∧ (evaluateCall z s).zone.zones[z].sansValve = ({ s.zone.zones[z] with
        modeCall := (s.callsOf z).1, frostCall := (s.callsOf z).2
        call := s.sett.working.zones[z].enabled
          && ((s.callsOf z).1 || (s.callsOf z).2 || s.zone.zones[z].sinkDrive) } : Zone).sansValve := by
  unfold evaluateCall
  refine ⟨fun y hy => ?_, ?_⟩ <;> rw [formCall_sansValve, onZone_entry]
  · rw [if_neg hy, if_neg hy]
  · rw [if_pos rfl, if_pos rfl]
    unfold State.formed
    rw [onZone_entry, if_pos rfl]
    rfl

theorem evaluateCall_calls (z : Fin 6) (s : State) :
    (evaluateCall z s).zone.zones[z].modeCall = (s.callsOf z).1
      ∧ (evaluateCall z s).zone.zones[z].frostCall = (s.callsOf z).2 := by
  obtain ⟨-, hzone⟩ := evaluateCall_sansValve z s
  exact ⟨sansValve_field Zone.modeCall (fun _ => rfl) hzone, sansValve_field Zone.frostCall (fun _ => rfl) hzone⟩

/-! ## A zone's view -/

/-- A zone as its node and the host left it: neither a target nor calls nor a valve sequence. -/
def Zone.view (zn : Zone) : Zone := { zn.plan with target := none }

theorem view_field {β : Type} (g : Zone → β) (hg : ∀ zn : Zone, g zn.view = g zn) {a b : Zone}
    (h : a.view = b.view) : g a = g b := by
  rw [← hg, h, hg]

/-- Zones with the same target and calls but for those have the same view. -/
theorem view_of_plan {a b : Zone} (h : a.plan = b.plan) : a.view = b.view := by
  unfold Zone.view
  rw [h]

theorem evaluateCall_view (z y : Fin 6) (s : State) :
    (evaluateCall z s).zone.zones[y].view = s.zone.zones[y].view := by
  obtain ⟨-, -, -, hplans⟩ := (State.samePlans.refl s).evaluateCall (z := z)
  exact view_of_plan (hplans y)

theorem deriveTarget_view (z y : Fin 6) (s : State) :
    (deriveTarget z s).zone.zones[y].view = s.zone.zones[y].view := by
  have hwrite : ∀ i n (w : State), (writeToZoneNode z i n w).zone = w.zone := fun i n w =>
    hide_eq_iff.1 (hide_writeToZoneNode z i n w (F := [.loop]) (by decide)) .zone (by decide)
  unfold deriveTarget
  split
  · rfl
  · rw [evaluateCall_view, hwrite, onZone_entry]
    split
    · next hy =>
      rw [hy]
      rfl
    · rfl

theorem modeChanged_view (z y : Fin 6) (s : State) :
    (modeChanged z s).zone.zones[y].view = s.zone.zones[y].view :=
  (evaluateCall_view z y _).trans (deriveTarget_view z y s)

/-- The other zones keep their targets and their calls. -/
theorem deriveTarget_other (hy : y ≠ z) (s : State) :
    (deriveTarget z s).zone.zones[y].sansValve = s.zone.zones[y].sansValve := by
  have hwrite : ∀ i n (w : State), (writeToZoneNode z i n w).zone = w.zone := fun i n w =>
    hide_eq_iff.1 (hide_writeToZoneNode z i n w (F := [.loop]) (by decide)) .zone (by decide)
  unfold deriveTarget
  split
  · rfl
  · rw [(evaluateCall_sansValve z _).1 y hy, hwrite, onZone_entry, if_neg hy]

theorem modeChanged_other (hy : y ≠ z) (s : State) :
    (modeChanged z s).zone.zones[y].sansValve = s.zone.zones[y].sansValve :=
  ((evaluateCall_sansValve z _).1 y hy).trans (deriveTarget_other hy s)

/-- What ZONE reads beside the zones. -/
theorem deriveTarget_around (z : Fin 6) (s : State) : (deriveTarget z s).sett = s.sett
    ∧ (deriveTarget z s).out = s.out := by
  have e : (deriveTarget z s).hide [.loop, .zone, .posts] = s.hide [.loop, .zone, .posts] := by simp
  exact ⟨hide_eq_iff.1 e .sett (by decide), hide_eq_iff.1 e .out (by decide)⟩

/-! ## The calls by the zone's view (R49 to R51) -/

theorem callsOf_awaiting (h : s.zone.zones[z].sighted = .awaiting) : s.callsOf z = (false, false) := by
  simp only [State.callsOf, State.zoneAt, h]

theorem callsOf_blind (h : s.zone.zones[z].sighted = .blind) : s.callsOf z
    = (s.servedMode z != .off && decide (s.zone.zones[z].cyclePos < dutyMs s.sett.working.zones[z].duty), false) := by
  simp only [State.callsOf, State.zoneAt, h]
  rfl

theorem callsOf_contact (h : s.zone.zones[z].sighted = .sighted) (hkind : s.sett.working.zones[z].kind = .contact) :
    s.callsOf z = (s.zone.zones[z].contact == some true && s.servedMode z != .off, false) := by
  simp only [State.callsOf, State.zoneAt, State.zoneSet, h, hkind]
  rfl

theorem callsOf_temp {x : Int} (h : s.zone.zones[z].sighted = .sighted)
    (hkind : s.sett.working.zones[z].kind ≠ .contact) (htemp : s.zone.zones[z].temp = some x) : s.callsOf z
      = (hysteresisCall s.zone.zones[z].modeCall s.zone.zones[z].target s.sett.working.zones[z].hyst x,
        frostHysteresis s.zone.zones[z].frostCall s.sett.working.zones[z].frost s.sett.working.zones[z].hyst x) := by
  simp only [State.callsOf, State.zoneAt, State.zoneSet, h, htemp]

/-- The mode call of a zone that goes by its temperature (R49). -/
structure HysteresisHolds (held : Bool) (target : Option Nat) (h : Nat) (x : Int) (call : Bool) : Prop where
  low : ∀ g : Nat, target = some g → x < (g : Int) - h → call = true
  high : ∀ g : Nat, target = some g → (g : Int) ≤ x → call = false
  between : ∀ g : Nat, target = some g → (g : Int) - h ≤ x → x < (g : Int) → call = held
  off : target = none → call = false

theorem hysteresisCall_holds (held : Bool) (target : Option Nat) (h : Nat) (x : Int) :
    HysteresisHolds held target h x (hysteresisCall held target h x) where
  low := by
    rintro g rfl hlow
    exact if_pos hlow
  high := by
    rintro g rfl hhigh
    exact (if_neg (by omega)).trans (if_pos hhigh)
  between := by
    rintro g rfl hlow hhigh
    exact (if_neg (by omega)).trans (if_neg (by omega))
  off := by
    rintro rfl
    rfl

theorem frostHysteresis_low {held : Bool} {frost h : Nat} {x : Int} (hx : x < (frost : Int)) :
    frostHysteresis held frost h x = true := if_pos hx

theorem frostHysteresis_high {held : Bool} {frost h : Nat} {x : Int} (hx : ((frost + h : Nat) : Int) ≤ x) :
    frostHysteresis held frost h x = false := (if_neg (by omega)).trans (if_pos (by omega))

/-! ## A zone evaluated -/

/-- A zone's mode in force depends on these parts only (R47). -/
theorem servedMode_congr (hout : t.out = s.out) (hsett : t.sett = s.sett)
    (hhost : t.zone.zones[z].hostMode = s.zone.zones[z].hostMode) : t.servedMode z = s.servedMode z := by
  rw [State.servedMode, hout, hsett, hhost]
  rfl

theorem deriveTarget_target (z : Fin 6) (s : State) : (deriveTarget z s).zone.zones[z].target = s.targetOf z := by
  obtain ⟨-, -, -, -, htarget⟩ := State.retargets.deriveTarget z s
  rw [htarget z, if_pos (List.mem_singleton_self z)]

theorem modeChanged_target (z : Fin 6) (s : State) : (modeChanged z s).zone.zones[z].target = s.targetOf z := by
  obtain ⟨-, -, -, -, htarget⟩ := State.retargets.modeChanged z s
  rw [htarget z, if_pos (List.mem_singleton_self z)]

/-- The calls of a zone evaluated are those its target, just derived, and its view form. -/
theorem modeChanged_calls (z : Fin 6) (s : State) :
    (modeChanged z s).zone.zones[z].modeCall = ((deriveTarget z s).callsOf z).1
      ∧ (modeChanged z s).zone.zones[z].frostCall = ((deriveTarget z s).callsOf z).2 := evaluateCall_calls z _

section View
variable (z : Fin 6) (s : State)

theorem deriveTarget_sighted : (deriveTarget z s).zone.zones[z].sighted = s.zone.zones[z].sighted :=
  view_field Zone.sighted (fun _ => rfl) (deriveTarget_view z z s)

theorem deriveTarget_served : (deriveTarget z s).servedMode z = s.servedMode z := by
  obtain ⟨hsett, hout⟩ := deriveTarget_around z s
  exact servedMode_congr hout hsett (view_field Zone.hostMode (fun _ => rfl) (deriveTarget_view z z s))

end View

theorem modeChanged_awaiting (h : s.zone.zones[z].sighted = .awaiting) :
    (modeChanged z s).zone.zones[z].modeCall = false := by
  rw [(modeChanged_calls z s).1, callsOf_awaiting ((deriveTarget_sighted z s).trans h)]

theorem modeChanged_blind (h : s.zone.zones[z].sighted = .blind) :
    (modeChanged z s).zone.zones[z].modeCall = (s.servedMode z != .off
        && decide (s.zone.zones[z].cyclePos < dutyMs s.sett.working.zones[z].duty))
      ∧ (modeChanged z s).zone.zones[z].frostCall = false := by
  obtain ⟨hmode, hfrost⟩ := modeChanged_calls z s
  have hpos : (deriveTarget z s).zone.zones[z].cyclePos = s.zone.zones[z].cyclePos :=
    view_field Zone.cyclePos (fun _ => rfl) (deriveTarget_view z z s)
  rw [hmode, hfrost, callsOf_blind ((deriveTarget_sighted z s).trans h), deriveTarget_served, hpos,
    (deriveTarget_around z s).1]
  exact ⟨rfl, rfl⟩

theorem modeChanged_contact (h : s.zone.zones[z].sighted = .sighted)
    (hkind : s.sett.working.zones[z].kind = .contact) :
    (modeChanged z s).zone.zones[z].modeCall = (s.zone.zones[z].contact == some true && s.servedMode z != .off)
      ∧ (modeChanged z s).zone.zones[z].frostCall = false := by
  obtain ⟨hmode, hfrost⟩ := modeChanged_calls z s
  have hcontact : (deriveTarget z s).zone.zones[z].contact = s.zone.zones[z].contact :=
    view_field Zone.contact (fun _ => rfl) (deriveTarget_view z z s)
  rw [hmode, hfrost, callsOf_contact ((deriveTarget_sighted z s).trans h)
    (by rw [(deriveTarget_around z s).1]; exact hkind), deriveTarget_served, hcontact]
  exact ⟨rfl, rfl⟩

section Temperature
variable {x : Int} (h : s.zone.zones[z].sighted = .sighted) (hkind : s.sett.working.zones[z].kind ≠ .contact)
  (htemp : s.zone.zones[z].temp = some x)
include h hkind htemp

/-- Between its bounds a mode call stands while the target is derived (R48, R49). -/
theorem deriveTarget_held {g : Nat} (hg : s.targetOf z = some g)
    (hlow : (g : Int) - s.sett.working.zones[z].hyst ≤ x) (hhigh : x < (g : Int)) :
    (deriveTarget z s).zone.zones[z].modeCall = s.zone.zones[z].modeCall := by
  unfold deriveTarget
  split
  · rfl
  · have e : ∀ (w : State) i n, (writeToZoneNode z i n w).hide [.loop] = w.hide [.loop] := fun w i n => by simp
    have hset : (writeToZoneNode z .shownSetpoint (setpointValue (s.targetOf z))
        (s.onZone z fun zn => { zn with target := s.targetOf z })).zone.zones[z]
        = { s.zone.zones[z] with target := s.targetOf z } := by
      rw [hide_eq_iff.1 (e _ _ _) .zone (by decide), onZone_entry, if_pos rfl]
    have hsett : (writeToZoneNode z .shownSetpoint (setpointValue (s.targetOf z))
        (s.onZone z fun zn => { zn with target := s.targetOf z })).sett = s.sett :=
      hide_eq_iff.1 (e _ _ _) .sett (by decide)
    rw [(evaluateCall_calls z _).1, callsOf_temp (x := x) (by rw [hset]; exact h) (by rw [hsett]; exact hkind)
      (by rw [hset]; exact htemp), hset, hsett]
    exact (hysteresisCall_holds _ _ _ _).between g hg hlow hhigh

/-- The calls of a zone that goes by its temperature (R49). -/
theorem modeChanged_temp :
    HysteresisHolds s.zone.zones[z].modeCall (modeChanged z s).zone.zones[z].target s.sett.working.zones[z].hyst x
        (modeChanged z s).zone.zones[z].modeCall
      ∧ (x < (s.sett.working.zones[z].frost : Int) → (modeChanged z s).zone.zones[z].frostCall = true)
      ∧ (((s.sett.working.zones[z].frost + s.sett.working.zones[z].hyst : Nat) : Int) ≤ x →
        (modeChanged z s).zone.zones[z].frostCall = false) := by
  obtain ⟨hmode, hfrost⟩ := modeChanged_calls z s
  have htemp' : (deriveTarget z s).zone.zones[z].temp = some x :=
    (view_field Zone.temp (fun _ => rfl) (deriveTarget_view z z s)).trans htemp
  have hsett := (deriveTarget_around z s).1
  rw [callsOf_temp ((deriveTarget_sighted z s).trans h) (by rw [hsett]; exact hkind) htemp', hsett,
    deriveTarget_target] at hmode hfrost
  rw [hmode, hfrost, modeChanged_target]
  have hholds := hysteresisCall_holds (deriveTarget z s).zone.zones[z].modeCall (s.targetOf z)
    s.sett.working.zones[z].hyst x
  exact ⟨{ hholds with between := fun g hg hlow hhigh =>
      (hholds.between g hg hlow hhigh).trans (deriveTarget_held h hkind htemp hg hlow hhigh) },
    frostHysteresis_low, frostHysteresis_high⟩

end Temperature

end Sys2Proof.Machine
end

section
/-! PROOF. The poll slot: a good report and a miss (O28, O29). -/

namespace Sys2Proof.Machine

variable {s t u v : State} {z : Fin 6} {n : Fin 15}

/-! ## The ring and the node records (R38, R39) -/

/-- A node record without its stale marks. -/
def Node.told (x : Node) : Node := { x with staleOil := false, staleSet := false, staleFault := false }

theorem told_field {β : Type} (g : Node → β) (hg : ∀ x : Node, g x.told = g x) {a b : Node}
    (h : a.told = b.told) :
    g a = g b := by
  rw [← hg, h, hg]

/-- LOOP's ring and its node records stand but for the stale marks; its queue is not bound. -/
def State.sameRing (s t : State) : Prop :=
  t.loop.lastPolled = s.loop.lastPolled ∧ ∀ n : Fin 15, t.loop.nodes[n].told = s.loop.nodes[n].told

theorem onNode_entry (n m : Fin 15) (f : Node → Node) (s : State) :
    (s.onNode n f).loop.nodes[m] = if m = n then f s.loop.nodes[n] else s.loop.nodes[m] := by
  by_cases hm : m = n
  · subst hm
    simp [State.onNode, State.onLoop]
  · have hv : n.val ≠ m.val := fun e => hm (Fin.ext e.symm)
    simp [State.onNode, State.onLoop, hm, hv]

theorem onNode_twice (n : Fin 15) (f g : Node → Node) (s : State) :
    ((s.onNode n f).onNode n g).loop.nodes[n] = g (f s.loop.nodes[n]) := by
  rw [onNode_entry, if_pos rfl, onNode_entry, if_pos rfl]

namespace State.sameRing

theorem refl (s : State) : s.sameRing s := ⟨rfl, fun _ => rfl⟩

section Updates
variable (h : s.sameRing u)
include h

theorem of_loop (e : t.loop = u.loop) : s.sameRing t := by
  rw [State.sameRing, e]
  exact h

theorem outside {F : List Block} (e : t.hide F = u.hide F) (hF : Block.loop ∉ F) : s.sameRing t :=
  h.of_loop (hide_eq_iff.1 e .loop hF)

theorem onQueue {q : List WriteEntry} : s.sameRing (u.onLoop fun l => { l with queue := q }) := h

theorem onNode {f : Node → Node} (hf : ∀ x : Node, (f x).told = x.told) : s.sameRing (u.onNode n f) := by
  obtain ⟨hlast, hnodes⟩ := h
  refine ⟨hlast, fun m => ?_⟩
  rw [onNode_entry]
  split
  · next hm =>
    rw [hf, hm]
    exact hnodes n
  · exact hnodes m

theorem internalWrite {i : Item} {w : Nat} : s.sameRing (internalWrite n i w u) := by
  unfold Machine.internalWrite
  split
  · exact h.onQueue
  · exact h.onNode fun x => by cases i <;> rfl

theorem writeToZoneNode {i : Item} {w : Nat} : s.sameRing (writeToZoneNode z i w u) := by
  unfold Machine.writeToZoneNode
  split
  · exact h.internalWrite
  · exact h

theorem queueStale {i : Item} : s.sameRing (queueStale n z i u) := by
  unfold Machine.queueStale
  split
  · split
    · exact h.onQueue.onNode fun x => by cases i <;> rfl
    · exact h
  · exact h

theorem queueStaleItems : s.sameRing (queueStaleItems n z u) := h.queueStale.queueStale.queueStale

theorem evaluateCall : s.sameRing (evaluateCall z u) :=
  h.outside (F := [.zone, .posts]) (by simp) (by decide)

theorem formOutputs : s.sameRing (formOutputs u) := h.outside (F := [.zone, .posts]) (by simp) (by decide)

theorem onZone {f : Zone → Zone} : s.sameRing (u.onZone z f) := h

theorem deriveTarget : s.sameRing (deriveTarget z u) := by
  unfold Machine.deriveTarget
  split
  · exact h
  · exact h.onZone.writeToZoneNode.evaluateCall

theorem reviews : s.sameRing (Machine.formOutputs (modeChanged z u)) := h.deriveTarget.evaluateCall.formOutputs

end Updates

end State.sameRing

/-- After a poll slot the ring goes on (R38, R42). -/
theorem slotAfterPoll_goesOn (hlast : u.loop.lastPolled = s.loop.lastPolled) : s.ringGoesOn (slotAfterPoll u)
    ∧ (slotAfterPoll u).loop.nodes = u.loop.nodes := by
  unfold slotAfterPoll
  split
  · next hempty =>
    obtain ⟨hnodes, hqueue⟩ := openPollSlot_rest u
    refine ⟨⟨fun e rest hcons => ?_, fun _ => openPollSlot_polls hlast⟩, hnodes⟩
    rw [hqueue, hempty] at hcons
    cases hcons
  · next e rest hcons =>
    refine ⟨⟨fun x more hx => ?_, nofun⟩, rfl⟩
    cases hx
    exact ⟨rfl, rfl⟩

theorem exec_pollSlotEnd (hrun : s.running = true) {lost : Bool} {ans : Option Report}
    (hslot : s.loop.slot = .poll n lost) :
    exec (.pollSlotEnd ans) s = .next (slotAfterPoll (if lost then s else pollResult n ans s)) := by
  refine congrArg Host.Outcome.next ((if_pos hrun).trans ?_)
  simp only [pollEnds, hslot]

theorem pollResult_report (hbound : s.loop.nodes[n].zone = some z) (r : Report) :
    pollResult n (some r) s = goodReport n z r s := by
  unfold pollResult State.nodeAt
  rw [hbound]

theorem pollResult_miss (hbound : s.loop.nodes[n].zone = some z) : pollResult n none s = takeMiss n z s := by
  unfold pollResult State.nodeAt
  rw [hbound]

/-! ## A zone after its node's news -/

/-- A zone's view set by its node's news, its target and its calls evaluated again (R48 to R52). -/
def newsOf (z : Fin 6) (f : Zone → Zone) (s : State) : State := formOutputs (modeChanged z (s.onZone z f))

/-- From `s` to `t` ZONE has taken its node's news, with whatever LOOP and LINK did before. -/
structure State.takesNews (z : Fin 6) (f : Zone → Zone) (s t : State) : Prop where
  out : t.out = s.out
  sett : t.sett = s.sett
  news : ∃ v : State, v.out = s.out ∧ v.sett = s.sett ∧ v.zone = s.zone ∧ t.zone = (newsOf z f v).zone

namespace State.takesNews
variable {f : Zone → Zone} (h : s.takesNews z f t)
include h

theorem formed : t.plantFormed := by
  obtain ⟨-, -, v, -, -, -, hzone⟩ := h
  exact plantFormed_of_zone hzone (formOutputs_plantFormed _)

/-- The zones are those of the zone evaluated. -/
theorem zones : ∃ w : State, w.zone.zones[z] = f s.zone.zones[z] ∧ w.sett = s.sett ∧ w.out = s.out
    ∧ t.zone.zones[z] = (modeChanged z w).zone.zones[z] ∧ (modeChanged z w).samePlans t := by
  obtain ⟨-, -, v, hout, hsett, hv, hzone⟩ := h
  refine ⟨v.onZone z f, ?_, hsett, hout, ?_, (State.samePlans.refl _).formOutputs.of_zone hzone⟩
  · rw [onZone_entry, if_pos rfl, hv]
  · rw [hzone]
    unfold newsOf
    rw [formOutputs_zones]

theorem view : t.zone.zones[z].view = (f s.zone.zones[z]).view := by
  obtain ⟨w, hw, -, -, hz, -⟩ := h.zones
  rw [hz, modeChanged_view, hw]

theorem target : t.zone.zones[z].target = t.targetByRule z := by
  obtain ⟨w, -, hsett, hout, -, hplans⟩ := h.zones
  have e : (modeChanged z w).hide [.loop, .zone, .posts] = w.hide [.loop, .zone, .posts] := by simp
  refine target_of_samePlans ?_ ?_ hplans ((State.retargets.modeChanged z w).target (List.mem_singleton_self z))
  · rw [h.out, hide_eq_iff.1 e .out (by decide), hout]
  · rw [h.sett, hide_eq_iff.1 e .sett (by decide), hsett]

theorem served {w : State} (hw : w.zone.zones[z] = f s.zone.zones[z]) (hsett : w.sett = s.sett) (hout : w.out = s.out) :
    w.servedMode z = t.servedMode z :=
  servedMode_congr (hout.trans h.out.symm) (hsett.trans h.sett.symm)
    ((congrArg Zone.hostMode hw).trans (view_field Zone.hostMode (fun _ => rfl) h.view).symm)

theorem blind (hblind : (f s.zone.zones[z]).sighted = .blind) :
    t.zone.zones[z].modeCall = (t.servedMode z != .off
        && decide ((f s.zone.zones[z]).cyclePos < dutyMs s.sett.working.zones[z].duty))
      ∧ t.zone.zones[z].frostCall = false := by
  obtain ⟨w, hw, hsett, hout, hz, -⟩ := h.zones
  rw [hz, ← h.served hw hsett hout, ← hw, ← hsett]
  exact modeChanged_blind (by rw [hw]; exact hblind)

theorem contact (hsighted : (f s.zone.zones[z]).sighted = .sighted)
    (hkind : s.sett.working.zones[z].kind = .contact) :
    t.zone.zones[z].modeCall = ((f s.zone.zones[z]).contact == some true && t.servedMode z != .off)
      ∧ t.zone.zones[z].frostCall = false := by
  obtain ⟨w, hw, hsett, hout, hz, -⟩ := h.zones
  rw [hz, ← h.served hw hsett hout, ← hw]
  exact modeChanged_contact (by rw [hw]; exact hsighted) (by rw [hsett]; exact hkind)

theorem temperature {x : Int} (hsighted : (f s.zone.zones[z]).sighted = .sighted)
    (hkind : s.sett.working.zones[z].kind ≠ .contact) (htemp : (f s.zone.zones[z]).temp = some x) :
    HysteresisHolds (f s.zone.zones[z]).modeCall t.zone.zones[z].target s.sett.working.zones[z].hyst x
        t.zone.zones[z].modeCall
      ∧ (x < (s.sett.working.zones[z].frost : Int) → t.zone.zones[z].frostCall = true)
      ∧ (((s.sett.working.zones[z].frost + s.sett.working.zones[z].hyst : Nat) : Int) ≤ x →
        t.zone.zones[z].frostCall = false) := by
  obtain ⟨w, hw, hsett, hout, hz, -⟩ := h.zones
  rw [hz, ← hw, ← hsett]
  exact modeChanged_temp (by rw [hw]; exact hsighted) (by rw [hsett]; exact hkind) (by rw [hw]; exact htemp)

end State.takesNews

/-! ## What a report leaves in the zone (R39, R49) -/

theorem reportValue_inRange {x : Int} (hlow : -400 ≤ x) (hhigh : x ≤ 1200) : reportValue (some x) = some x := by
  simp [reportValue, hlow, hhigh]

theorem reportValue_none {o : Option Int} (h : ∀ x : Int, o = some x → x < -400 ∨ 1200 < x) :
    reportValue o = none := by
  unfold reportValue
  rw [Option.filter_eq_none_iff]
  intro x hx hin
  obtain ⟨hlow, hhigh⟩ := of_decide_eq_true hin
  obtain hlow' | hhigh' := h x hx
  · omega
  · omega

theorem see_told (v : Sighted) (zn : Zone) :
    (zn.see v).statLost = zn.statLost ∧ (zn.see v).hostMode = zn.hostMode := by
  unfold Zone.see
  split <;> exact ⟨rfl, rfl⟩

/-- Every good report ends STAT_LOST. -/
theorem take_found (kind : NodeKind) (r : Report) (zn : Zone) :
    (zn.take kind r).statLost = false ∧ (zn.take kind r).hostMode = zn.hostMode := by
  unfold Zone.take
  dsimp only
  (repeat' split) <;> exact see_told _ _

/-- A report with a temperature makes a zone that goes by it SIGHTED. -/
theorem take_temperature {kind : NodeKind} {r : Report} {x : Int} (zn : Zone) (hkind : kind ≠ .contact)
    (hx : reportValue r.temp = some x) : (zn.take kind r).sighted = .sighted ∧ (zn.take kind r).temp = some x
      ∧ (kind = .dial → (zn.take kind r).dial = reportValue r.dial) := by
  cases kind with
  | contact => exact absurd rfl hkind
  | dial =>
    simp only [Zone.take, hx]
    exact ⟨see_sighted _ _, trivial, fun _ => trivial⟩
  | sensor =>
    simp only [Zone.take, hx]
    exact ⟨see_sighted _ _, trivial, nofun⟩

theorem take_contact {r : Report} {closed : Bool} (zn : Zone) (hclosed : r.contact = some closed) :
    (zn.take .contact r).sighted = .sighted ∧ (zn.take .contact r).contact = some closed := by
  simp only [Zone.take, hclosed]
  exact ⟨see_sighted _ _, trivial⟩

/-- A report without what the zone's kind goes by blinds it. -/
theorem take_blind {kind : NodeKind} {r : Report} (zn : Zone)
    (h : (kind = .contact ∧ r.contact = none) ∨ (kind ≠ .contact ∧ reportValue r.temp = none)) :
    (zn.take kind r).sighted = .blind := by
  obtain ⟨rfl, hnone⟩ | ⟨hkind, hnone⟩ := h
  · simp only [Zone.take, hnone]
    exact see_sighted _ _
  · cases kind with
    | contact => exact absurd rfl hkind
    | dial | sensor =>
      simp only [Zone.take, hnone]
      exact see_sighted _ _

/-! ## A good report -/

/-- The node's record after a good report (R39 stages 1 to 3). -/
def State.reported (s : State) (n : Fin 15) (r : Report) : State :=
  s.onNode n fun x => { x with miss := 0, polled := true, statLost := false, batteryLow := r.batteryLow }

/-- The notice with which STAT_LOST ends. -/
def State.noticed (s : State) (lost : Bool) : State := if lost then postNotice .statLost s else s

theorem noticed_hide (s : State) (lost : Bool) : (s.noticed lost).hide [.link] = s.hide [.link] := by
  unfold State.noticed
  split <;> simp

theorem goodReport_eq (n : Fin 15) (z : Fin 6) (r : Report) (s : State) : goodReport n z r s = queueStaleItems n z
    (newsOf z (Zone.take (s.zoneSet z).kind r) ((s.reported n r).noticed (s.nodeAt n).statLost)) := by
  have hsett : (((s.reported n r).noticed (s.nodeAt n).statLost).zoneSet z) = s.zoneSet z := by
    have e := noticed_hide (s.reported n r) (s.nodeAt n).statLost
    rw [State.zoneSet, hide_eq_iff.1 e .sett (by decide)]
    rfl
  rw [← hsett]
  rfl

/-- A good report at its node, its zone and the ring. -/
structure State.hears (n : Fin 15) (z : Fin 6) (r : Report) (s t : State) : Prop where
  parts : s.changesOnly [.loop, .zone, .link, .posts] t
  node : t.loop.nodes[n].told = ({ s.loop.nodes[n] with
    miss := 0, polled := true, statLost := false, batteryLow := r.batteryLow } : Node).told
  found : s.loop.nodes[n].statLost = true → .statLost ∈ t.link.notices
  ring : s.ringGoesOn t
  news : s.takesNews z (Zone.take s.sett.working.zones[z].kind r) t

theorem goodReport_hears (n : Fin 15) (z : Fin 6) (r : Report) (s : State) :
    s.hears n z r (slotAfterPoll (goodReport n z r s)) := by
  have hparts : (slotAfterPoll (goodReport n z r s)).hide [.loop, .zone, .link, .posts]
      = s.hide [.loop, .zone, .link, .posts] := by simp
  obtain ⟨v, hv⟩ : ∃ v, v = (s.reported n r).noticed (s.nodeAt n).statLost := ⟨_, rfl⟩
  have hvhide : v.hide [.link] = (s.reported n r).hide [.link] := hv ▸ noticed_hide _ _
  have heq : goodReport n z r s = queueStaleItems n z (newsOf z (Zone.take (s.zoneSet z).kind r) v) :=
    hv ▸ goodReport_eq n z r s
  have hring : (s.reported n r).sameRing (goodReport n z r s) := by
    rw [heq]
    exact (((State.sameRing.refl _).outside hvhide (by decide)).onZone).reviews.queueStaleItems
  obtain ⟨hlast, hnodes⟩ := hring
  obtain ⟨hgoes, hkept⟩ := slotAfterPoll_goesOn (s := s) hlast
  have hloop : (slotAfterPoll (goodReport n z r s)).hide [.loop]
      = (newsOf z (Zone.take (s.zoneSet z).kind r) v).hide [.loop] := by rw [heq]; simp
  have hlink : (slotAfterPoll (goodReport n z r s)).link = v.link := by
    refine (hide_eq_iff.1 hloop .link (by decide)).trans ?_
    have e : (newsOf z (Zone.take (s.zoneSet z).kind r) v).hide [.loop, .zone, .posts]
        = v.hide [.loop, .zone, .posts] := by simp [newsOf]
    exact hide_eq_iff.1 e .link (by decide)
  refine ⟨hide_eq_iff.1 hparts, ?_, fun hlost => ?_, hgoes, hide_eq_iff.1 hparts .out (by decide),
    hide_eq_iff.1 hparts .sett (by decide), v, hide_eq_iff.1 hvhide .out (by decide),
    hide_eq_iff.1 hvhide .sett (by decide), hide_eq_iff.1 hvhide .zone (by decide),
    hide_eq_iff.1 hloop .zone (by decide)⟩
  · rw [hkept, hnodes n, State.reported, onNode_entry, if_pos rfl]
  · have hnoticed : v = postNotice .statLost (s.reported n r) := hv.trans (if_pos hlost)
    rw [hlink, hnoticed]
    exact mem_insertNotice.2 (.inl rfl)

/-- Settles O28: the report at the node, and at the zone by its kind and what the report brings. -/
theorem pollReportReachesItsZone : Obligations.PollReportReachesItsZone := by
  unfold Obligations.PollReportReachesItsZone
  intro n z r s hrun hslot hbound
  have hexec : exec (.pollSlotEnd (some r)) s = .next (slotAfterPoll (goodReport n z r s)) := by
    rw [exec_pollSlotEnd hrun hslot, if_neg (by decide), pollResult_report hbound]
  obtain ⟨hparts, hnode, hfound, hring, hnews⟩ := goodReport_hears n z r s
  generalize slotAfterPoll (goodReport n z r s) = t at hexec hparts hnode hfound hring hnews
  have hview := hnews.view
  refine ⟨t, hexec, hparts, (told_field Node.zone (fun _ => rfl) hnode).trans hbound,
    told_field Node.miss (fun _ => rfl) hnode, told_field Node.polled (fun _ => rfl) hnode,
    told_field Node.statLost (fun _ => rfl) hnode, told_field Node.batteryLow (fun _ => rfl) hnode, hfound, hring,
    hnews.formed, (view_field Zone.statLost (fun _ => rfl) hview).trans (take_found _ _ _).1, hnews.target,
    fun x hkind htemp hlow hhigh => ?_, fun hkind closed hclosed => ?_, fun hwithout => ?_⟩
  · have hvalue : reportValue r.temp = some x := htemp ▸ reportValue_inRange hlow hhigh
    obtain ⟨hsighted, hx, hdial⟩ := take_temperature s.zone.zones[z] hkind hvalue
    obtain ⟨hcall, hfrost⟩ := hnews.temperature hsighted hkind hx
    refine ⟨(view_field Zone.sighted (fun _ => rfl) hview).trans hsighted,
      (view_field Zone.temp (fun _ => rfl) hview).trans hx, fun hd d hdd hdlow hdhigh => ?_,
      fun g hg => ⟨hcall.low g hg, hcall.high g hg⟩, hcall.off, hfrost⟩
    rw [view_field Zone.dial (fun _ => rfl) hview, hdial hd, hdd]
    exact reportValue_inRange hdlow hdhigh
  · obtain ⟨hsighted, hcontact⟩ := take_contact s.zone.zones[z] hclosed
    rw [← hkind] at hsighted hcontact
    obtain ⟨hcall, hfrost⟩ := hnews.contact hsighted hkind
    refine ⟨(view_field Zone.sighted (fun _ => rfl) hview).trans hsighted,
      (view_field Zone.contact (fun _ => rfl) hview).trans hcontact, ?_, hfrost⟩
    rw [hcall, hcontact]
    cases closed <;> rfl
  · have hblind : (Zone.take s.sett.working.zones[z].kind r s.zone.zones[z]).sighted = .blind :=
      take_blind _ (hwithout.imp id fun ⟨hkind, hout⟩ => ⟨hkind, reportValue_none hout⟩)
    exact ⟨(view_field Zone.sighted (fun _ => rfl) hview).trans hblind, (hnews.blind hblind).2⟩

/-! ## A miss (R40) -/

/-- The zone of a lost node (R49). -/
def Zone.nodeless (zn : Zone) : Zone :=
  { zn.see .blind with temp := none, dial := none, contact := none, statLost := true }

theorem takeMiss_lost (n : Fin 15) (z : Fin 6) (hlost : s.loop.nodes[n].statLost = true) :
    takeMiss n z s = s.onNode n fun x => { x with polled := true } := if_pos hlost

/-- The third miss in a row is STAT_LOST. -/
theorem takeMiss_loses (n : Fin 15) (z : Fin 6) (hfound : s.loop.nodes[n].statLost = false)
    (hmiss : 2 ≤ s.loop.nodes[n].miss) : takeMiss n z s = newsOf z Zone.nodeless (postNotice .statLost
      ((s.onNode n fun x => { x with polled := true }).onNode n fun x => { x with statLost := true, miss := 0 })) := by
  have hnot : ¬ (s.nodeAt n).statLost = true := ne_true_of_eq_false hfound
  have hthird : 3 ≤ (s.nodeAt n).miss + 1 := Nat.succ_le_succ hmiss
  unfold takeMiss
  dsimp only
  rw [if_neg hnot, if_pos hthird]
  rfl

/-- An earlier miss is counted, and a zone still AWAITING learns that its node does not report (R51). -/
theorem takeMiss_counts (n : Fin 15) (z : Fin 6) (hfound : s.loop.nodes[n].statLost = false)
    (hmiss : s.loop.nodes[n].miss < 2) : takeMiss n z s =
      if s.loop.nodes[n].polled = false ∧ s.zone.zones[z].sighted = .awaiting then
        formOutputs (evaluateCall z ((((s.onNode n fun x => { x with polled := true }).onNode n
          fun x => { x with miss := x.miss + 1 })).onZone z (Zone.see .blind)))
      else (s.onNode n fun x => { x with polled := true }).onNode n fun x => { x with miss := x.miss + 1 } := by
  have hnot : ¬ (s.nodeAt n).statLost = true := ne_true_of_eq_false hfound
  have hbefore : ¬ 3 ≤ (s.nodeAt n).miss + 1 := fun h => by
    have : (s.nodeAt n).miss < 2 := hmiss
    omega
  unfold takeMiss
  dsimp only
  rw [if_neg hnot, if_neg hbefore]
  cases hpolled : s.loop.nodes[n].polled with
  | true =>
    rw [if_pos (show (s.nodeAt n).polled = true from hpolled), if_neg (by simp)]
  | false =>
    rw [if_neg (show ¬ (s.nodeAt n).polled = true from ne_true_of_eq_false hpolled), zoneHasNoReport]
    by_cases hawaits : s.zone.zones[z].sighted = .awaiting
    · exact (if_pos hawaits).trans (if_pos ⟨rfl, hawaits⟩).symm
    · exact (if_neg hawaits).trans (if_neg fun h => hawaits h.2).symm

theorem slotAfterPoll_length (s : State) : (slotAfterPoll s).loop.queue.length = s.loop.queue.length := by
  unfold slotAfterPoll
  split
  · rw [(openPollSlot_rest s).2]
  · next hcons =>
    rw [hcons]
    rfl

/-- A zone that went blind with nothing but its calls evaluated again (R51). -/
theorem blinded_calls {w : State} (hw : w.zone.zones[z] = s.zone.zones[z].see .blind) :
    (evaluateCall z w).zone.zones[z].sighted = .blind
      ∧ (s.zone.zones[z].sighted ≠ .blind → (evaluateCall z w).zone.zones[z].blindPos = 0
        ∧ (evaluateCall z w).zone.zones[z].modeCall
          = (w.servedMode z != .off && decide (0 < w.sett.working.zones[z].duty))) := by
  have hsighted : w.zone.zones[z].sighted = .blind := by rw [hw, see_sighted]
  have hview := evaluateCall_view z z w
  refine ⟨(view_field Zone.sighted (fun _ => rfl) hview).trans hsighted, fun hseen => ?_⟩
  have hpos : w.zone.zones[z].blindPos = 0 := by
    rw [hw, Zone.see, if_neg hseen]
  refine ⟨(view_field Zone.blindPos (fun _ => rfl) hview).trans hpos, ?_⟩
  rw [(evaluateCall_calls z w).1, callsOf_blind hsighted, Zone.cyclePos, hpos]
  simp [dutyMs]

/-- A poll slot without a good report, whatever the miss leaves. -/
theorem slotAfterPoll_miss (hring : u.loop.lastPolled = s.loop.lastPolled) (e : takeMiss n z s = u) :
    s.changesOnly [.loop, .zone, .link, .posts] (slotAfterPoll u) ∧ s.ringGoesOn (slotAfterPoll u)
      ∧ (slotAfterPoll u).loop.nodes = u.loop.nodes ∧ (slotAfterPoll u).zone = u.zone
      ∧ (slotAfterPoll u).link = u.link ∧ (slotAfterPoll u).out = s.out ∧ (slotAfterPoll u).sett = s.sett := by
  have hparts : (slotAfterPoll u).hide [.loop, .zone, .link, .posts] = s.hide [.loop, .zone, .link, .posts] := by
    rw [← e]
    simp
  have hloop : (slotAfterPoll u).hide [.loop] = u.hide [.loop] := by simp
  obtain ⟨hgoes, hnodes⟩ := slotAfterPoll_goesOn hring
  exact ⟨hide_eq_iff.1 hparts, hgoes, hnodes, hide_eq_iff.1 hloop .zone (by decide),
    hide_eq_iff.1 hloop .link (by decide), hide_eq_iff.1 hparts .out (by decide),
    hide_eq_iff.1 hparts .sett (by decide)⟩

/-- A miss of a node in STAT_LOST only marks it polled. -/
theorem miss_lost (n : Fin 15) (z : Fin 6) (hlost : s.loop.nodes[n].statLost = true) :
    (takeMiss n z s).loop.lastPolled = s.loop.lastPolled ∧ (takeMiss n z s).zone = s.zone
      ∧ (takeMiss n z s).loop.nodes[n] = { s.loop.nodes[n] with polled := true } := by
  rw [takeMiss_lost n z hlost]
  exact ⟨rfl, rfl, (onNode_entry n n _ s).trans (if_pos rfl)⟩

/-- The third miss in a row: the node's record, the notice and the zone (R40, R49). -/
theorem miss_loses (n : Fin 15) (z : Fin 6) (hfound : s.loop.nodes[n].statLost = false)
    (hmiss : 2 ≤ s.loop.nodes[n].miss) :
    (takeMiss n z s).loop.lastPolled = s.loop.lastPolled
      ∧ (takeMiss n z s).loop.nodes[n].told
        = ({ s.loop.nodes[n] with polled := true, statLost := true, miss := 0 } : Node).told
      ∧ .statLost ∈ (takeMiss n z s).link.notices
      ∧ (takeMiss n z s).zone.zones[z].view = s.zone.zones[z].nodeless.view
      ∧ (takeMiss n z s).zone.zones[z].frostCall = false := by
  obtain ⟨v, hv⟩ : ∃ v, v = postNotice .statLost ((s.onNode n fun x => { x with polled := true }).onNode n
    fun x => { x with statLost := true, miss := 0 }) := ⟨_, rfl⟩
  have hhide : v.hide [.loop, .link] = s.hide [.loop, .link] := by rw [hv]; simp
  have hsett : v.sett = s.sett := hide_eq_iff.1 hhide .sett (by decide)
  have hout : v.out = s.out := hide_eq_iff.1 hhide .out (by decide)
  have hzone : v.zone = s.zone := hide_eq_iff.1 hhide .zone (by decide)
  have heq : takeMiss n z s = newsOf z Zone.nodeless v := hv ▸ takeMiss_loses n z hfound hmiss
  have hnode : v.loop.nodes[n] = { s.loop.nodes[n] with polled := true, statLost := true, miss := 0 } := by
    rw [hv]
    exact onNode_twice n (fun x => { x with polled := true }) (fun x => { x with statLost := true, miss := 0 }) s
  obtain ⟨hlast, hnodes⟩ : v.sameRing (newsOf z Zone.nodeless v) := (State.sameRing.refl v).onZone.reviews
  have hparts : (newsOf z Zone.nodeless v).hide [.loop, .zone, .posts] = v.hide [.loop, .zone, .posts] := by
    simp [newsOf]
  have hnews : v.takesNews z Zone.nodeless (newsOf z Zone.nodeless v) :=
    ⟨hide_eq_iff.1 hparts .out (by decide), hide_eq_iff.1 hparts .sett (by decide), v, rfl, rfl, rfl, rfl⟩
  rw [heq]
  refine ⟨hlast.trans (by rw [hv]; rfl), by rw [hnodes n, hnode], ?_, by rw [hnews.view, hzone],
    (hnews.blind (see_sighted _ _)).2⟩
  rw [hide_eq_iff.1 hparts .link (by decide), hv]
  exact mem_insertNotice.2 (.inl rfl)

/-- An earlier miss: the node's record, and a zone still AWAITING goes blind (R40, R51). -/
theorem miss_counts (n : Fin 15) (z : Fin 6) (hfound : s.loop.nodes[n].statLost = false)
    (hmiss : s.loop.nodes[n].miss < 2) :
    (takeMiss n z s).loop.lastPolled = s.loop.lastPolled
      ∧ (takeMiss n z s).loop.nodes[n] = { s.loop.nodes[n] with polled := true, miss := s.loop.nodes[n].miss + 1 }
      ∧ (s.loop.nodes[n].polled = true ∨ s.zone.zones[z].sighted ≠ .awaiting → (takeMiss n z s).zone = s.zone)
      ∧ (s.loop.nodes[n].polled = false → s.zone.zones[z].sighted = .awaiting →
        (takeMiss n z s).zone.zones[z].sighted = .blind ∧ (takeMiss n z s).zone.zones[z].blindPos = 0
          ∧ (takeMiss n z s).zone.zones[z].modeCall
            = ((takeMiss n z s).servedMode z != .off && decide (0 < s.sett.working.zones[z].duty))) := by
  obtain ⟨v, hv⟩ : ∃ v, v = (s.onNode n fun x => { x with polled := true }).onNode n
    fun x => { x with miss := x.miss + 1 } := ⟨_, rfl⟩
  have hnode : v.loop.nodes[n] = { s.loop.nodes[n] with polled := true, miss := s.loop.nodes[n].miss + 1 } := by
    rw [hv]
    exact onNode_twice n _ _ s
  have hhide : v.hide [.loop] = s.hide [.loop] := by rw [hv]; simp
  have hlast : v.loop.lastPolled = s.loop.lastPolled := by rw [hv]; rfl
  rw [takeMiss_counts n z hfound hmiss, ← hv]
  by_cases hblinds : s.loop.nodes[n].polled = false ∧ s.zone.zones[z].sighted = .awaiting
  · obtain ⟨hnew, hawaits⟩ := hblinds
    have hparts : (formOutputs (evaluateCall z (v.onZone z (Zone.see .blind)))).hide [.zone, .posts]
        = v.hide [.zone, .posts] := by simp
    have hentry : (v.onZone z (Zone.see .blind)).zone.zones[z] = s.zone.zones[z].see .blind := by
      rw [onZone_entry, if_pos rfl, hide_eq_iff.1 hhide .zone (by decide)]
    obtain ⟨hblind, hcalls⟩ := blinded_calls hentry
    obtain ⟨hpos, hcall⟩ := hcalls (by rw [hawaits]; decide)
    have hhost : (formOutputs (evaluateCall z (v.onZone z (Zone.see .blind)))).zone.zones[z].hostMode
        = (v.onZone z (Zone.see .blind)).zone.zones[z].hostMode := by
      rw [formOutputs_zones]
      exact view_field Zone.hostMode (fun _ => rfl) (evaluateCall_view z z _)
    rw [if_pos ⟨hnew, hawaits⟩, servedMode_congr (s := v.onZone z (Zone.see .blind))
      (hide_eq_iff.1 hparts .out (by decide)) (hide_eq_iff.1 hparts .sett (by decide)) hhost, formOutputs_zones,
      hide_eq_iff.1 hparts .loop (by decide)]
    have hsett : (v.onZone z (Zone.see .blind)).sett = s.sett := hide_eq_iff.1 hhide .sett (by decide)
    rw [hsett] at hcall
    have hboth : ¬ (s.loop.nodes[n].polled = true ∨ s.zone.zones[z].sighted ≠ .awaiting) := by
      rw [hnew, hawaits]
      decide
    exact ⟨hlast, hnode, fun h => absurd h hboth, fun _ _ => ⟨hblind, hpos, hcall⟩⟩
  · rw [if_neg hblinds]
    exact ⟨hlast, hnode, fun _ => hide_eq_iff.1 hhide .zone (by decide),
      fun hnew hawaits => absurd ⟨hnew, hawaits⟩ hblinds⟩

/-- Settles O29: by what the node was, STAT_LOST or not, and by the count of its misses. -/
theorem pollMissesLoseTheNode : Obligations.PollMissesLoseTheNode := by
  unfold Obligations.PollMissesLoseTheNode
  intro n s hrun
  refine ⟨fun z hslot hbound => ?_, fun answer lost hslot hnone => ?_⟩
  · have hexec : exec (.pollSlotEnd none) s = .next (slotAfterPoll (takeMiss n z s)) := by
      rw [exec_pollSlotEnd hrun hslot, if_neg (by decide), pollResult_miss hbound]
    by_cases hfound : s.loop.nodes[n].statLost = false
    · by_cases hmiss : s.loop.nodes[n].miss < 2
      · obtain ⟨hlast, hnode, hstays, hblinds⟩ := miss_counts n z hfound hmiss
        obtain ⟨hparts, hring, hnodes, hzone, -, hout, hsett⟩ := slotAfterPoll_miss hlast rfl
        have hrecord := (congrArg (fun v : Vector Node 15 => v[n]) hnodes).trans hnode
        have hserved : (slotAfterPoll (takeMiss n z s)).servedMode z = (takeMiss n z s).servedMode z := by
          have e : (slotAfterPoll (takeMiss n z s)).hide [.loop] = (takeMiss n z s).hide [.loop] := by simp
          exact servedMode_congr (hide_eq_iff.1 e .out (by decide)) (hide_eq_iff.1 e .sett (by decide)) (by rw [hzone])
        refine ⟨_, hexec, hparts, hring, congrArg Node.polled hrecord, (congrArg Node.zone hrecord).trans hbound,
          fun hlost => absurd hlost (ne_true_of_eq_false hfound), fun _ _ => ⟨congrArg Node.miss hrecord,
            (congrArg Node.statLost hrecord).trans hfound, fun h => hzone.trans (hstays h), fun hnew hawaits => ?_⟩,
          fun _ hthird => absurd hmiss (not_lt.2 hthird)⟩
        rw [hserved, hzone]
        exact hblinds hnew hawaits
      · obtain ⟨hlast, hnode, hnotice, hview, hfrost⟩ := miss_loses n z hfound (not_lt.1 hmiss)
        obtain ⟨hparts, hring, hnodes, hzone, hlink, -, -⟩ := slotAfterPoll_miss hlast rfl
        rw [← hnodes] at hnode
        rw [← hzone] at hview hfrost
        exact ⟨_, hexec, hparts, hring, told_field Node.polled (fun _ => rfl) hnode,
          (told_field Node.zone (fun _ => rfl) hnode).trans hbound,
          fun hlost => absurd hlost (ne_true_of_eq_false hfound), fun _ hfew => absurd hfew hmiss,
          fun _ _ => ⟨told_field Node.miss (fun _ => rfl) hnode,
            told_field Node.statLost (fun _ => rfl) hnode, hlink ▸ hnotice, view_field Zone.temp (fun _ => rfl) hview,
            view_field Zone.dial (fun _ => rfl) hview, view_field Zone.contact (fun _ => rfl) hview,
            view_field Zone.statLost (fun _ => rfl) hview,
            (view_field Zone.sighted (fun _ => rfl) hview).trans (see_sighted _ _), hfrost⟩⟩
    · have hlost : s.loop.nodes[n].statLost = true := by simpa using hfound
      obtain ⟨hlast, hkept, hnode⟩ := miss_lost n z hlost
      obtain ⟨hparts, hring, hnodes, hzone, -, -, -⟩ := slotAfterPoll_miss hlast rfl
      have hrecord := (congrArg (fun v : Vector Node 15 => v[n]) hnodes).trans hnode
      exact ⟨_, hexec, hparts, hring, congrArg Node.polled hrecord, (congrArg Node.zone hrecord).trans hbound,
        fun _ => ⟨hzone.trans hkept, (congrArg Node.statLost hrecord).trans hlost,
          (congrArg Node.miss hrecord).trans rfl⟩,
        fun h => absurd h hfound, fun h => absurd h hfound⟩
  · have hexec : exec (.pollSlotEnd answer) s = .next (slotAfterPoll s) := by
      rw [exec_pollSlotEnd hrun hslot]
      split
      · rfl
      · next hheld =>
        have hfree : s.loop.nodes[n].zone = none := hnone.resolve_left hheld
        unfold pollResult State.nodeAt
        rw [hfree]
    obtain ⟨hgoes, hnodes⟩ := slotAfterPoll_goesOn (s := s) (u := s) rfl
    exact ⟨_, hexec, hide_eq_iff.1 (by simp), hgoes, hnodes, slotAfterPoll_length s⟩

end Sys2Proof.Machine
end

section
/-! PROOF. ZONE_MODE and the blind duty (O32, O33). -/

namespace Sys2Proof.Machine

variable {s t : State} {z : Fin 6}

/-! ## The blind duty (R51) -/

/-- A blind zone with its cycle at `p`: its mode call by its duty (R51). -/
theorem blindAt_calls (p : Nat) (h : s.zone.zones[z].sighted = .blind) :
    (blindAt z p s).zone.zones[z].blindPos = p ∧ (blindAt z p s).zone.zones[z].sighted = .blind
      ∧ (blindAt z p s).zone.zones[z].modeCall = (s.servedMode z != .off
        && decide (min p (blindCycleMs - 1) < dutyMs s.sett.working.zones[z].duty))
      ∧ (blindAt z p s).zone.zones[z].frostCall = false := by
  obtain ⟨w, hw⟩ : ∃ w, w = s.onZone z fun zn => { zn with blindPos := p } := ⟨_, rfl⟩
  have hentry : w.zone.zones[z] = { s.zone.zones[z] with blindPos := p } := by
    rw [hw, onZone_entry, if_pos rfl]
  have hsighted : w.zone.zones[z].sighted = .blind := by rw [hentry]; exact h
  have hserved : w.servedMode z = s.servedMode z :=
    servedMode_congr (by rw [hw]; rfl) (by rw [hw]; rfl) (by rw [hentry])
  have hsett : w.sett = s.sett := by rw [hw]; rfl
  have hblind : blindAt z p s = formOutputs (evaluateCall z w) := by rw [hw]; rfl
  have hview := evaluateCall_view z z w
  obtain ⟨hmode, hfrost⟩ := evaluateCall_calls z w
  rw [callsOf_blind hsighted, hserved, hsett, Zone.cyclePos, hentry] at hmode hfrost
  rw [hblind, formOutputs_zones]
  refine ⟨?_, (view_field Zone.sighted (fun _ => rfl) hview).trans hsighted, hmode, hfrost⟩
  rw [view_field Zone.blindPos (fun _ => rfl) hview, hentry]

theorem blindAt_parts (z : Fin 6) (p : Nat) (s : State) :
    s.changesOnly [.zone, .posts] (blindAt z p s) ∧ (blindAt z p s).plantFormed :=
  ⟨hide_eq_iff.1 (by simp), formOutputs_plantFormed _⟩

/-- Settles O33: the cycle at 0, and at or past the duty's end. -/
theorem blindDutyRunsTheModeCall : Obligations.BlindDutyRunsTheModeCall := by
  unfold Obligations.BlindDutyRunsTheModeCall
  intro z s hrun hblind
  refine ⟨?_, fun hduty => ?_, fun hduty => ?_⟩
  · have hexec : exec (.blindCycleStart z) s = .next (blindAt z 0 s) :=
      congrArg Host.Outcome.next ((if_pos hrun).trans (if_pos hblind))
    obtain ⟨hparts, hformed⟩ := blindAt_parts z 0 s
    obtain ⟨hpos, hsighted, hmode, hfrost⟩ := blindAt_calls 0 hblind
    refine ⟨_, hexec, hparts, hpos, hsighted, hmode.trans ?_, hfrost, hformed⟩
    simp [dutyMs]
  · have hwithin : dutyMs s.sett.working.zones[z].duty < blindCycleMs := by
      simp only [dutyMs, blindCycleMs]
      omega
    have hexec : exec (.blindDutyEnd z) s = .next
        (blindAt z (max (s.zoneAt z).blindPos (dutyMs (s.zoneSet z).duty)) s) :=
      congrArg Host.Outcome.next ((if_pos hrun).trans (if_pos ⟨hblind, hwithin⟩))
    obtain ⟨hparts, hformed⟩ := blindAt_parts z (max (s.zoneAt z).blindPos (dutyMs (s.zoneSet z).duty)) s
    obtain ⟨-, hsighted, hmode, hfrost⟩ :=
      blindAt_calls (max (s.zoneAt z).blindPos (dutyMs (s.zoneSet z).duty)) hblind
    have hpast : ¬ min (max (s.zoneAt z).blindPos (dutyMs (s.zoneSet z).duty)) (blindCycleMs - 1)
        < dutyMs s.sett.working.zones[z].duty := by
      have hset : dutyMs (s.zoneSet z).duty = dutyMs s.sett.working.zones[z].duty := rfl
      rw [hset]
      omega
    exact ⟨_, hexec, hparts, hsighted, by rw [hmode, decide_eq_false hpast, Bool.and_false], hfrost, hformed⟩
  · have hover : ¬ ((s.zoneAt z).sighted = .blind ∧ dutyMs (s.zoneSet z).duty < blindCycleMs) := by
      rintro ⟨-, hwithin⟩
      have hset : dutyMs (s.zoneSet z).duty = s.sett.working.zones[z].duty * 12000 := rfl
      simp only [hset, blindCycleMs] at hwithin
      omega
    exact congrArg Host.Outcome.next ((if_pos hrun).trans (if_neg hover))

/-! ## ZONE_MODE (R47) -/

theorem zoneOfIndex_none {i : Nat} (h : i = 0 ∨ 6 < i) : zoneOfIndex i = none := dif_neg (by omega)

theorem heatModeOf_none {m : Nat} (h : 3 < m) : heatModeOf m = none := by
  obtain ⟨k, rfl⟩ : ∃ k, m = k + 4 := ⟨m - 4, by omega⟩
  rfl

theorem heatModeOf_code (m : HeatMode) : heatModeOf (HeatMode.code m) = some m := by
  cases m <;> rfl

theorem zoneModeRequest_refused {i m : Byte} (h : i = 0 ∨ 6 < i.toNat ∨ 3 < m.toNat) :
    zoneModeRequest [i, m] s = (s, plainReply 0x0A .refused .badValue []) := by
  unfold zoneModeRequest
  dsimp only
  split
  · next hz hm =>
    obtain rfl | hi | hm' := h
    · rw [zoneOfIndex_none (i := BitVec.toNat 0) (.inl rfl)] at hz
      cases hz
    · rw [zoneOfIndex_none (.inr hi)] at hz
      cases hz
    · rw [heatModeOf_none hm'] at hm
      cases hm
  · rfl

theorem zoneModeRequest_sets {i m : Byte} {mode : HeatMode} (hi : i.toNat = z.val + 1)
    (hm : m.toNat = HeatMode.code mode) :
    zoneModeRequest [i, m] s = (setHostMode z mode s, plainReply 0x0A .ok .none []) := by
  simp only [zoneModeRequest, zoneOfIndex_eq_some.2 hi, hm, heatModeOf_code]
  rfl

/-- A zone's host mode set. -/
def Zone.hosted (mode : HeatMode) (zn : Zone) : Zone := { zn with hostMode := mode }

theorem setHostMode_run (mode : HeatMode) (hrun : s.out.mode = .run) :
    setHostMode z mode s = newsOf z (Zone.hosted mode) s := if_pos hrun

theorem newsOf_hide (z : Fin 6) (f : Zone → Zone) (s : State) :
    (newsOf z f s).hide [.loop, .zone, .posts] = s.hide [.loop, .zone, .posts] := by simp [newsOf]

/-- In RUN the host mode is in force at once: the zone is evaluated, and the request answered (R47). -/
theorem exec_zoneMode_run {i m : Byte} {mode : HeatMode} (htakes : s.takes) (hi : i.toNat = z.val + 1)
    (hm : m.toNat = HeatMode.code mode) (hrun : s.out.mode = .run) :
    ∃ t, exec (.zoneMode [i, m]) s = .next t ∧ s.changesOnly [.loop, .zone, .link, .posts] t
      ∧ s.answered t (plainReply 0x0A .ok .none []) ∧ s.takesNews z (Zone.hosted mode) t
      ∧ t.zone = (newsOf z (Zone.hosted mode) s.heard).zone := by
  obtain ⟨u, hu⟩ : ∃ u, u = newsOf z (Zone.hosted mode) s.heard := ⟨_, rfl⟩
  have hbody : zoneModeRequest [i, m] s.heard = (u, plainReply 0x0A .ok .none []) := by
    rw [zoneModeRequest_sets hi hm, setHostMode_run mode (s := s.heard) hrun, hu]
  have hparts : u.hide [.loop, .zone, .posts] = s.heard.hide [.loop, .zone, .posts] := hu ▸ newsOf_hide _ _ _
  have hlink : u.link = s.heard.link := hide_eq_iff.1 hparts .link (by decide)
  obtain ⟨l, hexec, hanswered, -⟩ := request_answers (body := zoneModeRequest) htakes
    (Nat.le_of_ble_eq_true rfl) hbody (by rw [hlink]; exact ⟨rfl, rfl, rfl⟩)
  rw [← hu]
  exact ⟨_, hexec, changesOnly_onLink (by decide) (hide_of_subset (by simp) hparts) l, hanswered,
    ⟨hide_eq_iff.1 hparts .out (by decide), hide_eq_iff.1 hparts .sett (by decide), s.heard, rfl, rfl, rfl,
      show u.zone = _ from congrArg State.zone hu⟩, rfl⟩

/-- The call of a zone evaluated is that of its parts (R52). -/
theorem modeChanged_call (z : Fin 6) (s : State) : (modeChanged z s).zone.zones[z].call
    = (s.sett.working.zones[z].enabled && ((modeChanged z s).zone.zones[z].modeCall
      || (modeChanged z s).zone.zones[z].frostCall || (modeChanged z s).zone.zones[z].sinkDrive)) := by
  obtain ⟨-, hzone⟩ := evaluateCall_sansValve z (deriveTarget z s)
  have hcall := sansValve_field Zone.call (fun _ => rfl) hzone
  have hsink := sansValve_field Zone.sinkDrive (fun _ => rfl) hzone
  obtain ⟨hmode, hfrost⟩ := modeChanged_calls z s
  rw [hmode, hfrost]
  unfold modeChanged
  rw [hcall, hsink, (deriveTarget_around z s).1]

/-- A zone in OFF has no mode call, whatever it sees (R49 to R51). -/
theorem State.takesNews.off {f : Zone → Zone} (h : s.takesNews z f t) (hoff : t.servedMode z = .off)
    (hseen : (f s.zone.zones[z]).sighted = .sighted → s.sett.working.zones[z].kind ≠ .contact →
      (f s.zone.zones[z]).temp ≠ none) :
    t.zone.zones[z].target = none ∧ t.zone.zones[z].modeCall = false := by
  have htarget : t.zone.zones[z].target = none := by
    rw [h.target, State.targetByRule, hoff]
  refine ⟨htarget, ?_⟩
  cases hsighted : (f s.zone.zones[z]).sighted with
  | awaiting =>
    obtain ⟨w, hw, -, -, hz, -⟩ := h.zones
    rw [hz]
    exact modeChanged_awaiting (by rw [hw]; exact hsighted)
  | blind => rw [(h.blind hsighted).1, hoff]; rfl
  | sighted =>
    by_cases hkind : s.sett.working.zones[z].kind = .contact
    · rw [(h.contact hsighted hkind).1, hoff]
      exact Bool.and_false _
    · obtain ⟨x, hx⟩ := Option.ne_none_iff_exists'.1 (hseen hsighted hkind)
      exact (h.temperature hsighted hkind hx).1.off htarget

/-- The duty's on-time as a share of the cycle (R51). -/
theorem cyclePos_lt_duty (zn : Zone) (duty : Nat) :
    decide (zn.cyclePos < dutyMs duty) = decide (100 ≤ duty ∨ zn.blindPos < 12000 * duty) := by
  refine decide_eq_decide.2 ?_
  simp only [Zone.cyclePos, dutyMs, blindCycleMs]
  omega

theorem ne_off {m : HeatMode} (h : m ≠ .off) : (m != .off) = true := bne_iff_ne.2 h

/-- The zones that the request does not name. -/
theorem newsOf_other {f : Zone → Zone} {y : Fin 6} (hy : y ≠ z) (s : State) :
    (newsOf z f s).zone.zones[y].sansValve = s.zone.zones[y].sansValve := by
  unfold newsOf
  rw [formOutputs_zones, modeChanged_other hy, onZone_entry, if_neg hy]

theorem newsOf_call (f : Zone → Zone) (z : Fin 6) (s : State) : (newsOf z f s).zone.zones[z].call
    = (s.sett.working.zones[z].enabled && ((newsOf z f s).zone.zones[z].modeCall
      || (newsOf z f s).zone.zones[z].frostCall || (newsOf z f s).zone.zones[z].sinkDrive)) := by
  unfold newsOf
  rw [formOutputs_zones]
  exact modeChanged_call z (s.onZone z f)

/-- Settles O32: the sight as an invariant of the zones; the host mode, in RUN evaluated by the zone's sight. -/
theorem zoneModeSetsTheHostMode : Obligations.ZoneModeSetsTheHostMode := by
  unfold Obligations.ZoneModeSetsTheHostMode
  refine ⟨reset_sightedByReport, fun _ _ => sightedByReport_step, fun i m s htakes hsight =>
    ⟨fun hbad => ?_, fun z mode hi hm => ⟨fun hother => ?_, fun hrun => ?_⟩⟩⟩
  · exact next_request_replied (body := zoneModeRequest) htakes (Nat.le_of_ble_eq_true rfl)
      (zoneModeRequest_refused hbad)
  · refine next_request_answered (s := s) (u := s.onZone z (Zone.hosted mode)) (body := zoneModeRequest) htakes
      (Nat.le_of_ble_eq_true rfl) ?_ rfl
    rw [zoneModeRequest_sets hi hm]
    exact congrArg (·, plainReply 0x0A .ok .none []) (if_neg hother)
  · obtain ⟨t, hexec, hparts, hanswered, hnews, hzone⟩ := exec_zoneMode_run htakes hi hm hrun
    have hview := hnews.view
    have hhost : t.zone.zones[z].hostMode = mode := view_field Zone.hostMode (fun _ => rfl) hview
    have hserved : t.servedMode z = mode := by
      rw [State.servedMode, hnews.out, hrun]
      exact hhost
    have hcall := newsOf_call (Zone.hosted mode) z s.heard
    rw [← hzone] at hcall
    refine ⟨t, hexec, hparts, hanswered, hhost, hnews.target, hnews.formed, hcall, fun hoff => ?_,
      fun x hon hkind hsighted htemp g hg => ?_, fun hon hkind hsighted => ?_, fun hon hblind => ?_,
      fun hawaits => ?_, fun y hy => ?_⟩
    · obtain ⟨hseen, -⟩ := hsight
      exact hnews.off (hserved.trans hoff) (hseen z)
    · obtain ⟨hholds, -⟩ := hnews.temperature hsighted hkind htemp
      exact ⟨hholds.low g hg, hholds.high g hg, hholds.between g hg⟩
    · rw [(hnews.contact hsighted hkind).1, hserved, ne_off hon, Bool.and_true]
      rfl
    · rw [(hnews.blind hblind).1, hserved, ne_off hon, Bool.true_and, cyclePos_lt_duty]
      rfl
    · obtain ⟨w, hw, -, -, hz, -⟩ := hnews.zones
      rw [hz]
      exact modeChanged_awaiting (by rw [hw]; exact hawaits)
    · have hstays : t.zone.zones[y].sansValve = s.zone.zones[y].sansValve := by
        rw [hzone]
        exact newsOf_other hy s.heard
      exact ⟨sansValve_field Zone.hostMode (fun _ => rfl) hstays, sansValve_field Zone.target (fun _ => rfl) hstays,
        sansValve_field Zone.call (fun _ => rfl) hstays⟩

end Sys2Proof.Machine
end

section
/-! PROOF. The valve sequence's events: end switches, travel time and fault retry (O34). -/

namespace Sys2Proof.Machine

variable {s t u : State} {z : Fin 6}

/-! ## The zones as a list -/

/-- The zones, with one entry changed. -/
theorem zones_eq_set {a : Zone}
    (h : ∀ y : Fin 6, t.zone.zones[y] = if y = z then a else s.zone.zones[y]) :
    t.zone.zones = s.zone.zones.set z a := by
  refine Vector.ext fun i hi => ?_
  have hentry := h ⟨i, hi⟩
  by_cases hz : z.val = i
  · subst hz
    simpa using hentry
  · have hne : ¬ (⟨i, hi⟩ : Fin 6) = z := fun e => hz (congrArg Fin.val e).symm
    rw [if_neg hne] at hentry
    rw [Vector.getElem_set_ne _ _ hz]
    exact hentry

theorem writeToZoneNode_zone (z : Fin 6) (i : Item) (v : Nat) (s : State) : (writeToZoneNode z i v s).zone = s.zone :=
  hide_eq_iff.1 (hide_writeToZoneNode z i v s (F := [.loop]) (by decide)) .zone (by decide)

/-! ## What a zone's node is owed (R44) -/

theorem owes_of_loop {n : Fin 15} {i : Item} {v : Nat} (e : t.loop = u.loop) (h : u.owes n i v) : t.owes n i v := by
  rw [State.owes, e]
  exact h

/-- A write to a bound zone's node is owed to it. -/
theorem writeToZoneNode_owes {n : Fin 15} (i : Item) (v : Nat) (hen : (s.zoneSet z).enabled = true)
    (hnode : (s.zoneSet z).node = n.val + 1) : (writeToZoneNode z i v s).owes n i v := by
  unfold writeToZoneNode
  rw [boundNode_of hen hnode]
  exact internalWrite_owes n i v s

/-! ## FAULT (R56) -/

theorem enterFault_entry (z y : Fin 6) (cause : ZoneFault) (s : State) : (enterFault z cause s).zone.zones[y] =
    if y = z then { s.zone.zones[z] with state := .fault, timer := .retry 15, cause := cause }
    else s.zone.zones[y] := by
  unfold enterFault
  rw [writeToZoneNode_zone]
  have hset := onZone_entry z y (fun zn => { zn with cause := cause }) (zoneTo z .fault (.retry 15) s)
  rw [zoneTo_entry, zoneTo_entry, if_pos rfl] at hset
  refine hset.trans ?_
  by_cases hy : y = z
  · rw [if_pos hy, if_pos hy]
  · rw [if_neg hy, if_neg hy, if_neg hy]

/-- What entering FAULT leaves at ZONE, LINK and LOOP (R44, R56). -/
structure State.faults (z : Fin 6) (cause : ZoneFault) (s t : State) : Prop where
  formed : t.plantFormed
  notice : .zoneFault ∈ t.link.notices
  zones : t.zone.zones
    = s.zone.zones.set z { s.zone.zones[z] with state := .fault, timer := .retry 15, cause := cause }
  owes : ∀ n : Fin 15, s.sett.working.zones[z].enabled = true → s.sett.working.zones[z].node = n.val + 1 →
    t.owes n .faultLamp 1

theorem enterFault_faults (z : Fin 6) (cause : ZoneFault) (s : State) :
    s.faults z cause (formOutputs (enterFault z cause s)) := by
  obtain ⟨w, hw⟩ : ∃ w, w = postNotice .zoneFault ((zoneTo z .fault (.retry 15) s).onZone z
    fun zn => { zn with cause := cause }) := ⟨_, rfl⟩
  have henters : enterFault z cause s = writeToZoneNode z .faultLamp 1 w := by rw [hw]; rfl
  have hwhide : w.hide [.zone, .posts, .link] = s.hide [.zone, .posts, .link] := by rw [hw]; simp
  have hformed : (formOutputs (enterFault z cause s)).hide [.zone, .posts]
      = (enterFault z cause s).hide [.zone, .posts] := by simp
  have hwrite : (enterFault z cause s).hide [.loop] = w.hide [.loop] := by rw [henters]; simp
  refine ⟨formOutputs_plantFormed _, ?_, zones_eq_set fun y => ?_, fun n hen hnode => ?_⟩
  · rw [hide_eq_iff.1 hformed .link (by decide), hide_eq_iff.1 hwrite .link (by decide), hw]
    exact mem_insertNotice.2 (.inl rfl)
  · rw [formOutputs_zones, enterFault_entry]
  · have hset : w.zoneSet z = s.sett.working.zones[z] :=
      congrArg (fun b : SetBlock => b.working.zones[z]) (hide_eq_iff.1 hwhide .sett (by decide))
    refine owes_of_loop (hide_eq_iff.1 hformed .loop (by decide)) ?_
    rw [henters]
    exact writeToZoneNode_owes _ _ (by rw [hset]; exact hen) (by rw [hset]; exact hnode)

/-! ## The end switches (R53 to R55) -/

/-- An end switch at its new level. -/
def State.switched (s : State) (z : Fin 6) (v : Bool) : State :=
  { s with inputs := { s.inputs with ends := s.inputs.ends.set z (some v) } }

theorem switched_made (s : State) (z : Fin 6) (v : Bool) : (s.switched z v).endIsMade z = v := by
  cases v <;> simp [State.switched, State.endIsMade]

/-- An edge of an end switch while the part runs. -/
theorem edge_endSwitch {v : Bool} (act : State → State) (hrun : s.running = true)
    (hlevel : s.inputs.ends[z] = some (!v)) :
    edge (.endSwitch z) v (whenRunning act) s = act (s.switched z v) := by
  have hphase : s.phase = .running := by simpa [State.running] using hrun
  have hedge : (s.debouncing && s.inputs.level (.endSwitch z) == some (!v)) = true := by
    simp only [State.debouncing, hphase, Inputs.level, hlevel]
    cases v <;> rfl
  have hrun' : (s.switched z v).running = true := hrun
  unfold edge
  rw [if_neg (show ¬ s.untaken (.endSwitch z) = true from Bool.false_ne_true), if_pos hedge]
  exact if_pos hrun'

theorem exec_endMade (hrun : s.running = true) (hlevel : s.inputs.ends[z] = some false) :
    exec (.endMade z) s = .next (endMakes z (s.switched z true)) :=
  congrArg Host.Outcome.next (edge_endSwitch (v := true) (endMakes z) hrun hlevel)

theorem exec_endBroken (hrun : s.running = true) (hlevel : s.inputs.ends[z] = some true) :
    exec (.endBroken z) s = .next (endBreaks z (s.switched z false)) :=
  congrArg Host.Outcome.next (edge_endSwitch (v := false) (endBreaks z) hrun hlevel)

/-- A switch that makes proves a valve OPEN (R53). -/
theorem endMakes_cases (hhold : s.supply.hold = false) :
    (s.zone.zones[z].state = .opening → endMakes z s = formOutputs (zoneTo z .opened .stopped s))
      ∧ (s.zone.zones[z].state ≠ .opening → endMakes z s = s) := by
  unfold endMakes
  rw [hhold, if_neg Bool.false_ne_true]
  exact ⟨fun h => if_pos h, fun h => if_neg h⟩

/-- A switch that breaks, by the state of its valve (R54 to R56). -/
theorem endBreaks_cases (hhold : s.supply.hold = false) :
    (s.zone.zones[z].state = .closing → endBreaks z s = formOutputs (enterIdle z s))
      ∧ (s.zone.zones[z].state = .opened ∨ s.zone.zones[z].state = .hold →
        endBreaks z s = formOutputs (enterFault z .switchLost s))
      ∧ (s.zone.zones[z].state = .idle ∨ s.zone.zones[z].state = .opening ∨ s.zone.zones[z].state = .fault →
        endBreaks z s = s) := by
  unfold endBreaks State.zoneAt
  rw [hhold, if_neg Bool.false_ne_true]
  refine ⟨fun h => by rw [h], fun h => ?_, fun h => ?_⟩
  · obtain h | h := h <;> rw [h]
  · obtain h | h | h := h <;> rw [h]

/-! ## The timers (R56) -/

theorem exec_travelTimerExpiry {ms : Nat} {cause : ZoneFault} (hrun : s.running = true)
    (htimer : s.zone.zones[z].timer = .travel ms)
    (hstate : (s.zone.zones[z].state = .opening ∧ cause = .noOpen)
      ∨ (s.zone.zones[z].state = .closing ∧ cause = .stuckOpen)) :
    exec (.travelTimerExpiry z) s = .next (formOutputs (enterFault z cause s)) := by
  refine congrArg Host.Outcome.next ((if_pos hrun).trans ?_)
  unfold travelExpires State.zoneAt
  obtain ⟨hstate, rfl⟩ | ⟨hstate, rfl⟩ := hstate <;> rw [hstate, htimer]

/-- A valve whose retry time is over, in IDLE with its lamp off. -/
def retried (z : Fin 6) (s : State) : State :=
  writeToZoneNode z .faultLamp 0 (postNotice .zoneFault (zoneTo z .idle .stopped s))

theorem exec_faultRetryExpiry (hrun : s.running = true) (hstate : s.zone.zones[z].state = .fault)
    (htimer : s.zone.zones[z].timer = .retry 0) : exec (.faultRetryExpiry z) s
      = .next (formOutputs (if s.zone.zones[z].call then enterOpening z (retried z s) else retried z s)) := by
  have hcall : ((retried z s).zoneAt z).call = s.zone.zones[z].call := by
    rw [State.zoneAt, retried, writeToZoneNode_zone]
    have hset := zoneTo_entry z z .idle .stopped s
    rw [if_pos rfl] at hset
    exact (congrArg Zone.call hset).trans rfl
  refine congrArg Host.Outcome.next ((if_pos hrun).trans ?_)
  unfold retryExpires
  rw [← hcall]
  unfold State.zoneAt
  rw [hstate, htimer]
  rfl

theorem retried_entry (z y : Fin 6) (s : State) : (retried z s).zone.zones[y] =
    if y = z then { s.zone.zones[z] with state := .idle, timer := .stopped } else s.zone.zones[y] := by
  rw [retried, writeToZoneNode_zone]
  exact zoneTo_entry z y .idle .stopped s

/-- With its call on, a valve whose retry time is over opens again. -/
theorem retried_opens (z : Fin 6) (s : State) : (enterOpening z (retried z s)).zone.zones = s.zone.zones.set z
    (if s.endIsMade z then { s.zone.zones[z] with state := .opened, timer := .stopped }
      else { s.zone.zones[z] with state := .opening, timer := s.travelTimer z }) := by
  have haround : s.sameAround (retried z s) :=
    sameAround_of_hide (F := [.loop, .zone, .link, .posts]) (by simp [retried]) (by decide) (by decide) (by decide)
  refine zones_eq_set fun y => ?_
  rw [enterOpening_entry, haround.made, haround.travel, retried_entry, retried_entry, if_pos rfl]
  by_cases hy : y = z
  · rw [if_pos hy, if_pos hy]
  · rw [if_neg hy, if_neg hy, if_neg hy]

/-- Settles O34: each event of the valve sequence, by the state it meets. -/
theorem valveSequenceFollowsItsEvents : Obligations.ValveSequenceFollowsItsEvents := by
  unfold Obligations.ValveSequenceFollowsItsEvents
  refine ⟨fun z s hrun hhold => ⟨fun hlevel => ?_, fun hlevel => ?_⟩,
    fun z s hrun hhold => ⟨fun hlevel => ?_, fun hlevel => ?_, fun ms cause htimer hstate => ?_,
      fun hstate htimer => ?_⟩⟩
  · rw [exec_endMade hrun hlevel]
    exact congrArg Host.Outcome.next (if_pos hhold)
  · rw [exec_endBroken hrun hlevel]
    exact congrArg Host.Outcome.next (if_pos hhold)
  · obtain ⟨hopens, hsees⟩ := endMakes_cases (s := s.switched z true) (z := z) hhold
    have hparts : s.changesOnly [.inputs, .zone, .posts] (endMakes z (s.switched z true)) :=
      exec_changesOnly (exec_endMade hrun hlevel)
    have hinputs : (endMakes z (s.switched z true)).inputs = (s.switched z true).inputs := by
      have e : (endMakes z (s.switched z true)).hide [.zone, .posts] = (s.switched z true).hide [.zone, .posts] := by
        simp
      exact hide_eq_iff.1 e .inputs (by decide)
    refine ⟨_, exec_endMade hrun hlevel, hparts, hinputs, fun hstate => ?_, fun hstate => ?_⟩
    · rw [hopens hstate]
      refine ⟨formOutputs_plantFormed _, zones_eq_set fun y => ?_⟩
      rw [formOutputs_zones, zoneTo_entry]
      rfl
    · rw [hsees hstate]
      exact ⟨rfl, rfl⟩
  · obtain ⟨hcloses, hfaults, hsees⟩ := endBreaks_cases (s := s.switched z false) (z := z) hhold
    have hparts : s.changesOnly [.inputs, .loop, .zone, .link, .posts] (endBreaks z (s.switched z false)) :=
      exec_changesOnly (exec_endBroken hrun hlevel)
    have hinputs : (endBreaks z (s.switched z false)).inputs = (s.switched z false).inputs := by
      have e : (endBreaks z (s.switched z false)).hide [.loop, .zone, .link, .posts]
          = (s.switched z false).hide [.loop, .zone, .link, .posts] := by simp
      exact hide_eq_iff.1 e .inputs (by decide)
    refine ⟨_, exec_endBroken hrun hlevel, hparts, hinputs, fun hstate => ?_, fun hstate => ?_, fun hstate => ?_⟩
    · have hidled : ∀ zn : Zone, (s.switched z false).idled z zn
          = if zn.call then zn.moved .opening (s.travelTimer z) else zn.moved .idle .stopped := fun zn => by
        have hsupply : (s.switched z false).supply.hold = false := hhold
        unfold State.idled
        rw [switched_made, hsupply]
        cases zn.call <;> rfl
      rw [hcloses hstate]
      have hentry : ∀ y : Fin 6, (formOutputs (enterIdle z (s.switched z false))).zone.zones[y] = if y = z then
          (if s.zone.zones[z].call then s.zone.zones[z].moved .opening (s.travelTimer z)
            else s.zone.zones[z].moved .idle .stopped) else s.zone.zones[y] := fun y => by
        rw [formOutputs_zones, enterIdle_entry, hidled]
        rfl
      have hzones := zones_eq_set (s := s) (z := z) hentry
      refine ⟨formOutputs_plantFormed _, fun hcall => ?_, fun hcall => ?_⟩
      · rw [hzones, hcall]
        rfl
      · rw [hzones, hcall]
        rfl
    · obtain ⟨hformed, hnotice, hzones, howes⟩ := enterFault_faults z .switchLost (s.switched z false)
      rw [hfaults hstate]
      exact ⟨hformed, hnotice, hzones, howes⟩
    · rw [hsees hstate]
      exact ⟨rfl, rfl⟩
  · obtain ⟨hformed, hnotice, hzones, howes⟩ := enterFault_faults z cause s
    have hexec := exec_travelTimerExpiry hrun htimer hstate
    exact ⟨_, hexec, exec_changesOnly hexec, hformed, hnotice, hzones, howes⟩
  · have hexec := exec_faultRetryExpiry hrun hstate htimer
    obtain ⟨w, hw⟩ : ∃ w, w = if s.zone.zones[z].call then enterOpening z (retried z s) else retried z s :=
      ⟨_, rfl⟩
    have hwhide : w.hide [.zone, .posts] = (retried z s).hide [.zone, .posts] := by
      rw [hw]
      split <;> simp
    have hformed : (formOutputs w).hide [.zone, .posts] = w.hide [.zone, .posts] := by simp
    have hretried : (retried z s).hide [.loop] = (postNotice .zoneFault (zoneTo z .idle .stopped s)).hide [.loop] := by
      simp [retried]
    rw [← hw] at hexec
    refine ⟨_, hexec, exec_changesOnly hexec, formOutputs_plantFormed _, ?_, fun n hen hnode => ?_, fun hcall => ?_,
      fun hcall hopen => ?_, fun hcall hmade => ?_⟩
    · rw [hide_eq_iff.1 hformed .link (by decide), hide_eq_iff.1 hwhide .link (by decide),
        hide_eq_iff.1 hretried .link (by decide)]
      exact mem_insertNotice.2 (.inl rfl)
    · have hset : (postNotice .zoneFault (zoneTo z .idle .stopped s)).zoneSet z = s.sett.working.zones[z] := by
        have e : (postNotice .zoneFault (zoneTo z .idle .stopped s)).hide [.zone, .posts, .link]
            = s.hide [.zone, .posts, .link] := by simp
        exact congrArg (fun b : SetBlock => b.working.zones[z]) (hide_eq_iff.1 e .sett (by decide))
      refine owes_of_loop ((hide_eq_iff.1 hformed .loop (by decide)).trans (hide_eq_iff.1 hwhide .loop (by decide))) ?_
      exact writeToZoneNode_owes _ _ (by rw [hset]; exact hen) (by rw [hset]; exact hnode)
    · refine zones_eq_set fun y => ?_
      rw [formOutputs_zones, hw, hcall, if_neg Bool.false_ne_true, retried_entry]
    · have hnot : ¬ s.endIsMade z = true := by simpa [State.endIsMade] using hopen
      rw [formOutputs_zones, hw, hcall, if_pos rfl, retried_opens, if_neg hnot]
      rfl
    · have hmade' : s.endIsMade z = true := by simpa [State.endIsMade] using hmade
      rw [formOutputs_zones, hw, hcall, if_pos rfl, retried_opens, if_pos hmade']

end Sys2Proof.Machine
end

section
/-! PROOF. Calling the burner and withdrawing the call: what they post, and what they leave (O35, O36). -/

namespace Sys2Proof.Machine

variable {s t u : State}

/-! ## What calling and withdrawing post (R62, R74) -/

theorem burnTo_posts (st : BurnState) (s : State) : (burnTo st s).posts =
    if s.burn.state.calling = st.calling then s.posts else (postDemand 0 st.calling s).posts := by
  unfold burnTo
  dsimp only
  split <;> rfl

theorem postDemand_demand (ch : Fin 10) (v : Bool) (s : State) :
    (postDemand ch v s).posts.demand[ch] = s.posts.demand[ch] ++ [v] := by
  simp [postDemand, State.onPosts]

/-- What BURN's operations of the normal states leave of the tellings: all but the demands and the overrun's. -/
structure BurnKeeps {β : Type} (g : Posts → β) : Prop where
  demand : ∀ p d, g { p with demand := d } = g p
  overrun : ∀ p o, g { p with overrun := o } = g p

section Keeps
variable {β : Type} {g : Posts → β} (hg : BurnKeeps g)
include hg

theorem burnTo_keeps (st : BurnState) (s : State) : g (burnTo st s).posts = g s.posts := by
  rw [burnTo_posts]
  split
  · rfl
  · exact hg.demand _ _

theorem stopOverrun_keeps (s : State) : g (stopOverrun s).posts = g s.posts := by
  unfold stopOverrun
  split
  · exact hg.overrun _ _
  · rfl

theorem askOverrun_keeps (s : State) : g (askOverrun s).posts = g s.posts := by
  unfold askOverrun runOverrun
  dsimp only
  split
  · exact stopOverrun_keeps hg s
  · split
    · rfl
    · exact hg.overrun _ _

theorem enterCalled_keeps (s : State) : g (enterCalled s).posts = g s.posts := by
  have hcalled : ∀ f, g (stopOverrun ((burnTo .called s).onBurn f)).posts = g s.posts := fun f =>
    (stopOverrun_keeps hg _).trans (burnTo_keeps hg .called s)
  unfold enterCalled
  dsimp only
  split
  · exact (burnTo_keeps hg .firing _).trans (hcalled _)
  · exact hcalled _

theorem lookCall_keeps (s : State) : g (lookCall s).posts = g s.posts := by
  unfold lookCall
  split
  · exact enterCalled_keeps hg s
  · rfl

theorem goIdle_keeps (s : State) : g (goIdle s).posts = g s.posts := by
  unfold goIdle
  split
  · exact (lookCall_keeps hg _).trans (burnTo_keeps hg .idle s)
  · exact burnTo_keeps hg .inhibited s

theorem withdrawn_keeps (s : State) : g (withdrawn s).posts = g s.posts := by
  have hcycle : ∀ u : State, (addAntiCycle u).posts = u.posts := fun u => by
    unfold addAntiCycle
    split <;> rfl
  unfold withdrawn
  dsimp only
  split
  · refine (askOverrun_keeps hg _).trans ?_
    rw [hcycle]
    exact burnTo_keeps hg .stopping s
  · exact burnTo_keeps hg .stopping s

theorem withdraw_keeps (s : State) : g (withdraw s).posts = g s.posts := by
  rw [withdraw_eq]
  split
  · exact withdrawn_keeps hg s
  · exact (goIdle_keeps hg _).trans (withdrawn_keeps hg s)

theorem setReason_keeps (r : Reason) (v : Bool) (s : State) : g (setReason r v s).posts = g s.posts := by
  unfold setReason addReason removeReason
  dsimp only
  split
  · split
    · rfl
    · split
      · exact burnTo_keeps hg _ _
      · exact withdraw_keeps hg _
      · exact withdraw_keeps hg _
      · exact withdraw_keeps hg _
      · rfl
  · split
    · split
      · exact goIdle_keeps hg _
      · rfl
    · rfl

end Keeps

/-! ## The call (R67, R68) -/

theorem stopOverrun_burn (s : State) : (stopOverrun s).burn = { s.burn with
    overrun := false, overrunTimer := if s.burn.overrun then none else s.burn.overrunTimer } := by
  unfold stopOverrun
  split
  · rfl
  · next hstopped =>
    have hoff : s.burn.overrun = false := by simpa using hstopped
    rw [← hoff]

theorem stopOverrun_posts (s : State) : (stopOverrun s).posts.demand = s.posts.demand
    ∧ (stopOverrun s).posts.overrun = s.posts.overrun ++ (if s.burn.overrun then [false] else []) := by
  unfold stopOverrun
  split
  · exact ⟨rfl, rfl⟩
  · exact ⟨rfl, (List.append_nil _).symm⟩

/-- CALLED, before the oil valve is looked at (R67). -/
def calledClosed (s : State) : State :=
  stopOverrun ((burnTo .called s).onBurn fun b =>
    { b with firedInCall := false, ignitionTimer := secondsTimer s.par.ignition })

theorem enterCalled_eq (s : State) : enterCalled s =
    if s.valveOpen then enterFiring (calledClosed s) else calledClosed s := by
  have hinputs : (calledClosed s).inputs = s.inputs := by
    have e : (calledClosed s).hide [.burn, .posts] = s.hide [.burn, .posts] := by simp [calledClosed]
    exact hide_eq_iff.1 e .inputs (by decide)
  have hvalve : (calledClosed s).valveOpen = s.valveOpen := by rw [State.valveOpen, hinputs]; rfl
  rw [← hvalve]
  rfl

theorem calledClosed_posts (hnot : s.burn.state.calling = false) :
    (calledClosed s).posts.demand[(0 : Fin 10)] = s.posts.demand[(0 : Fin 10)] ++ [true]
      ∧ (calledClosed s).posts.overrun = s.posts.overrun ++ (if s.burn.overrun then [false] else []) := by
  have hne : ¬ s.burn.state.calling = BurnState.called.calling := by
    rw [hnot]
    decide
  have hposts : ((burnTo .called s).onBurn fun b =>
      { b with firedInCall := false, ignitionTimer := secondsTimer s.par.ignition }).posts
      = (postDemand 0 true s).posts := (burnTo_posts .called s).trans (if_neg hne)
  have hoverrun : (burnTo .called s).burn.overrun = s.burn.overrun := by rw [burnTo_burn]
  obtain ⟨hdemand, htold⟩ := stopOverrun_posts ((burnTo .called s).onBurn fun b =>
      { b with firedInCall := false, ignitionTimer := secondsTimer s.par.ignition })
  rw [hposts] at hdemand htold
  refine ⟨?_, ?_⟩
  · rw [calledClosed, hdemand]
    exact postDemand_demand 0 true s
  · rw [← hoverrun]
    exact htold

/-- The burner called from a state that does not call (R67, R68; log entry 15). -/
theorem enterCalled_calledFrom (hnot : s.burn.state.calling = false) : s.calledFrom (enterCalled s) := by
  obtain ⟨hdemand, hoverrun⟩ := calledClosed_posts hnot
  have hburn : (calledClosed s).burn = { s.burn with
      state := .called, stoppingLeft := false, proveTimer := none, firedInCall := false
      ignitionTimer := secondsTimer s.par.ignition, overrun := false
      overrunTimer := if s.burn.overrun then none else s.burn.overrunTimer } := by
    rw [calledClosed, stopOverrun_burn, onBurn_burn, burnTo_burn]
    simp [proveTimerAt]
  rw [enterCalled_eq]
  by_cases hopen : s.inputs.valve = some true
  · have hvalve : s.valveOpen = true := by simp [State.valveOpen, hopen]
    have hsame : (calledClosed s).burn.state.calling = BurnState.firing.calling := by rw [hburn]; rfl
    have hposts : (enterFiring (calledClosed s)).posts = (calledClosed s).posts :=
      (burnTo_posts .firing _).trans (if_pos hsame)
    have hfiring : (enterFiring (calledClosed s)).burn = { (burnTo .firing (calledClosed s)).burn with
      firedInCall := true, ignitionTimer := none } := rfl
    rw [if_pos hvalve, State.calledFrom, hposts, hfiring, burnTo_burn, hburn]
    exact ⟨hdemand, rfl, hoverrun, rfl, rfl, fun h => absurd hopen h, fun _ => ⟨rfl, rfl, rfl⟩⟩
  · have hvalve : ¬ s.valveOpen = true := by simpa [State.valveOpen] using hopen
    rw [if_neg hvalve, State.calledFrom, hburn]
    exact ⟨hdemand, rfl, hoverrun, rfl, rfl, fun _ => ⟨rfl, rfl, rfl⟩, fun h => absurd h hopen⟩

/-! ## The release (R66, R71, R74) -/

/-- What follows a released call in which the valve opened. -/
theorem afterFiring_release (s : State) : s.afterRelease true (afterFiring s) := by
  obtain ⟨v, hv⟩ : ∃ v, v = addAntiCycle s := ⟨_, rfl⟩
  have hvburn : v.burn = if s.par.minOff = 0 then s.burn else
      { s.burn with inhibit := s.burn.inhibit.put true .antiCycle, antiCycle := secondsTimer s.par.minOff } := by
    rw [hv, addAntiCycle]
    split <;> rfl
  have hcool : v.flowCool = s.flowCool := by
    rw [hv, addAntiCycle]
    split <;> rfl
  have hpar : v.par = s.par := by
    rw [hv, addAntiCycle]
    split <;> rfl
  have hasked : (afterFiring s).burn = if s.flowCool then (stopOverrun v).burn
      else { v.burn with overrun := true, overrunTimer := secondsTimer s.par.overMax } := by
    rw [afterFiring, ← hv, askOverrun, hcool, ← hpar]
    unfold runOverrun
    split
    · rfl
    · split <;> rfl
  have hkept : (afterFiring s).burn.inhibit = v.burn.inhibit ∧ (afterFiring s).burn.antiCycle = v.burn.antiCycle := by
    rw [hasked]
    split
    · rw [stopOverrun_burn]
      exact ⟨rfl, rfl⟩
    · exact ⟨rfl, rfl⟩
  obtain ⟨hinhibit, hcycle⟩ := hkept
  refine ⟨fun _ hmin => ?_, fun hmin => ?_, fun _ hbelow => ?_, fun _ habove => ?_, nofun⟩
  · rw [hinhibit, hcycle, hvburn, if_neg (show ¬ s.par.minOff = 0 from hmin)]
    exact ⟨rfl, rfl⟩
  · have hzero : s.par.minOff = 0 := hmin.resolve_left (by decide)
    rw [hinhibit, hcycle, hvburn, if_pos hzero]
    exact ⟨rfl, rfl⟩
  · obtain ⟨x, hx, hlow⟩ := hbelow
    have hcold : s.flowCool = true := by
      simp only [State.flowCool, hx]
      exact decide_eq_true hlow
    rw [hasked, if_pos hcold, stopOverrun_burn]
  · have hwarm : ¬ s.flowCool = true := by
      unfold State.flowCool
      split
      · next x hx => exact fun h => absurd (of_decide_eq_true h) (not_lt.2 (habove x hx))
      · decide
    rw [hasked, if_neg hwarm]
    exact ⟨rfl, rfl⟩

/-- A release reads of BURN nothing but the reason, its timer and the overrun. -/
theorem afterRelease_congr {fired : Bool} {w : State} (hinhibit : u.burn.inhibit.antiCycle = s.burn.inhibit.antiCycle)
    (hcycle : u.burn.antiCycle = s.burn.antiCycle) (hoverrun : u.burn.overrun = s.burn.overrun)
    (htimer : u.burn.overrunTimer = s.burn.overrunTimer) (hsett : u.sett = s.sett) (hflow : u.flowKnown = s.flowKnown)
    (hinhibit' : t.burn.inhibit.antiCycle = w.burn.inhibit.antiCycle)
    (hcycle' : t.burn.antiCycle = w.burn.antiCycle) (hoverrun' : t.burn.overrun = w.burn.overrun)
    (htimer' : t.burn.overrunTimer = w.burn.overrunTimer) (h : u.afterRelease fired w) : s.afterRelease fired t := by
  unfold State.afterRelease at h ⊢
  rw [hinhibit', hcycle', hoverrun', htimer', ← hinhibit, ← hcycle, ← hoverrun, ← htimer, ← hsett, ← hflow]
  exact h

/-! ## The withdrawal (R71, R72; log entries 47, 53) -/

/-- The call withdrawn, before what its release brings. -/
def stoppingEntered (s : State) : State :=
  (burnTo .stopping s).onBurn fun b => { b with ignitionTimer := none, stopTimer := secondsTimer stopSeconds }

theorem withdrawn_eq (s : State) : withdrawn s =
    if s.burn.firedInCall then afterFiring (stoppingEntered s) else stoppingEntered s := rfl

theorem stoppingEntered_burn (s : State) : (stoppingEntered s).burn = { s.burn with
    state := .stopping, stoppingLeft := false, proveTimer := none, ignitionTimer := none
    stopTimer := secondsTimer stopSeconds } := by
  rw [stoppingEntered, onBurn_burn, burnTo_burn]
  simp [proveTimerAt]

theorem afterFiring_timers (s : State) : (afterFiring s).burn.ignitionTimer = s.burn.ignitionTimer
    ∧ (afterFiring s).burn.stopTimer = s.burn.stopTimer ∧ (afterFiring s).posts.demand = s.posts.demand := by
  have hcycle : (addAntiCycle s).burn.ignitionTimer = s.burn.ignitionTimer
      ∧ (addAntiCycle s).burn.stopTimer = s.burn.stopTimer ∧ (addAntiCycle s).posts = s.posts := by
    unfold addAntiCycle
    split <;> exact ⟨rfl, rfl, rfl⟩
  obtain ⟨hignition, hstop, hposts⟩ := hcycle
  rw [← hignition, ← hstop, ← hposts]
  unfold afterFiring askOverrun runOverrun
  dsimp only
  split
  · rw [stopOverrun_burn, (stopOverrun_posts _).1]
    exact ⟨rfl, rfl, rfl⟩
  · split <;> exact ⟨rfl, rfl, rfl⟩

/-- The call withdrawn: CH0 is released, and what a call in which the valve opened leaves comes with it. -/
structure State.releases (s w : State) : Prop where
  demand : w.posts.demand[(0 : Fin 10)] = s.posts.demand[(0 : Fin 10)] ++ [false]
  state : w.burn.state = .stopping
  ignition : w.burn.ignitionTimer = none
  stop : w.burn.stopTimer = some 10000
  release : s.afterRelease s.burn.firedInCall w
  inhibit : s.burn.inhibit ≠ InhibitSet.empty → w.burn.inhibit ≠ InhibitSet.empty

theorem not_empty_of_has {i : InhibitSet} {r : Reason} (h : i.has r = true) : i ≠ InhibitSet.empty := by
  rintro rfl
  cases r <;> cases h

/-- What follows a release removes no reason. -/
theorem afterFiring_ne_empty (hset : s.burn.inhibit ≠ InhibitSet.empty) :
    (afterFiring s).burn.inhibit ≠ InhibitSet.empty := by
  rw [afterFiring, (askOverrun_kept _).2, addAntiCycle]
  split
  · exact hset
  · have hadded : (s.burn.inhibit.put true .antiCycle).has .antiCycle = true := (has_put _ _ _ _).trans (if_pos rfl)
    exact not_empty_of_has hadded

/-- A call in which the valve did not open leaves nothing behind it. -/
theorem afterRelease_refl (s : State) : s.afterRelease false s :=
  ⟨nofun, fun _ => ⟨rfl, rfl⟩, nofun, nofun, fun _ => ⟨rfl, rfl⟩⟩

theorem withdrawn_releases (hcalls : s.burn.state.calling = true) : s.releases (withdrawn s) := by
  have hne : ¬ s.burn.state.calling = BurnState.stopping.calling := by
    rw [hcalls]
    decide
  have hposts : (stoppingEntered s).posts = (postDemand 0 false s).posts :=
    (burnTo_posts .stopping s).trans (if_neg hne)
  have hdemand : (stoppingEntered s).posts.demand[(0 : Fin 10)] = s.posts.demand[(0 : Fin 10)] ++ [false] := by
    rw [hposts]
    exact postDemand_demand 0 false s
  have hburn := stoppingEntered_burn s
  have hflow : (stoppingEntered s).flowKnown = s.flowKnown := by
    have e : (stoppingEntered s).hide [.burn, .posts] = s.hide [.burn, .posts] := by simp [stoppingEntered]
    rw [State.flowKnown, hide_eq_iff.1 e .scan (by decide)]
    rfl
  have hsett : (stoppingEntered s).sett = s.sett := by
    have e : (stoppingEntered s).hide [.burn, .posts] = s.hide [.burn, .posts] := by simp [stoppingEntered]
    exact hide_eq_iff.1 e .sett (by decide)
  have hrelease : ∀ {fired w}, (stoppingEntered s).afterRelease fired w → s.afterRelease fired w :=
    afterRelease_congr (by rw [hburn]) (by rw [hburn]) (by rw [hburn]) (by rw [hburn]) hsett hflow rfl rfl rfl rfl
  rw [withdrawn_eq]
  cases hfired : s.burn.firedInCall with
  | true =>
    rw [if_pos rfl]
    obtain ⟨hignition, hstop, hkept⟩ := afterFiring_timers (stoppingEntered s)
    refine ⟨by rw [hkept]; exact hdemand, by rw [afterFiring_state, hburn], by rw [hignition, hburn],
      by rw [hstop, hburn]; rfl, by rw [hfired]; exact hrelease (afterFiring_release _), fun hset => ?_⟩
    exact afterFiring_ne_empty (by rw [hburn]; exact hset)
  | false =>
    rw [if_neg Bool.false_ne_true]
    exact ⟨hdemand, by rw [hburn], by rw [hburn], by rw [hburn]; rfl,
      by rw [hfired]; exact hrelease (afterRelease_refl _), fun hset => by rw [hburn]; exact hset⟩

/-- Without the call conditions BURN comes to rest (R63, R72). -/
theorem goIdle_rests (hno : s.burn.callConditions = false) :
    goIdle s = burnTo (if s.burn.inhibit.isEmpty then .idle else .inhibited) s := by
  have hidle : (burnTo .idle s).burn.callConditions = false := by
    rw [burnTo_burn]
    exact hno
  unfold goIdle
  split
  · unfold lookCall
    rw [if_neg (ne_true_of_eq_false hidle)]
  · rfl

/-- The call is withdrawn, and BURN does not call again at once (R71, R72). -/
theorem withdraw_withdrawnFrom (hcalls : s.burn.state.calling = true)
    (hno : s.burn.heat = false ∨ s.burn.pump = false ∨ s.burn.inhibit ≠ InhibitSet.empty) :
    s.withdrawnFrom (withdraw s) := by
  obtain ⟨w, hw⟩ : ∃ w, w = withdrawn s := ⟨_, rfl⟩
  obtain ⟨hdemand, hstate, hignition, hstop, hrelease, hreasons⟩ := hw ▸ withdrawn_releases hcalls
  have hsteady : w.burn.steady = s.burn.steady := hw ▸ withdrawn_steady s
  have hvalve : w.valveOpen = s.valveOpen := by
    have e : w.hide [.burn, .posts] = s.hide [.burn, .posts] := by
      rw [hw, withdrawn_eq]
      split <;> simp [stoppingEntered, afterFiring]
    rw [State.valveOpen, hide_eq_iff.1 e .inputs (by decide)]
    rfl
  have hwithdraw : withdraw s = if s.valveOpen then w
      else (goIdle (w.onBurn fun b => { b with stopTimer := none })).onBurn fun b =>
        { b with stoppingLeft := true } := by
    rw [withdraw_eq, ← hw, hvalve]
  rw [hwithdraw]
  by_cases hopen : s.inputs.valve = some true
  · have hvopen : s.valveOpen = true := by simp [State.valveOpen, hopen]
    rw [if_pos hvopen]
    exact ⟨hdemand, hignition, fun _ => ⟨hstate, hstop⟩, fun h => absurd hopen h, hrelease⟩
  · have hvclosed : ¬ s.valveOpen = true := by simpa [State.valveOpen] using hopen
    have hquiet : (w.onBurn fun b => { b with stopTimer := none }).burn.callConditions = false := by
      have hheat : w.burn.heat = s.burn.heat := steady_field Burn.heat (fun _ => rfl) hsteady
      have hpump : w.burn.pump = s.burn.pump := steady_field Burn.pump (fun _ => rfl) hsteady
      change (w.burn.heat && w.burn.inhibit.isEmpty && w.burn.pump) = false
      rw [hheat, hpump]
      obtain h | h | h := hno
      · rw [h]
        rfl
      · rw [h]
        exact Bool.and_false _
      · have hset : w.burn.inhibit.isEmpty = false :=
          Bool.eq_false_iff.2 fun hempty => hreasons h ((inhibit_isEmpty_iff _).1 hempty)
        rw [hset, Bool.and_false]
        rfl
    rw [if_neg hvclosed, goIdle_rests hquiet]
    have hsame : (w.onBurn fun b => { b with stopTimer := none }).burn.state.calling
        = BurnState.calling (if w.burn.inhibit.isEmpty then .idle else .inhibited) := by
      rw [onBurn_burn, hstate]
      split <;> rfl
    have hposts := (burnTo_posts (if w.burn.inhibit.isEmpty then .idle else .inhibited)
      (w.onBurn fun b => { b with stopTimer := none })).trans (if_pos hsame)
    have hburn := burnTo_burn (if w.burn.inhibit.isEmpty then .idle else .inhibited)
      (w.onBurn fun b => { b with stopTimer := none })
    unfold State.withdrawnFrom
    rw [onBurn_burn, onBurn_posts, onBurn_burn, hposts, hburn]
    refine ⟨hdemand, hignition, fun h => absurd h hopen,
      fun _ => ⟨rfl, rfl, fun hempty => ?_, fun hset => ?_⟩, ?_⟩
    · exact if_pos ((inhibit_isEmpty_iff _).2 hempty)
    · exact if_neg fun hempty => hset ((inhibit_isEmpty_iff _).1 hempty)
    · refine afterRelease_congr rfl rfl rfl rfl rfl rfl ?_ ?_ ?_ ?_ hrelease <;> rw [onBurn_burn, hburn] <;> rfl

end Sys2Proof.Machine
end

section
/-! PROOF. HEAT_REQUEST and PUMP_PROVEN at BURN (O36). -/

namespace Sys2Proof.Machine

variable {s t u : State} {v : Bool} {rest : List Bool}

/-! ## What calling reads of the state it is called from -/

/-- What a call and its withdrawal go by stands: the demands and the overrun's tellings, BURN's overrun, its call and
ANTI_CYCLE, the inputs, the settings and the flow. -/
structure State.asToCall (s u : State) : Prop where
  posts : u.posts.demand = s.posts.demand ∧ u.posts.overrun = s.posts.overrun
  overrun : u.burn.overrun = s.burn.overrun ∧ u.burn.overrunTimer = s.burn.overrunTimer
  call : u.burn.firedInCall = s.burn.firedInCall ∧ u.burn.starts = s.burn.starts
  cycle : u.burn.antiCycle = s.burn.antiCycle ∧ u.burn.inhibit.antiCycle = s.burn.inhibit.antiCycle
  inputs : u.inputs = s.inputs
  sett : u.sett = s.sett
  scan : u.scan = s.scan

namespace State.asToCall
variable (h : s.asToCall u)
include h

theorem called (hinhibit : u.burn.inhibit = s.burn.inhibit) (hcalled : u.calledFrom t) : s.calledFrom t := by
  obtain ⟨hdemand, hposted⟩ := h.posts
  unfold State.calledFrom at hcalled ⊢
  rwa [hdemand, hposted, h.inputs, h.sett, h.overrun.1, hinhibit, h.call.2] at hcalled

theorem withdrawn (hwithdrawn : u.withdrawnFrom t) : s.withdrawnFrom t := by
  have hflow : u.flowKnown = s.flowKnown := by rw [State.flowKnown, h.scan]; rfl
  obtain ⟨hposted, -⟩ := h.posts
  obtain ⟨hoverrun, htimer⟩ := h.overrun
  obtain ⟨hcycle, hreason⟩ := h.cycle
  unfold State.withdrawnFrom at hwithdrawn ⊢
  rw [hposted, h.inputs, h.call.1] at hwithdrawn
  obtain ⟨hdemand, hignition, hopen, hclosed, hrelease⟩ := hwithdrawn
  exact ⟨hdemand, hignition, hopen, hclosed,
    afterRelease_congr hreason hcycle hoverrun htimer h.sett hflow rfl rfl rfl rfl hrelease⟩

end State.asToCall

/-! ## The call conditions -/

theorem callConditions_iff (b : Burn) : b.callConditions = true ↔
    b.heat = true ∧ b.inhibit = InhibitSet.empty ∧ b.pump = true := by
  rw [Burn.callConditions, Bool.and_eq_true, Bool.and_eq_true, inhibit_isEmpty_iff, and_assoc]

/-- A burner in IDLE with its conditions is called. -/
theorem lookCall_calls (hidle : s.burn.state = .idle) (hcall : s.burn.callConditions = true) :
    s.calledFrom (lookCall s) := by
  rw [lookCall, if_pos hcall]
  exact enterCalled_calledFrom (by rw [hidle]; rfl)

/-! ## The heat request -/

theorem exec_heatRequest (hactive : s.burnActive = true) (hposted : s.posts.heat = v :: rest) :
    exec .heatRequest s = .next (burnTakesHeat v (s.onPosts fun p => { p with heat := rest })) := by
  refine congrArg Host.Outcome.next ((if_pos hactive).trans ?_)
  simp only [deliverHeat, hposted]

theorem burnTakesHeat_same (hsame : v = s.burn.heat) : burnTakesHeat v s = s := if_pos hsame

/-- A rise of the heat request calls a burner in IDLE whose other conditions stand. -/
theorem burnTakesHeat_rises (hoff : s.burn.heat = false) : burnTakesHeat true s =
    if s.burn.state = .idle then lookCall (s.onBurn fun b => { b with heat := true })
    else s.onBurn fun b => { b with heat := true } := by
  unfold burnTakesHeat
  rw [hoff]
  rfl

/-- A fall of the heat request withdraws the call, and is answered with the overrun state (R60, R71). -/
theorem burnTakesHeat_falls (hon : s.burn.heat = true) : burnTakesHeat false s =
    let u := if s.burn.state.calling then withdraw (s.onBurn fun b => { b with heat := false })
      else s.onBurn fun b => { b with heat := false }
    postOverrun u.burn.overrun u := by
  unfold burnTakesHeat
  rw [hon]
  rfl

theorem exec_pumpProven (hactive : s.burnActive = true) (hposted : s.posts.pump = v :: rest) :
    exec .pumpProven s = .next (burnTakesPump v (s.onPosts fun p => { p with pump := rest })) := by
  refine congrArg Host.Outcome.next ((if_pos hactive).trans ?_)
  simp only [deliverPump, hposted]

theorem burnTakesPump_same (hsame : v = s.burn.pump) : burnTakesPump v s = s := if_pos hsame

theorem burnTakesPump_rises (hoff : s.burn.pump = false) : burnTakesPump true s =
    if s.burn.state = .idle then lookCall (s.onBurn fun b => { b with pump := true })
    else s.onBurn fun b => { b with pump := true } := by
  unfold burnTakesPump
  rw [hoff]
  rfl

theorem burnTakesPump_falls (hon : s.burn.pump = true) : burnTakesPump false s =
    if s.burn.state.calling then withdraw (s.onBurn fun b => { b with pump := false })
    else s.onBurn fun b => { b with pump := false } := by
  unfold burnTakesPump
  rw [hon]
  rfl

/-- The tellings of the heat request stand through what BURN does with one. -/
theorem burnTakesHeat_heat (v : Bool) (s : State) : (burnTakesHeat v s).posts.heat = s.posts.heat := by
  have hkeeps : BurnKeeps Posts.heat := ⟨fun _ _ => rfl, fun _ _ => rfl⟩
  unfold burnTakesHeat
  dsimp only
  split
  · rfl
  · split
    · split
      · exact lookCall_keeps hkeeps _
      · rfl
    · split
      · exact withdraw_keeps hkeeps _
      · rfl

theorem burnTakesPump_pump (v : Bool) (s : State) : (burnTakesPump v s).posts.pump = s.posts.pump := by
  have hkeeps : BurnKeeps Posts.pump := ⟨fun _ _ => rfl, fun _ _ => rfl⟩
  unfold burnTakesPump
  dsimp only
  split
  · rfl
  · split
    · split
      · exact lookCall_keeps hkeeps _
      · rfl
    · split
      · exact withdraw_keeps hkeeps _
      · rfl

/-- BURN stores the heat request it is told. -/
theorem burnTakesHeat_told (v : Bool) (s : State) : (burnTakesHeat v s).burn.heat = v := by
  have hheat : ∀ {x y : State}, x.burn.steady = y.burn.steady → x.burn.heat = y.burn.heat :=
    fun e => steady_field Burn.heat (fun _ => rfl) e
  unfold burnTakesHeat
  dsimp only
  split
  · next hsame => exact hsame.symm
  · split
    · next hv =>
      split
      · unfold lookCall
        split
        · exact hheat (enterCalled_steady _)
        · rfl
      · rfl
    · split
      · exact hheat (withdraw_steady _)
      · rfl

theorem burnTakesPump_told (v : Bool) (s : State) : (burnTakesPump v s).burn.pump = v := by
  have hpump : ∀ {x y : State}, x.burn.steady = y.burn.steady → x.burn.pump = y.burn.pump :=
    fun e => steady_field Burn.pump (fun _ => rfl) e
  unfold burnTakesPump
  dsimp only
  split
  · next hsame => exact hsame.symm
  · split
    · split
      · unfold lookCall
        split
        · exact hpump (enterCalled_steady _)
        · rfl
      · rfl
    · split
      · exact hpump (withdraw_steady _)
      · rfl

/-- Without the conditions a rise only stands in BURN's entry. -/
theorem lookCall_waits (hno : s.burn.callConditions = false) : lookCall s = s :=
  if_neg (ne_true_of_eq_false hno)

theorem callConditions_false {b : Burn}
    (h : b.heat = false ∨ b.pump = false ∨ b.inhibit ≠ InhibitSet.empty) : b.callConditions = false := by
  refine Bool.eq_false_iff.2 fun hall => ?_
  obtain ⟨hheat, hempty, hpump⟩ := (callConditions_iff b).1 hall
  obtain h | h | h := h
  · rw [h] at hheat
    cases hheat
  · rw [h] at hpump
    cases hpump
  · exact h hempty

/-! ## A telling at BURN, by its value -/

/-- A telling taken off its list. -/
structure State.takesTelling (s p : State) : Prop where
  burn : p.burn = s.burn
  overrun : p.posts.overrun = s.posts.overrun
  asToCall : ∀ f : Burn → Burn, (∀ b, ∃ x y, f b = { b with heat := x, pump := y }) → s.asToCall (p.onBurn f)

theorem takesTelling_onPosts {f : Posts → Posts} (hdemand : (f s.posts).demand = s.posts.demand)
    (hoverrun : (f s.posts).overrun = s.posts.overrun) : s.takesTelling (s.onPosts f) where
  burn := rfl
  overrun := hoverrun
  asToCall g hg := by
    obtain ⟨x, y, hxy⟩ := hg s.burn
    have hburn : ((s.onPosts f).onBurn g).burn = { s.burn with heat := x, pump := y } := hxy
    refine ⟨⟨hdemand, hoverrun⟩, ?_, ?_, ?_, rfl, rfl, rfl⟩ <;> rw [hburn] <;> exact ⟨rfl, rfl⟩

section Telling
variable {p : State} (h : s.takesTelling p)
include h

/-- A rise of the heat request with the other conditions calls (R67). -/
theorem heat_calls (hoff : s.burn.heat = false) (hidle : s.burn.state = .idle) (hpump : s.burn.pump = true)
    (hempty : s.burn.inhibit = InhibitSet.empty) : s.calledFrom (burnTakesHeat true p) := by
  rw [burnTakesHeat_rises (h.burn ▸ hoff), if_pos (h.burn ▸ hidle)]
  refine (h.asToCall (fun b => { b with heat := true }) fun b => ⟨true, b.pump, rfl⟩).called ?_
    (lookCall_calls ?_ ?_)
  · rw [onBurn_burn, h.burn]
  · rw [onBurn_burn, h.burn]
    exact hidle
  · rw [callConditions_iff, onBurn_burn, h.burn]
    exact ⟨rfl, hempty, hpump⟩

/-- A rise without them only stands in BURN's entry. -/
theorem heat_waits (hno : s.burn.state ≠ .idle ∨ s.burn.pump = false ∨ s.burn.inhibit ≠ InhibitSet.empty) :
    (burnTakesHeat true p).burn = { s.burn with heat := true }
      ∧ (burnTakesHeat true p).posts.overrun = s.posts.overrun := by
  have hset : (p.onBurn fun b => { b with heat := true }).burn = { s.burn with heat := true } := by
    rw [onBurn_burn, h.burn]
  cases hheat : s.burn.heat with
  | true =>
    rw [burnTakesHeat_same (by rw [h.burn, hheat]), h.burn, ← hheat]
    exact ⟨rfl, h.overrun⟩
  | false =>
    rw [burnTakesHeat_rises (by rw [h.burn, hheat]), h.burn]
    split
    · next hidle =>
      have hno' : (p.onBurn fun b => { b with heat := true }).burn.callConditions = false := by
        rw [hset]
        exact callConditions_false (.inr (hno.resolve_left (not_not.2 hidle)))
      rw [lookCall_waits hno']
      exact ⟨hset, h.overrun⟩
    · exact ⟨hset, h.overrun⟩

/-- A fall in a calling state withdraws the call, and is answered (R60, R71). -/
theorem heat_withdraws (hon : s.burn.heat = true) (hcalls : s.burn.state.calling = true) :
    s.withdrawnFrom (burnTakesHeat false p) := by
  rw [burnTakesHeat_falls (h.burn ▸ hon), h.burn, hcalls]
  refine (h.asToCall (fun b => { b with heat := false }) fun b => ⟨false, b.pump, rfl⟩).withdrawn ?_
  refine withdraw_withdrawnFrom (s := p.onBurn fun b => { b with heat := false }) ?_ (.inl rfl)
  rw [onBurn_burn, h.burn]
  exact hcalls

theorem heat_falls (hon : s.burn.heat = true) (hnot : s.burn.state.calling = false) :
    (burnTakesHeat false p).burn = { s.burn with heat := false } := by
  rw [burnTakesHeat_falls (h.burn ▸ hon), h.burn, hnot]
  change (p.onBurn fun b => { b with heat := false }).burn = _
  rw [onBurn_burn, h.burn]

/-- A rise of pump proven with the other conditions calls (R67). -/
theorem pump_calls (hoff : s.burn.pump = false) (hidle : s.burn.state = .idle) (hheat : s.burn.heat = true)
    (hempty : s.burn.inhibit = InhibitSet.empty) : s.calledFrom (burnTakesPump true p) := by
  rw [burnTakesPump_rises (h.burn ▸ hoff), if_pos (h.burn ▸ hidle)]
  refine (h.asToCall (fun b => { b with pump := true }) fun b => ⟨b.heat, true, rfl⟩).called ?_
    (lookCall_calls ?_ ?_)
  · rw [onBurn_burn, h.burn]
  · rw [onBurn_burn, h.burn]
    exact hidle
  · rw [callConditions_iff, onBurn_burn, h.burn]
    exact ⟨hheat, hempty, rfl⟩

theorem pump_waits (hno : s.burn.state ≠ .idle ∨ s.burn.heat = false ∨ s.burn.inhibit ≠ InhibitSet.empty) :
    (burnTakesPump true p).burn = { s.burn with pump := true } := by
  have hset : (p.onBurn fun b => { b with pump := true }).burn = { s.burn with pump := true } := by
    rw [onBurn_burn, h.burn]
  cases hpump : s.burn.pump with
  | true => rw [burnTakesPump_same (by rw [h.burn, hpump]), h.burn, ← hpump]
  | false =>
    rw [burnTakesPump_rises (by rw [h.burn, hpump]), h.burn]
    split
    · next hidle =>
      have hno' : (p.onBurn fun b => { b with pump := true }).burn.callConditions = false := by
        rw [hset]
        exact callConditions_false ((hno.resolve_left (not_not.2 hidle)).imp id .inr)
      rw [lookCall_waits hno']
      exact hset
    · exact hset

theorem pump_withdraws (hon : s.burn.pump = true) (hcalls : s.burn.state.calling = true) :
    s.withdrawnFrom (burnTakesPump false p) := by
  rw [burnTakesPump_falls (h.burn ▸ hon), h.burn, hcalls]
  refine (h.asToCall (fun b => { b with pump := false }) fun b => ⟨b.heat, false, rfl⟩).withdrawn ?_
  refine withdraw_withdrawnFrom (s := p.onBurn fun b => { b with pump := false }) ?_ (.inr (.inl rfl))
  rw [onBurn_burn, h.burn]
  exact hcalls

theorem pump_falls (hnot : s.burn.state.calling = false) :
    (burnTakesPump false p).burn = { s.burn with pump := false } := by
  cases hpump : s.burn.pump with
  | false => rw [burnTakesPump_same (by rw [h.burn, hpump]), h.burn, ← hpump]
  | true =>
    rw [burnTakesPump_falls (h.burn ▸ hpump), h.burn, hnot]
    change (p.onBurn fun b => { b with pump := false }).burn = _
    rw [onBurn_burn, h.burn]

end Telling

/-- Every fall of the heat request is answered with the overrun state (R60). -/
theorem heat_answered (hon : s.burn.heat = true) :
    (burnTakesHeat false s).posts.overrun.getLast? = some (burnTakesHeat false s).burn.overrun := by
  rw [burnTakesHeat_falls hon]
  exact List.getLast?_concat

/-- Settles O36: the telling by its value, what stood before it, and BURN's state. -/
theorem callConditionsCallAndWithdraw : Obligations.CallConditionsCallAndWithdraw := by
  unfold Obligations.CallConditionsCallAndWithdraw
  intro v rest s hactive
  refine ⟨fun hposted => ?_, fun hposted => ?_⟩
  · have hexec := exec_heatRequest hactive hposted
    have htaken : s.takesTelling (s.onPosts fun q => { q with heat := rest }) := takesTelling_onPosts rfl rfl
    refine ⟨_, hexec, exec_changesOnly hexec, burnTakesHeat_heat _ _, burnTakesHeat_told _ _,
      ?_, ?_, ?_, ?_, ?_, ?_⟩
    · intro hsame
      rw [burnTakesHeat_same (s := s.onPosts fun q => { q with heat := rest }) hsame]
      exact ⟨rfl, rfl⟩
    · rintro rfl hoff hidle hpump hempty
      exact heat_calls htaken hoff hidle hpump hempty
    · rintro rfl hno
      exact heat_waits htaken hno
    · rintro rfl hon
      exact heat_answered hon
    · rintro rfl hon hcalls
      exact heat_withdraws htaken hon hcalls
    · rintro rfl hon hnot
      exact heat_falls htaken hon hnot
  · have hexec := exec_pumpProven hactive hposted
    have htaken : s.takesTelling (s.onPosts fun q => { q with pump := rest }) := takesTelling_onPosts rfl rfl
    refine ⟨_, hexec, exec_changesOnly hexec, burnTakesPump_pump _ _, burnTakesPump_told _ _, ?_, ?_, ?_, ?_, ?_⟩
    · intro hsame
      rw [burnTakesPump_same (s := s.onPosts fun q => { q with pump := rest }) hsame]
      exact ⟨rfl, rfl⟩
    · rintro rfl hoff hidle hheat hempty
      exact pump_calls htaken hoff hidle hheat hempty
    · rintro rfl hno
      exact pump_waits htaken hno
    · rintro rfl hon hcalls
      exact pump_withdraws htaken hon hcalls
    · rintro rfl hnot
      exact pump_falls htaken hnot

end Sys2Proof.Machine
end

section
/-! PROOF. OVERRUN_STATE and FUEL_STAGE at the blocks that take them (O35). -/

namespace Sys2Proof.Machine

variable {s t u : State} {z : Fin 6} {g : FuelStage} {rest : List FuelStage}

/-! ## What ZONE posts (R57, R59) -/

/-- What ZONE's operations leave of the tellings: all but the demands and the heat request's. -/
structure ZoneKeeps {β : Type} (g : Posts → β) : Prop where
  demand : ∀ p d, g { p with demand := d } = g p
  heat : ∀ p h, g { p with heat := h } = g p

namespace ZoneKeeps
variable {β : Type} {g : Posts → β} (hg : ZoneKeeps g)
include hg

theorem zoneTo (z : Fin 6) (st : ZoneState) (timer : ZoneTimer) (s : State) :
    g (zoneTo z st timer s).posts = g s.posts := by
  unfold Machine.zoneTo
  dsimp only
  split
  · rfl
  · exact hg.demand _ _

theorem formOutputs (s : State) : g (formOutputs s).posts = g s.posts := by
  have hheat : g (formHeat s).posts = g s.posts := by
    unfold formHeat
    split
    · rfl
    · exact hg.heat _ _
  rw [← hheat]
  unfold Machine.formOutputs formPump
  split
  · rfl
  · exact hg.demand _ _

theorem enterOpening (z : Fin 6) (s : State) : g (enterOpening z s).posts = g s.posts := by
  unfold Machine.enterOpening
  dsimp only
  split
  · exact (hg.zoneTo _ _ _ _).trans (hg.zoneTo _ _ _ _)
  · exact hg.zoneTo _ _ _ _

theorem enterClosing (z : Fin 6) (s : State) : g (enterClosing z s).posts = g s.posts := by
  have hidle : ∀ t : State, g (enterIdle z t).posts = g t.posts := fun t => by
    unfold enterIdle
    dsimp only
    split
    · exact (hg.enterOpening _ _).trans (hg.zoneTo _ _ _ _)
    · exact hg.zoneTo _ _ _ _
  unfold Machine.enterClosing
  dsimp only
  split
  · exact hg.zoneTo _ _ _ _
  · exact (hidle _).trans (hg.zoneTo _ _ _ _)

omit hg in
theorem eachZone {f : Fin 6 → State → State} (hf : ∀ z t, g (f z t).posts = g t.posts) (s : State) :
    g (eachZone f s).posts = g s.posts := by
  unfold Machine.eachZone
  generalize allZones = l
  induction l generalizing s with
  | nil => rfl
  | cons z rest ih => exact (ih (f z s)).trans (hf z s)

theorem closings {c : Fin 6 → State → Prop} [∀ z t, Decidable (c z t)] (s : State) :
    g (Machine.eachZone (fun z t => if c z t then Machine.enterClosing z t else t) s).posts = g s.posts := by
  refine ZoneKeeps.eachZone (fun z t => ?_) s
  split
  · exact hg.enterClosing z t
  · rfl

theorem closeHolds (s : State) : g (closeHolds s).posts = g s.posts :=
  hg.closings (c := fun z t => (t.zoneAt z).state = .hold) s

theorem closeOtherHolds (z : Fin 6) (s : State) : g (closeOtherHolds z s).posts = g s.posts :=
  hg.closings (c := fun y t => y ≠ z ∧ (t.zoneAt y).state = .hold) s

theorem formCall (z : Fin 6) (s : State) : g (formCall z s).posts = g s.posts := by
  have hrises : ∀ t : State, g (callRises z t).posts = g t.posts := fun t => by
    unfold callRises
    split
    · split
      · rfl
      · exact hg.enterOpening _ _
    · exact hg.zoneTo _ _ _ _
    · rfl
  have hfalls : ∀ t : State, g (callFalls z t).posts = g t.posts := fun t => by
    unfold callFalls
    split
    · exact hg.enterClosing _ _
    · split
      · exact hg.enterClosing _ _
      · exact (hg.zoneTo _ _ _ _).trans (hg.closeOtherHolds _ _)
    · rfl
  unfold Machine.formCall
  dsimp only
  split
  · rfl
  · refine (hg.formOutputs _).trans ?_
    split
    · exact hrises _
    · exact hfalls _

theorem evaluateCall (z : Fin 6) (s : State) : g (evaluateCall z s).posts = g s.posts := hg.formCall z _

theorem deriveTarget (z : Fin 6) (s : State) : g (deriveTarget z s).posts = g s.posts := by
  have hwrite : ∀ (i : Item) (v : Nat) (t : State), (writeToZoneNode z i v t).posts = t.posts := fun i v t =>
    hide_eq_iff.1 (hide_writeToZoneNode z i v t (F := [.loop]) (by decide)) .posts (by decide)
  unfold Machine.deriveTarget
  split
  · rfl
  · exact (hg.evaluateCall z _).trans (congrArg g (hwrite _ _ _))

end ZoneKeeps

/-! ## OVERRUN_STATE (R60) -/

theorem exec_overrunState {v : Bool} {rest : List Bool} (hrun : s.running = true)
    (hposted : s.posts.overrun = v :: rest) : exec .overrunState s
      = .next (zonesTakeOverrun v (s.onPosts fun p => { p with overrun := rest })) := by
  refine congrArg Host.Outcome.next ((if_pos hrun).trans ?_)
  simp only [deliverOverrun, hposted]

theorem zonesTakeOverrun_overrun (v : Bool) (s : State) :
    (zonesTakeOverrun v s).posts.overrun = s.posts.overrun ∧ (zonesTakeOverrun v s).zone.overrun = v := by
  have hkeeps : ZoneKeeps Posts.overrun := ⟨fun _ _ => rfl, fun _ _ => rfl⟩
  obtain ⟨u, hu⟩ : ∃ u, u = s.onZoneBlock fun b => { b with overrun := v } := ⟨_, rfl⟩
  have hplans : u.samePlans (closeHolds u) := (State.samePlans.refl u).foldl fun _ _ h => h.enterClosing.ite h
  have htold : u.zone.overrun = v := by rw [hu]; rfl
  have hposts : u.posts = s.posts := by rw [hu]; rfl
  unfold zonesTakeOverrun
  dsimp only
  rw [← hu, hkeeps.formOutputs, ← htold, ← hposts]
  have hformed : ∀ w : State, (formOutputs w).zone.overrun = w.zone.overrun := fun w =>
    (State.samePlans.refl w).formOutputs.2.1
  rw [hformed]
  split
  · exact ⟨rfl, rfl⟩
  · exact ⟨hkeeps.closeHolds u, hplans.2.1⟩

/-- Stopped, the overrun takes every zone out of HOLD, and leaves the others (R60). -/
theorem zonesTakeOverrun_entry (v : Bool) (s : State) (y : Fin 6) : (zonesTakeOverrun v s).zone.zones[y] =
    if v = false ∧ s.zone.zones[y].state = .hold then s.closed y s.zone.zones[y] else s.zone.zones[y] := by
  unfold zonesTakeOverrun
  dsimp only
  rw [formOutputs_zones]
  cases v with
  | true => simp
  | false =>
    have hentry := closeHolds_entry y (s.onZoneBlock fun b => { b with overrun := false })
    rw [onZoneBlock_zone] at hentry
    rw [if_neg Bool.false_ne_true, hentry]
    simp only [true_and]
    rfl

/-! ## FUEL_STAGE, one block after the other (R132; log entry 9) -/

theorem exec_fuelStage (hrun : s.running = true) (ws : List StageTaker) :
    exec (.fuelStage ws) s = .next (ws.foldl (fun u who => deliverStage who u) s) :=
  congrArg Host.Outcome.next (if_pos hrun)

theorem exec_fuelStage_cons {w : StageTaker} {ws : List StageTaker} (hrun : s.running = true)
    (hfirst : exec (.fuelStage [w]) s = .next t) : exec (.fuelStage (w :: ws)) s = exec (.fuelStage ws) t := by
  have hparts := exec_changesOnly hfirst
  have hphase : t.running = true := by
    rw [State.running, show t.phase = s.phase from hparts .phase (by simp [Instr.touches])]
    exact hrun
  rw [exec_fuelStage hrun] at hfirst ⊢
  rw [exec_fuelStage hphase, ← Host.Outcome.next.inj hfirst]
  rfl

theorem exec_fuelStage_burn (hrun : s.running = true) (hposted : s.posts.stageBurn = g :: rest) :
    exec (.fuelStage [.burn]) s = .next (burnTakesStage g (s.onPosts fun p => { p with stageBurn := rest })) := by
  rw [exec_fuelStage hrun]
  simp only [List.foldl_cons, List.foldl_nil, deliverStage, hposted]

theorem exec_fuelStage_zone (hrun : s.running = true) (hposted : s.posts.stageZone = g :: rest) :
    exec (.fuelStage [.zone]) s = .next (zonesTakeStage g (s.onPosts fun p => { p with stageZone := rest })) := by
  rw [exec_fuelStage hrun]
  simp only [List.foldl_cons, List.foldl_nil, deliverStage, hposted]

theorem exec_fuelStage_loop (hrun : s.running = true) (hposted : s.posts.stageLoop = g :: rest) :
    exec (.fuelStage [.loop]) s = .next (loopTakesStage g (s.onPosts fun p => { p with stageLoop := rest })) := by
  rw [exec_fuelStage hrun]
  simp only [List.foldl_cons, List.foldl_nil, deliverStage, hposted]

/-! ## FUEL_STAGE at BURN (R64) -/

theorem addReason_calling {r : Reason} (hout : s.burn.inhibit.has r = false) (hcalls : s.burn.state.calling = true) :
    addReason r s = withdraw (s.onBurn fun b => { b with inhibit := b.inhibit.put true r }) := by
  unfold addReason
  rw [if_neg (ne_true_of_eq_false hout)]
  cases hstate : s.burn.state <;> rw [hstate] at hcalls <;> trivial

theorem addReason_idle {r : Reason} (hout : s.burn.inhibit.has r = false) (hidle : s.burn.state = .idle) :
    (addReason r s).burn.state = .inhibited := by
  unfold addReason
  rw [if_neg (ne_true_of_eq_false hout), hidle]
  exact congrArg Burn.state (burnTo_burn .inhibited _)

/-- A call that DRY withdraws (R64, R71). -/
theorem burnTakesStage_withdraws (h : s.asToCall u) (hstate : u.burn.state.calling = true)
    (hout : u.burn.inhibit.has .fuelDry = false) : s.withdrawnFrom (addReason .fuelDry u) := by
  rw [addReason_calling hout hstate]
  have hadded : (u.burn.inhibit.put true .fuelDry).has .fuelDry = true := (has_put _ _ _ _).trans (if_pos rfl)
  refine State.asToCall.withdrawn (u := u.onBurn fun b => { b with inhibit := b.inhibit.put true .fuelDry })
    ⟨h.posts, h.overrun, h.call, h.cycle, h.inputs, h.sett, h.scan⟩ ?_
  exact withdraw_withdrawnFrom hstate (.inr (.inr (not_empty_of_has hadded)))

/-- A burner inhibited comes to rest once the reason is gone (R63). -/
theorem removeReason_atRest {r : Reason} (hin : s.burn.inhibit.has r = true) (hstate : s.burn.state = .inhibited) :
    s.atRest (removeReason r s) := by
  unfold removeReason
  rw [if_pos hin]
  dsimp only
  split
  · exact goIdle_atRest _
  · next hnot =>
    refine ⟨fun _ => hstate, fun hempty => ?_⟩
    exact absurd ⟨hstate, (inhibit_isEmpty_iff _).2 hempty⟩ hnot

/-! ## FUEL_STAGE at LOOP (R44) -/

/-- What is owed to a node is owed still after any node's write of the same item and value. -/
theorem internalWrite_keeps {m n : Fin 15} {i : Item} {v : Nat} (h : s.owes m i v) :
    (internalWrite n i v s).owes m i v := by
  by_cases hm : m = n
  · rw [hm]
    exact internalWrite_owes n i v s
  unfold internalWrite
  split
  · next q hq =>
    obtain ⟨e, he, hnode, hitem, hvalue⟩ | hstale := h
    · refine .inl ?_
      have hother : e.sameAs n i = false := Bool.eq_false_iff.2 fun hsame =>
        hm (hnode.symm.trans (sameAs_iff.1 hsame).1)
      unfold queueWrite at hq
      split at hq
      · cases hq
        exact ⟨e, List.mem_map.2 ⟨e, he, if_neg (ne_true_of_eq_false hother)⟩, hnode, hitem, hvalue⟩
      · split at hq
        · cases hq
          exact ⟨e, List.mem_append_left _ he, hnode, hitem, hvalue⟩
        · cases hq
    · exact .inr hstale
  · obtain hqueued | hstale := h
    · exact .inl hqueued
    · refine .inr ?_
      rw [onNode_entry, if_neg hm]
      exact hstale

/-- Of the nodes of a list, every bound one is owed the item (R44). -/
theorem writes_owe {i : Item} {v : Nat} {n : Fin 15} (hring : s.sameRing u) (hbound : s.loop.nodes[n].zone ≠ none)
    (l : List (Fin 15)) (h : n ∈ l ∨ u.owes n i v) :
    (l.foldl (fun t m => if (t.nodeAt m).zone.isSome then internalWrite m i v t else t) u).owes n i v := by
  induction l generalizing u with
  | nil => exact h.resolve_left List.not_mem_nil
  | cons m rest ih =>
    rw [List.foldl_cons]
    have hnext : s.sameRing (if (u.nodeAt m).zone.isSome then internalWrite m i v u else u) := by
      split
      · exact hring.internalWrite
      · exact hring
    refine ih hnext ?_
    obtain hmem | howed := h
    · obtain rfl | hmem := List.mem_cons.1 hmem
      · have hzone : (u.nodeAt n).zone = s.loop.nodes[n].zone := told_field Node.zone (fun _ => rfl) (hring.2 n)
        have hsome : (u.nodeAt n).zone.isSome = true := by
          rw [hzone]
          exact Option.isSome_iff_ne_none.2 hbound
        rw [if_pos hsome]
        exact .inr (internalWrite_owes n i v u)
      · exact .inl hmem
    · refine .inr ?_
      split
      · exact internalWrite_keeps howed
      · exact howed

theorem loopTakesStage_around (g : FuelStage) (s : State) :
    (loopTakesStage g s).posts = s.posts ∧ (loopTakesStage g s).loop.stage = g := by
  have e : (loopTakesStage g s).hide [.loop] = s.hide [.loop] := by simp
  refine ⟨hide_eq_iff.1 e .posts (by decide), ?_⟩
  unfold loopTakesStage
  have hwrite : ∀ (n : Fin 15) (t : State), (internalWrite n .oilLamp g.code t).loop.stage = t.loop.stage :=
      fun n t => by
    unfold internalWrite
    split <;> rfl
  have hfold : ∀ (l : List (Fin 15)) (t : State), (l.foldl (fun t n => if (t.nodeAt n).zone.isSome
      then internalWrite n .oilLamp g.code t else t) t).loop.stage = t.loop.stage := fun l => by
    induction l with
    | nil => exact fun _ => rfl
    | cons n rest ih =>
      intro t
      rw [List.foldl_cons, ih]
      split
      · exact hwrite n t
      · rfl
  rw [hfold]
  rfl

/-! ## FUEL_STAGE at ZONE (R48) -/

theorem zonesTakeStage_parts (g : FuelStage) (s : State) : (zonesTakeStage g s).posts.stageZone = s.posts.stageZone
    ∧ (zonesTakeStage g s).zone.stage = g ∧ (zonesTakeStage g s).plantFormed
    ∧ ∀ z : Fin 6, (zonesTakeStage g s).zone.zones[z].target = (zonesTakeStage g s).targetByRule z := by
  have hkeeps : ZoneKeeps Posts.stageZone := ⟨fun _ _ => rfl, fun _ _ => rfl⟩
  obtain ⟨u, hu⟩ : ∃ u, u = s.onZoneBlock fun b => { b with stage := g } := ⟨_, rfl⟩
  obtain ⟨w, hw⟩ : ∃ w, w = eachZone deriveTarget u := ⟨_, rfl⟩
  have htakes : zonesTakeStage g s = formOutputs w := by rw [hw, hu]; rfl
  have e : (formOutputs w).hide [.zone, .posts] = w.hide [.zone, .posts] := by simp
  have hposts : w.posts.stageZone = s.posts.stageZone := by
    rw [hw, ZoneKeeps.eachZone hkeeps.deriveTarget, hu]
    rfl
  have hretargets := State.retargets.foldl (m := allZones) State.retargets.deriveTarget (State.retargets.nil u)
  have hstage : w.zone.stage = g := by
    rw [hw]
    refine hretargets.2.2.1.trans ?_
    rw [hu]
    rfl
  have hplans := (State.samePlans.refl w).formOutputs
  rw [htakes]
  refine ⟨(hkeeps.formOutputs w).trans hposts, hplans.1.trans hstage, formOutputs_plantFormed w, fun z => ?_⟩
  refine target_of_samePlans (by rw [hide_eq_iff.1 e .out (by decide)]) (hide_eq_iff.1 e .sett (by decide)) hplans ?_
  rw [hw]
  exact eachZone_targets State.retargets.deriveTarget u z

/-- Settles O35: the overrun at ZONE, and the stage at each block that takes it. -/
theorem tellingsReachTheirTakers : Obligations.TellingsReachTheirTakers := by
  unfold Obligations.TellingsReachTheirTakers
  refine ⟨fun v rest s hrun hposted => ?_, fun g rest s hrun => ⟨fun w ws t => exec_fuelStage_cons hrun,
    exec_fuelStage hrun [], fun hposted => ?_, fun hposted => ?_, fun hposted => ?_⟩⟩
  · have hexec := exec_overrunState hrun hposted
    obtain ⟨htaken, htold⟩ := zonesTakeOverrun_overrun v (s.onPosts fun p => { p with overrun := rest })
    have hentry := zonesTakeOverrun_entry v (s.onPosts fun p => { p with overrun := rest })
    refine ⟨_, hexec, exec_changesOnly hexec, htaken, htold, formOutputs_plantFormed _, ?_, ?_⟩
    · rintro rfl
      refine Vector.ext fun i hi => ?_
      exact (hentry ⟨i, hi⟩).trans (if_neg fun h => Bool.false_ne_true h.1.symm)
    · rintro rfl
      refine fun z => ⟨?_, fun hout => ?_, fun hhold hmade => ?_⟩
      · rw [hentry z]
        split
        · exact closed_state_ne_hold _ _ _
        · next hout => exact fun hhold => hout ⟨rfl, hhold⟩
      · exact (hentry z).trans (if_neg fun h => hout h.2)
      · refine (hentry z).trans ((if_pos ⟨rfl, hhold⟩).trans (if_pos ?_))
        simp [State.endIsMade, hmade]
  · have hexec := exec_fuelStage_burn hrun hposted
    obtain ⟨u, hu⟩ : ∃ u, u = (s.onPosts fun p => { p with stageBurn := rest }).onBurn
      fun b => { b with stage := g } := ⟨_, rfl⟩
    have htakes : burnTakesStage g (s.onPosts fun p => { p with stageBurn := rest })
        = setReason .fuelDry (g == .dry) u := by rw [hu]; rfl
    have hstays : u.posts.stageBurn = rest ∧ u.burn.stage = g ∧ u.burn.inhibit = s.burn.inhibit
        ∧ u.burn.state = s.burn.state := by
      rw [hu]
      exact ⟨rfl, rfl, rfl, rfl⟩
    obtain ⟨hposts, hstage, hinhibit, hstate⟩ := hstays
    have hasTo : s.asToCall u := by
      rw [hu]
      exact ⟨⟨rfl, rfl⟩, ⟨rfl, rfl⟩, ⟨rfl, rfl⟩, ⟨rfl, rfl⟩, rfl, rfl, rfl⟩
    rw [htakes] at hexec
    have e : (setReason .fuelDry (g == .dry) u).hide [.burn, .posts] = s.hide [.burn, .posts] := by simp [hu]
    refine ⟨_, hexec, hide_eq_iff.1 e,
      (setReason_keeps (g := Posts.stageBurn) ⟨fun _ _ => rfl, fun _ _ => rfl⟩ _ _ u).trans hposts,
      (steady_field Burn.stage (fun _ => rfl) (setReason_steady _ _ u)).trans hstage, ?_, ?_, ?_⟩
    · have hdry := setReason_has .fuelDry (g == .dry) (r' := .fuelDry) (by decide) u
      rw [if_pos rfl] at hdry
      change (setReason .fuelDry (g == .dry) u).burn.inhibit.has .fuelDry = true ↔ g = .dry
      rw [hdry]
      exact beq_iff_eq
    · rintro rfl hout
      have hnot : u.burn.inhibit.has .fuelDry = false := by rw [hinhibit]; exact hout
      exact ⟨fun hcalls => burnTakesStage_withdraws hasTo (hstate ▸ hcalls) hnot,
        fun hidle => addReason_idle hnot (hstate ▸ hidle)⟩
    · intro hwet hin hstopped
      have hremoves : setReason .fuelDry (g == .dry) u = removeReason .fuelDry u :=
        if_neg fun h => hwet (beq_iff_eq.1 h)
      have hrests := removeReason_atRest (s := u) (r := .fuelDry) (by rw [hinhibit]; exact hin) (hstate ▸ hstopped)
      rw [hremoves]
      unfold State.atRest at hrests ⊢
      rw [hasTo.inputs] at hrests
      exact hrests
  · have hexec := exec_fuelStage_zone hrun hposted
    obtain ⟨htaken, hstage, hformed, htargets⟩ :=
      zonesTakeStage_parts g (s.onPosts fun p => { p with stageZone := rest })
    have e : (zonesTakeStage g (s.onPosts fun p => { p with stageZone := rest })).hide [.loop, .zone, .posts]
        = s.hide [.loop, .zone, .posts] := by simp
    exact ⟨_, hexec, hide_eq_iff.1 e, htaken, hstage, hformed, htargets⟩
  · have hexec := exec_fuelStage_loop hrun hposted
    obtain ⟨hposts, hstage⟩ := loopTakesStage_around g (s.onPosts fun p => { p with stageLoop := rest })
    have e : (loopTakesStage g (s.onPosts fun p => { p with stageLoop := rest })).hide [.loop, .posts]
        = s.hide [.loop, .posts] := by simp
    refine ⟨_, hexec, hide_eq_iff.1 e, by rw [hposts]; rfl, hstage, fun n hbound => ?_⟩
    have hring : s.sameRing ((s.onPosts fun p => { p with stageLoop := rest }).onLoop fun l => { l with stage := g }) :=
      ⟨rfl, fun _ => rfl⟩
    exact writes_owe hring hbound allNodes (.inl (mem_allNodes n))

end Sys2Proof.Machine
end

section
/-! PROOF. A pass completion at GAUGE, FUEL, BURN and ZONE (O23): stage 3 at the jobs. -/

namespace Sys2Proof.Machine

variable {s t u : State} {p : PassCounts} {ref : Bool}

/-! ## What the currents leave of the flow's acts (R58, R65) -/

/-- What the flow temperature has brought about: OVERHEAT and the boiler-frost call. -/
def State.flowActs (s : State) : Bool × Bool := (s.burn.inhibit.overheat, s.zone.boilerFrost)

theorem flowActs_of_hide {F : List Block} (e : t.hide F = s.hide F) (hzone : Block.zone ∉ F) (hburn : Block.burn ∉ F) :
    t.flowActs = s.flowActs := by
  rw [State.flowActs, hide_eq_iff.1 e .zone hzone, hide_eq_iff.1 e .burn hburn]
  rfl

theorem formOutputs_boilerFrost (s : State) : (formOutputs s).zone.boilerFrost = s.zone.boilerFrost :=
  (State.samePlans.refl s).formOutputs.2.2.1

theorem zoneChannelFault_flowActs (z : Fin 6) (s : State) : (zoneChannelFault z s).flowActs = s.flowActs := by
  have e : (zoneChannelFault z s).hide [.loop, .zone, .link, .posts] = s.hide [.loop, .zone, .link, .posts] := by simp
  have hfault : (enterFault z .channel s).zone.boilerFrost = s.zone.boilerFrost := by
    unfold enterFault
    rw [writeToZoneNode_zone]
    exact (State.samePlans.refl s).zoneTo.2.2.1
  rw [State.flowActs, hide_eq_iff.1 e .burn (by decide)]
  refine congrArg (Prod.mk s.burn.inhibit.overheat) ?_
  unfold zoneChannelFault
  split
  · rfl
  · rw [formOutputs_boilerFrost, hfault]

theorem tellLoad_flowActs (ch : Fin 10) (new : LoadState) (s : State) : (tellLoad ch new s).flowActs = s.flowActs := by
  unfold tellLoad
  split
  · split
    · exact zoneChannelFault_flowActs _ s
    · rfl
  · split
    · have e : (setReason .pump new.faulty s).hide [.burn, .posts] = s.hide [.burn, .posts] := by simp
      have hkept : (setReason .pump new.faulty s).burn.inhibit.overheat = s.burn.inhibit.overheat :=
        setReason_has .pump new.faulty (r' := .overheat) (by decide) s
      rw [State.flowActs, hkept, hide_eq_iff.1 e .zone (by decide)]
      rfl
    · split <;> rfl

theorem setLoad_flowActs (ch : Fin 10) (new : LoadState) (s : State) : (setLoad ch new s).flowActs = s.flowActs := by
  by_cases hnew : new = s.out.channels[ch].load
  · exact congrArg State.flowActs (if_pos hnew)
  · exact (flowActs_of_hide (setLoad_hide hnew) (by decide) (by decide)).trans (tellLoad_flowActs ch new _)

theorem judge_flowActs (ch : Fin 10) (ma : Nat) (s : State) : (judge ch ma s).flowActs = s.flowActs := by
  have hset : ∀ (new : LoadState) (f : Channel → Channel),
      (setLoad ch new (s.onChan ch f)).flowActs = s.flowActs := fun new f => setLoad_flowActs ch new (s.onChan ch f)
  have hresolve : ∀ v : State, (resolveChannel ch v).flowActs = v.flowActs := fun v =>
    flowActs_of_hide (hide_resolveChannel ch v (F := [.out, .posts]) (by decide) (by decide)) (by decide) (by decide)
  unfold judge judgeLow judgeHigh judgeWithin judgeLeaking judgeQuiet
  dsimp only
  repeat' split
  · exact hset _ _
  · rfl
  · rfl
  · exact (hresolve _).trans (hset _ _)
  · rfl
  · exact hset _ _
  · rfl
  · exact hset _ _
  · rfl
  · exact hset _ _
  · rfl

theorem takeCurrent_flowActs (ch : Fin 10) (ma : Nat) (s : State) : (takeCurrent ch ma s).flowActs = s.flowActs := by
  unfold takeCurrent
  repeat' split
  · rfl
  · rfl
  · rfl
  · exact judge_flowActs ch ma s

theorem outTakesPass_flowActs (s : State) : (outTakesPass s).flowActs = s.flowActs := by
  have hpump : ∀ v : State, (evaluatePump v).flowActs = v.flowActs := fun v =>
    flowActs_of_hide (hide_evaluatePump v (F := [.out, .posts]) (by decide) (by decide)) (by decide) (by decide)
  unfold outTakesPass eachChannel
  exact (hpump _).trans (foldl_keeps State.flowActs (fun v ch => takeCurrent_flowActs ch _ v) _ s)

/-! ## The offers, one by one -/

/-- GAUGE once it has taken a pass (R105, R106). -/
def Gauge.taking (c : Scan) (hold : Bool) (g : Gauge) : Gauge :=
  let h := { g with heldTemp := match c.tankTemp.state, c.tankTemp.reading with
    | .valid, some (_, t) => some t
    | _, _ => g.heldTemp }
  if hold then h
  else if 15 ≤ h.counter + 1 then { h with counter := 0, due := some (c.probe.count.getD 0, c.measureFault) }
  else { h with counter := h.counter + 1 }

theorem gaugeTakesPass_gauge (s : State) : (gaugeTakesPass s).gauge = s.gauge.taking s.scan s.supply.hold := rfl

/-- What a pass gives of GAUGE's window and value: nothing. -/
theorem taking_samples (c : Scan) (hold : Bool) (g : Gauge) : g.taking c hold =
    { g with
      counter := (g.taking c hold).counter, due := (g.taking c hold).due
      heldTemp := (g.taking c hold).heldTemp } := by
  unfold Gauge.taking
  dsimp only
  split
  · rfl
  · split <;> rfl

theorem taking_held (c : Scan) (g : Gauge) :
    (g.taking c true).counter = g.counter ∧ (g.taking c true).due = g.due := ⟨rfl, rfl⟩

theorem taking_counts {g : Gauge} (c : Scan) (h : g.counter < 14) :
    (g.taking c false).counter = g.counter + 1 ∧ (g.taking c false).due = g.due := by
  have hnot : ¬ 15 ≤ g.counter + 1 := by omega
  have htaking : g.taking c false = { g with heldTemp := (g.taking c false).heldTemp, counter := g.counter + 1 } := by
    simp only [Gauge.taking, Bool.false_eq_true, if_false, if_neg hnot]
  rw [htaking]
  exact ⟨rfl, rfl⟩

theorem taking_due {g : Gauge} (c : Scan) (h : 14 ≤ g.counter) : (g.taking c false).counter = 0
    ∧ (g.taking c false).due = some (c.probe.count.getD 0, c.measureFault) := by
  have hdue : 15 ≤ g.counter + 1 := by omega
  simp only [Gauge.taking, Bool.false_eq_true, if_false, if_pos hdue, and_self]

theorem taking_heldTemp (c : Scan) (hold : Bool) (g : Gauge) : (g.taking c hold).heldTemp =
    match c.tankTemp.state, c.tankTemp.reading with
    | .valid, some (_, t) => some t
    | _, _ => g.heldTemp := by
  unfold Gauge.taking
  dsimp only
  split
  · rfl
  · split <;> rfl

/-- The line heat after an offer of the tank temperature (R133). -/
def State.lineHeatOffered (s : State) : Bool :=
  lineHeatOf s.fuel.lineHeat s.sett.working.wax s.scan.tankTemp.state (s.scan.tankTemp.reading.map Prod.snd)

theorem evaluateLineHeat_fuel (s : State) :
    (evaluateLineHeat s).fuel = { s.fuel with lineHeat := s.lineHeatOffered } := by
  unfold evaluateLineHeat State.lineHeatOffered
  dsimp only
  split
  · next hsame =>
    have hkept : lineHeatOf s.fuel.lineHeat s.sett.working.wax s.scan.tankTemp.state
      (s.scan.tankTemp.reading.map Prod.snd) = s.fuel.lineHeat := hsame
    rw [hkept]
  · rfl

/-- OVERHEAT by the flow temperature (R65). -/
def overheatOf (held : Bool) : Option Int → Bool
  | none => held
  | some x => if 950 ≤ x then true else if x < 850 then false else held

theorem evaluateOverheat_overheat (s : State) :
    (evaluateOverheat s).burn.inhibit.overheat = overheatOf s.burn.inhibit.overheat s.flowKnown := by
  unfold evaluateOverheat
  cases s.flowKnown with
  | none => rfl
  | some x =>
    dsimp only [overheatOf]
    split
    · exact (addReason_has .overheat (r' := .overheat) (by decide) s).trans (if_pos rfl)
    · split
      · exact (removeReason_has .overheat .overheat s).trans (if_pos rfl)
      · rfl

theorem burnTakesFlow_overheat (s : State) :
    (burnTakesFlow s).burn.inhibit.overheat = (evaluateOverheat s).burn.inhibit.overheat := by
  unfold burnTakesFlow
  dsimp only
  split
  · rw [stopOverrun_inhibit]
  · rfl

theorem evaluateBoilerFrost_boilerFrost (s : State) :
    (evaluateBoilerFrost s).zone.boilerFrost = boilerFrostOf s.zone.boilerFrost s.flowKnown := by
  unfold evaluateBoilerFrost
  dsimp only
  split
  · next hsame => exact hsame.symm
  · rw [formOutputs_boilerFrost]
    unfold driveSink
    exact (State.samePlans.refl _).formCall.2.2.1

/-! ## Stage 3 as a whole -/

/-- The pass at the jobs: GAUGE, FUEL, BURN and ZONE as the offers leave them, from the state before them. -/
structure State.offers (b t : State) : Prop where
  gauge : t.gauge = b.gauge.taking b.scan b.supply.hold
  fuel : t.fuel = { b.fuel with lineHeat := b.lineHeatOffered }
  scan : t.scan = { b.scan with taskWait := t.scan.taskWait }
  overheat : b.store.answers = [] → t.burn.inhibit.overheat = overheatOf b.burn.inhibit.overheat b.flowKnown
  frost : t.zone.boilerFrost = boilerFrostOf b.zone.boilerFrost b.flowKnown
  notices : ∀ n ∈ b.link.notices, n ∈ t.link.notices

theorem settle_quiet (h : s.store.answers = []) : settle s = s := by
  unfold settle answerTurns takeAnswers
  rw [h]

/-- What the end of a pass leaves of the jobs. -/
theorem settles_after (s : State) : (settle (endSelfTest s)).hide [.scan, .burn, .store, .link, .sett, .posts]
    = s.hide [.scan, .burn, .store, .link, .sett, .posts] := by simp

theorem passStages_offers (ref : Bool) (p : PassCounts) (s : State) :
    (beforeOffers ref p s).offers (settle (endSelfTest (passStages ref p s))) := by
  have hends := settle_passEnds ref p s
  obtain ⟨-, hjudges, -⟩ := outTakesPass_judges (beforeOffers ref p s)
  have hstages : passStages ref p s = evaluateBoilerFrost (burnTakesFlow (evaluateLineHeat (gaugeTakesPass
      (outTakesPass (beforeOffers ref p s))))) := rfl
  rw [hstages] at hends ⊢
  generalize beforeOffers ref p s = b at *
  obtain ⟨u, hu⟩ : ∃ u, u = outTakesPass b := ⟨_, rfl⟩
  have hub : u.hide [.out, .loop, .zone, .burn, .link, .posts] = b.hide [.out, .loop, .zone, .burn, .link, .posts] := by
    rw [hu]
    simp
  have hacts : u.flowActs = b.flowActs := hu ▸ outTakesPass_flowActs b
  obtain ⟨hoverheat, hfrost⟩ := Prod.ext_iff.1 hacts
  have hscan : u.scan = b.scan := hide_eq_iff.1 hub .scan (by decide)
  have hflow : u.flowKnown = b.flowKnown := by rw [State.flowKnown, hscan]; rfl
  obtain ⟨w, hw⟩ : ∃ w, w = evaluateLineHeat (gaugeTakesPass u) := ⟨_, rfl⟩
  obtain ⟨v, hv⟩ : ∃ v, v = evaluateBoilerFrost (burnTakesFlow w) := ⟨_, rfl⟩
  have hwu : w.hide [.gauge, .fuel, .posts] = u.hide [.gauge, .fuel, .posts] := by rw [hw]; simp
  have hvw : v.hide [.zone, .burn, .posts] = w.hide [.zone, .burn, .posts] := by rw [hv]; simp
  have hafter := settles_after v
  have hwflow : w.flowKnown = b.flowKnown := by
    rw [← hflow, State.flowKnown, hide_eq_iff.1 hwu .scan (by decide)]
    rfl
  rw [← hu, ← hw, ← hv] at hends ⊢
  rw [← hu] at hjudges
  refine ⟨?_, ?_, ?_, fun hanswers => ?_, ?_, fun n hn => hends.notices n (hjudges.1.notices n hn)⟩
  · have hgauge : w.gauge = (gaugeTakesPass u).gauge := by
      have e : w.hide [.fuel, .posts] = (gaugeTakesPass u).hide [.fuel, .posts] := by rw [hw]; simp
      exact hide_eq_iff.1 e .gauge (by decide)
    rw [hide_eq_iff.1 hafter .gauge (by decide), hide_eq_iff.1 hvw .gauge (by decide), hgauge, gaugeTakesPass_gauge,
      hide_eq_iff.1 hub .gauge (by decide), hscan, hide_eq_iff.1 hub .supply (by decide)]
  · have hfuel : u.fuel = b.fuel := hide_eq_iff.1 hub .fuel (by decide)
    have hsett : u.sett = b.sett := hide_eq_iff.1 hub .sett (by decide)
    have hheat : w.fuel = { u.fuel with lineHeat := u.lineHeatOffered } := hw ▸ evaluateLineHeat_fuel (gaugeTakesPass u)
    rw [hide_eq_iff.1 hafter .fuel (by decide), hide_eq_iff.1 hvw .fuel (by decide), hheat, State.lineHeatOffered,
      hfuel, hsett, hscan]
    rfl
  · have hvscan : v.scan = b.scan :=
      (hide_eq_iff.1 hvw .scan (by decide)).trans ((hide_eq_iff.1 hwu .scan (by decide)).trans hscan)
    rw [settle_scan, endSelfTest_scan, hvscan]
  · have hstore : v.store = b.store := (hide_eq_iff.1 hvw .store (by decide)).trans
      ((hide_eq_iff.1 hwu .store (by decide)).trans (hide_eq_iff.1 hub .store (by decide)))
    have hend : (endSelfTest v).hide [.scan, .link] = v.hide [.scan, .link] := by simp
    have hquiet : (endSelfTest v).store.answers = [] := by
      rw [hide_eq_iff.1 hend .store (by decide), hstore]
      exact hanswers
    have hzone : v.hide [.zone, .posts] = (burnTakesFlow w).hide [.zone, .posts] := by rw [hv]; simp
    rw [settle_quiet hquiet, hide_eq_iff.1 hend .burn (by decide), hide_eq_iff.1 hzone .burn (by decide),
      burnTakesFlow_overheat, evaluateOverheat_overheat, hwflow, hide_eq_iff.1 hwu .burn (by decide)]
    exact congrArg (overheatOf · b.flowKnown) hoverheat
  · have hburn : (burnTakesFlow w).hide [.burn, .posts] = w.hide [.burn, .posts] := by simp
    have hknown : (burnTakesFlow w).flowKnown = b.flowKnown := by
      rw [← hwflow, State.flowKnown, hide_eq_iff.1 hburn .scan (by decide)]
      rfl
    have hset : v.zone.boilerFrost = boilerFrostOf w.zone.boilerFrost b.flowKnown := by
      rw [hv, evaluateBoilerFrost_boilerFrost, hknown, hide_eq_iff.1 hburn .zone (by decide)]
    rw [hide_eq_iff.1 hafter .zone (by decide), hset, hide_eq_iff.1 hwu .zone (by decide)]
    exact congrArg (boilerFrostOf · b.flowKnown) hfrost

end Sys2Proof.Machine
end

section
/-! PROOF. A pass completion at GAUGE, FUEL, BURN and ZONE (O23): stages 1 and 2, and the whole. -/

namespace Sys2Proof.Machine

variable {s t u b : State} {p : PassCounts} {ref : Bool}

/-! ## Entering GAUGE_FAULT (R113, R114, R125) -/

theorem setStage_fuel (g : FuelStage) (s : State) :
    (setStage g s).fuel = { s.fuel with stage := g } ∧ (setStage g s).gauge = s.gauge := by
  unfold setStage
  split
  · next hsame => exact ⟨by rw [hsame], rfl⟩
  · exact ⟨rfl, rfl⟩

/-- An estimate at GAUGE and at FUEL (R114). -/
theorem handEstimate_jobs (s : State) :
    (handEstimate s).gauge = { s.gauge with
      offered := estimateOf s.gauge.basis s.gauge.metered, status := .estimate }
    ∧ (handEstimate s).fuel = { s.fuel with
      value := estimateOf s.gauge.basis s.gauge.metered, status := .estimate
      stage := (handEstimate s).fuel.stage } := by
  unfold handEstimate handValue fuelTakesValue computeStage
  simp only [reduceCtorEq, if_false]
  rw [(setStage_fuel _ _).1, (setStage_fuel _ _).2]
  exact ⟨rfl, rfl⟩

/-- FUEL told of an entry into GAUGE_FAULT drops what settles, its period ungauged (R125). -/
theorem fuelFaultEntered_fuel (hfault : s.gauge.fault = true) : (fuelFaultEntered s).fuel.settling = none
    ∧ (fuelFaultEntered s).fuel.ungauged = true ∧ (fuelFaultEntered s).fuel.lineHeat = s.fuel.lineHeat := by
  unfold fuelFaultEntered dropSettling takeDeferred ungaugedEnd restartPeriod
  dsimp only
  split
  · split
    · exact ⟨rfl, hfault, rfl⟩
    · exact ⟨rfl, rfl, rfl⟩
  · next hnone => exact ⟨by simpa using hnone, rfl, rfl⟩

/-- GAUGE in GAUGE_FAULT by MEASURE (R113, R114). -/
def Gauge.measureFaulted (g : Gauge) : Gauge :=
  if g.fault then { g.emptyWindow with cause := .measure }
  else { g.emptyWindow with
    fault := true, cause := .measure, offered := estimateOf g.basis g.metered, status := .estimate }

/-- Nothing is derived of a window in GAUGE_FAULT by MEASURE. -/
theorem measureFaulted_empties (g : Gauge) : g.measureFaulted.fault = true ∧ g.measureFaulted.cause = .measure
    ∧ g.measureFaulted.window = [] ∧ g.measureFaulted.faulty = 0 ∧ g.measureFaulted.filtered = none
    ∧ g.measureFaulted.vol = none ∧ g.measureFaulted.v15 = none := by
  unfold Gauge.measureFaulted
  split
  · next hfault => exact ⟨hfault, rfl, rfl, rfl, rfl, rfl, rfl⟩
  · exact ⟨rfl, rfl, rfl, rfl, rfl, rfl, rfl⟩

/-- What an entry into GAUGE_FAULT leaves at FUEL and LINK. -/
structure State.gaugeFaulted (s t : State) : Prop where
  value : t.fuel.value = estimateOf s.gauge.basis s.gauge.metered
  status : t.fuel.status = .estimate
  ungauged : t.fuel.ungauged = true
  settling : t.fuel.settling = none
  notice : .gauge ∈ t.link.notices

theorem gaugeTakesMeasureFault_jobs (s : State) :
    (gaugeTakesMeasureFault s).gauge = s.gauge.measureFaulted
      ∧ (s.gauge.fault = true → (gaugeTakesMeasureFault s).fuel = s.fuel)
      ∧ (s.gauge.fault = false → s.gaugeFaulted (gaugeTakesMeasureFault s))
      ∧ (gaugeTakesMeasureFault s).fuel.lineHeat = s.fuel.lineHeat := by
  unfold gaugeTakesMeasureFault Gauge.measureFaulted
  cases hfault : s.gauge.fault with
  | true => exact ⟨rfl, fun _ => rfl, nofun, rfl⟩
  | false =>
    obtain ⟨w, hw⟩ : ∃ w, w = fuelFaultEntered (s.onGauge fun g =>
        { g.emptyWindow with fault := true, cause := .measure }) := ⟨_, rfl⟩
    have hgauge : w.gauge = { s.gauge.emptyWindow with fault := true, cause := .measure } := by
      have e : w.hide [.fuel] = (s.onGauge fun g =>
          { g.emptyWindow with fault := true, cause := .measure }).hide [.fuel] := by rw [hw]; simp
      exact hide_eq_iff.1 e .gauge (by decide)
    have hfuel := hw ▸ fuelFaultEntered_fuel (s := s.onGauge fun g =>
      { g.emptyWindow with fault := true, cause := .measure }) rfl
    obtain ⟨hsettling, hungauged, hheat⟩ := hfuel
    obtain ⟨hg, hf⟩ := handEstimate_jobs w
    have henters : enterGaugeFault .measure s = postNotice .gauge (handEstimate w) := by rw [hw]; rfl
    rw [if_neg Bool.false_ne_true, if_neg Bool.false_ne_true, henters]
    have hgauge' : (postNotice .gauge (handEstimate w)).gauge = (handEstimate w).gauge := rfl
    have hfuel' : (postNotice .gauge (handEstimate w)).fuel = (handEstimate w).fuel := rfl
    refine ⟨?_, nofun, fun _ => ⟨?_, ?_, ?_, ?_, mem_insertNotice.2 (.inl rfl)⟩, ?_⟩
    · rw [hgauge', hg, hgauge]
      rfl
    all_goals rw [hfuel', hf]
    · rw [hgauge]
      rfl
    · exact hungauged
    · exact hsettling
    · exact hheat

/-! ## The verdict of the self-test (R10 to R12) -/

/-- MEASURE_FAULT told, at the jobs: newly set it is GAUGE_FAULT (R113). -/
theorem tellMeasureFault_jobs (v : Bool) (s : State) :
    (tellMeasureFault v s).gauge = (if v then s.gauge.measureFaulted else s.gauge)
      ∧ (v = false ∨ s.gauge.fault = true → (tellMeasureFault v s).fuel = s.fuel)
      ∧ (v = true → s.gauge.fault = false → s.gaugeFaulted (tellMeasureFault v s))
      ∧ (tellMeasureFault v s).fuel.lineHeat = s.fuel.lineHeat := by
  obtain ⟨a, ha⟩ : ∃ a, a = outTakesMeasureFault v (s.onScan fun c => { c with measureFault := v }) := ⟨_, rfl⟩
  obtain ⟨d, hd⟩ : ∃ d, d = if v then gaugeTakesMeasureFault a else a := ⟨_, rfl⟩
  have hae : a.hide [.scan, .out, .posts] = s.hide [.scan, .out, .posts] := by rw [ha]; simp
  have hagauge : a.gauge = s.gauge := hide_eq_iff.1 hae .gauge (by decide)
  have hafuel : a.fuel = s.fuel := hide_eq_iff.1 hae .fuel (by decide)
  have htells : tellMeasureFault v s = postNotice .measure (evaluateBoilerFrost (evaluateOverheat d)) := by
    rw [hd, ha]
    rfl
  obtain ⟨x, hx⟩ : ∃ x, x = evaluateBoilerFrost (evaluateOverheat d) := ⟨_, rfl⟩
  have hxd : x.hide [.zone, .burn, .posts] = d.hide [.zone, .burn, .posts] := by rw [hx]; simp
  have hgauge : (tellMeasureFault v s).gauge = d.gauge := by
    rw [htells, ← hx]
    exact hide_eq_iff.1 hxd .gauge (by decide)
  have hfuel : (tellMeasureFault v s).fuel = d.fuel := by
    rw [htells, ← hx]
    exact hide_eq_iff.1 hxd .fuel (by decide)
  have hnotices : ∀ n ∈ d.link.notices, n ∈ (tellMeasureFault v s).link.notices := fun n hn => by
    rw [htells, ← hx]
    refine mem_insertNotice.2 (.inr ?_)
    rw [hide_eq_iff.1 hxd .link (by decide)]
    exact hn
  rw [hgauge, hfuel, hd]
  cases v with
  | false => exact ⟨hagauge, fun _ => hafuel, nofun, congrArg Fuel.lineHeat hafuel⟩
  | true =>
    obtain ⟨hg, hkept, hfaulted, hheat⟩ := gaugeTakesMeasureFault_jobs a
    rw [hagauge] at hg hkept hfaulted
    rw [hafuel] at hkept hheat
    refine ⟨hg, fun h => hkept (h.resolve_left (by decide)), fun _ hnot => ?_, hheat⟩
    obtain ⟨hvalue, hstatus, hungauged, hsettling, hnotice⟩ := hfaulted hnot
    have hdg : d = gaugeTakesMeasureFault a := hd
    exact ⟨by rw [hfuel, hdg, hvalue, hagauge], by rw [hfuel, hdg, hstatus], by rw [hfuel, hdg, hungauged],
      by rw [hfuel, hdg, hsettling], hnotices _ (hdg ▸ hnotice)⟩

/-- The self-test of a pass sets SCAN's own fields, or MEASURE_FAULT changes and is told. -/
theorem settleVerdict_cases (pass : Bool) (s : State) :
    (∃ f : Scan → Scan, (f s.scan).measureFault = s.scan.measureFault ∧ settleVerdict pass s = s.onScan f)
      ∨ ∃ f : Scan → Scan, settleVerdict pass s = tellMeasureFault (!s.scan.measureFault) (s.onScan f) := by
  unfold settleVerdict
  dsimp only
  split
  · split
    · next hset =>
      split
      · refine .inr ⟨fun c => { c with consecPass := 0 }, ?_⟩
        rw [hset]
        rfl
      · exact .inl ⟨fun c => { c with consecPass := c.consecPass + 1 }, rfl, rfl⟩
    · exact .inl ⟨fun c => { c with consecPass := 0 }, rfl, rfl⟩
  · split
    · exact .inl ⟨fun c => { c with consecPass := 0 }, rfl, rfl⟩
    · next hclear =>
      refine .inr ⟨fun c => { c with consecPass := 0 }, ?_⟩
      have hoff : s.scan.measureFault = false := by simpa using hclear
      rw [hoff]
      rfl

theorem settleTest_cases (ref : Bool) (p : PassCounts) (s : State) :
    (∃ f : Scan → Scan, (f s.scan).measureFault = s.scan.measureFault ∧ settleTest ref p s = s.onScan f)
      ∨ (ref = true
        ∧ ∃ f : Scan → Scan, settleTest ref p s = tellMeasureFault (!s.scan.measureFault) (s.onScan f)) := by
  cases ref with
  | false => exact .inl ⟨fun c => { c with passCounter := min (c.passCounter + 1) passCounterMost }, rfl, rfl⟩
  | true =>
    obtain ⟨g, hg, hsettles⟩ : ∃ g : Scan → Scan, (g s.scan).measureFault = s.scan.measureFault
        ∧ settleTest true p s = settleVerdict (refsPass p.low.toNat p.mid.toNat p.high.toNat) (s.onScan g) :=
      ⟨_, rfl, rfl⟩
    rw [hsettles]
    obtain ⟨f, hf, heq⟩ | ⟨f, heq⟩ := settleVerdict_cases (refsPass p.low.toNat p.mid.toNat p.high.toNat) (s.onScan g)
    · exact .inl ⟨fun c => f (g c), hf.trans hg, heq⟩
    · refine .inr ⟨rfl, fun c => f (g c), heq.trans ?_⟩
      rw [show (s.onScan g).scan.measureFault = s.scan.measureFault from hg]
      rfl

theorem writeRecords_hide (p : PassCounts) (s : State) : (writeRecords p s).hide [.scan, .link]
    = s.hide [.scan, .link] := by simp

theorem writeRecords_notices (p : PassCounts) (s : State) :
    ∀ n ∈ s.link.notices, n ∈ (writeRecords p s).link.notices := by
  intro n hn
  unfold writeRecords
  dsimp only
  split
  · exact mem_insertNotice.2 (.inr hn)
  · exact hn

/-- The pass before stage 3, at the jobs. -/
structure State.judged (ref : Bool) (s b : State) : Prop where
  answers : b.store.answers = s.store.answers
  sett : b.sett = s.sett
  supply : b.supply = s.supply
  lineHeat : b.fuel.lineHeat = s.fuel.lineHeat
  acts : ref = false → b.flowActs = s.flowActs
  same : s.scan.measureFault = true ∨ b.scan.measureFault = false → b.gauge = s.gauge ∧ b.fuel = s.fuel
  faulted : s.scan.measureFault = false → b.scan.measureFault = true → b.gauge = s.gauge.measureFaulted
    ∧ (s.gauge.fault = true → b.fuel = s.fuel) ∧ (s.gauge.fault = false → s.gaugeFaulted b)

theorem beforeOffers_judged (ref : Bool) (p : PassCounts) (s : State) : s.judged ref (beforeOffers ref p s) := by
  have hscan : (beforeOffers ref p s).store = s.store :=
    (((State.scansTo.refl s).onScan fun c => { c with inFlight := none }).settleTest rfl).writeRecords.2.1
  obtain ⟨-, -, -, -, -, -, hsupply, hsett⟩ := (beforeOffers_recounts ref p s).passes
  obtain ⟨a, ha⟩ : ∃ a, a = settleTest ref p (s.onScan fun c => { c with inFlight := none }) := ⟨_, rfl⟩
  have hb : beforeOffers ref p s = writeRecords p a := by rw [ha]; rfl
  have hba := hb ▸ writeRecords_hide p a
  have hnotices := hb ▸ writeRecords_notices p a
  have hmeasure : (beforeOffers ref p s).scan.measureFault = a.scan.measureFault := by
    rw [hb]
    exact (congrArg Scan.measureFault ((State.scansTo.refl a).writeRecords (p := p)).scan_eq).trans rfl
  have hgauge : (beforeOffers ref p s).gauge = a.gauge := hide_eq_iff.1 hba .gauge (by decide)
  have hfuel : (beforeOffers ref p s).fuel = a.fuel := hide_eq_iff.1 hba .fuel (by decide)
  have hacts : (beforeOffers ref p s).flowActs = a.flowActs := flowActs_of_hide hba (by decide) (by decide)
  have hcases := ha ▸ settleTest_cases ref p (s.onScan fun c => { c with inFlight := none })
  obtain ⟨f, hf, heq⟩ | ⟨href, f, heq⟩ := hcases
  · have hag : a.gauge = s.gauge ∧ a.fuel = s.fuel ∧ a.flowActs = s.flowActs := by rw [heq]; exact ⟨rfl, rfl, rfl⟩
    obtain ⟨hag, haf, haa⟩ := hag
    have hkept : a.scan.measureFault = s.scan.measureFault := by rw [heq]; exact hf
    refine ⟨congrArg Store.answers hscan, hsett, hsupply, by rw [hfuel, haf], fun _ => hacts.trans haa,
      fun _ => ⟨hgauge.trans hag, hfuel.trans haf⟩, fun hoff hon => ?_⟩
    rw [hmeasure, hkept, hoff] at hon
    cases hon
  · obtain ⟨w, hw⟩ : ∃ w, w = (s.onScan fun c => { c with inFlight := none }).onScan f := ⟨_, rfl⟩
    have hsame : w.gauge = s.gauge ∧ w.fuel = s.fuel := by rw [hw]; exact ⟨rfl, rfl⟩
    have htold : a = tellMeasureFault (!s.scan.measureFault) w := by rw [hw, heq]; rfl
    have hset : a.scan.measureFault = !s.scan.measureFault := by
      rw [htold]
      exact congrArg Scan.measureFault (State.scansTo.refl w).tellMeasureFault.scan_eq
    obtain ⟨hjgauge, hjfuel, hjfault, hjheat⟩ := htold ▸ tellMeasureFault_jobs (!s.scan.measureFault) w
    obtain ⟨hwg, hwf⟩ := hsame
    rw [hwg] at hjgauge hjfuel hjfault
    rw [hwf] at hjfuel hjheat
    refine ⟨congrArg Store.answers hscan, hsett, hsupply, by rw [hfuel, hjheat], fun h => ?_, fun h => ?_,
      fun hoff _ => ?_⟩
    · rw [h] at href
      cases href
    · rw [hmeasure, hset] at h
      have hon : s.scan.measureFault = true := h.elim id fun e => by simpa using e
      rw [hon] at hjgauge hjfuel
      exact ⟨hgauge.trans hjgauge, hfuel.trans (hjfuel (.inl rfl))⟩
    · rw [hoff] at hjgauge hjfuel hjfault
      refine ⟨hgauge.trans hjgauge, fun hg => hfuel.trans (hjfuel (.inr hg)), fun hg => ?_⟩
      obtain ⟨hvalue, hstatus, hungauged, hsettling, hnotice⟩ := hjfault rfl hg
      exact ⟨by rw [hfuel, hvalue, hwg], by rw [hfuel, hstatus], by rw [hfuel, hungauged], by rw [hfuel, hsettling],
        hnotices _ hnotice⟩

/-! ## The whole pass -/

theorem flowKnown_some {x : Int} {c : Nat} (hgood : s.scan.measureFault = false)
    (hvalid : s.scan.flowTemp.state = .valid)
    (hreading : s.scan.flowTemp.reading = some (c, x)) : s.flowKnown = some x := by
  rw [State.flowKnown, if_neg (ne_true_of_eq_false hgood), hvalid, hreading]
  rfl

theorem flowKnown_none (h : s.scan.measureFault = true ∨ s.scan.flowTemp.state ≠ .valid) : s.flowKnown = none := by
  unfold State.flowKnown
  split
  · rfl
  · next hgood =>
    obtain h | h := h
    · exact absurd h hgood
    · split
      · next hvalid => exact absurd hvalid h
      · rfl

/-- Settles O23: the self-test, the records and the offers, each at the jobs it tells. -/
theorem passCompletionReachesTheJobs : Obligations.PassCompletionReachesTheJobs := by
  unfold Obligations.PassCompletionReachesTheJobs
  intro p s ref hrun hpass
  have hjudged := beforeOffers_judged ref p s
  have hoffers := passStages_offers ref p s
  have hscan : (beforeOffers ref p s).scan.probe = ⟨some p.probe.toNat, true⟩ := by
    rw [beforeOffers, (((State.scansTo.refl s).onScan fun c => { c with inFlight := none }).settleTest
      (ref := ref) (p := p) rfl).writeRecords.scan_eq]
    rfl
  refine ⟨_, exec_passCompletion hrun hpass, ?_⟩
  generalize settle (endSelfTest (passStages ref p s)) = t at *
  generalize beforeOffers ref p s = b at *
  obtain ⟨hanswers, hsett, hsupply, hheat, hacts, hsame, hfaulted⟩ := hjudged
  obtain ⟨hgauge, hfuel, htscan, hoverheat, hfrost, hnotices⟩ := hoffers
  have hmeasure : t.scan.measureFault = b.scan.measureFault := by rw [htscan]
  have htank : t.scan.tankTemp = b.scan.tankTemp := by rw [htscan]
  have hflow : t.scan.flowTemp = b.scan.flowTemp := by rw [htscan]
  have hkept : b.gauge.counter = s.gauge.counter ∧ b.gauge.due = s.gauge.due ∧ b.gauge.heldTemp = s.gauge.heldTemp := by
    by_cases hnew : s.scan.measureFault = false ∧ b.scan.measureFault = true
    · rw [(hfaulted hnew.1 hnew.2).1, Gauge.measureFaulted]
      split <;> exact ⟨rfl, rfl, rfl⟩
    · have hold : s.scan.measureFault = true ∨ b.scan.measureFault = false := by
        rwa [not_and_or, Bool.not_eq_false, Bool.not_eq_true] at hnew
      rw [(hsame hold).1]
      exact ⟨rfl, rfl, rfl⟩
  obtain ⟨hcounter, hdue, htemp⟩ := hkept
  have hlineHeat : t.fuel.lineHeat = lineHeatOf s.fuel.lineHeat s.sett.working.wax t.scan.tankTemp.state
      (t.scan.tankTemp.reading.map Prod.snd) := by
    rw [hfuel, htank, ← hheat, ← hsett]
    rfl
  have hsamples : ∀ {β : Type} (f : Gauge → β), (∀ g n d x, f { g with counter := n, due := d, heldTemp := x } = f g) →
      f t.gauge = f b.gauge := fun f hf => by
    rw [hgauge, taking_samples]
    exact hf _ _ _ _
  refine ⟨fun hhold => ?_, fun hhold hless => ?_, fun hhold hmore => ?_, fun hbad => ⟨?_, ?_⟩,
    fun x hvalid hreading => ?_, fun x hgood hvalid hreading hquiet => ?_, fun hoff hon => ?_, fun hold => ?_,
    fun hnone => ?_⟩
  · rw [hgauge, hsupply, hhold, (taking_held b.scan b.gauge).1, (taking_held b.scan b.gauge).2]
    exact ⟨hcounter, hdue⟩
  · obtain ⟨hnext, hstays⟩ := taking_counts b.scan (g := b.gauge) (hcounter ▸ hless)
    rw [hgauge, hsupply, hhold, hnext, hstays, hcounter]
    exact ⟨rfl, hdue⟩
  · obtain ⟨hzero, hnow⟩ := taking_due b.scan (g := b.gauge) (hcounter ▸ hmore)
    rw [hgauge, hsupply, hhold, hzero, hnow, hscan, hmeasure]
    exact ⟨rfl, rfl⟩
  · rw [hgauge, taking_heldTemp, ← htank, ← htemp]
    split
    · next hvalid _ => exact absurd hvalid hbad
    · rfl
  · rw [hlineHeat]
    unfold lineHeatOf
    split
    · next hvalid _ => exact absurd hvalid hbad
    · rfl
  · rw [hvalid, hreading] at hlineHeat
    refine ⟨?_, fun hcold => ?_, fun hwarm => ?_, fun hlow hhigh => ?_⟩
    · rw [hgauge, taking_heldTemp, ← htank, hvalid, hreading]
    · exact hlineHeat.trans (if_pos hcold)
    · have hnot : ¬ x ≤ 10 * s.sett.working.wax := by omega
      exact hlineHeat.trans ((if_neg hnot).trans (if_pos hwarm))
    · have hnot : ¬ x ≤ 10 * s.sett.working.wax := by omega
      have hnot' : ¬ 10 * (s.sett.working.wax + 2) ≤ x := by omega
      exact hlineHeat.trans ((if_neg hnot).trans (if_neg hnot'))
  · have hknown : b.flowKnown = some x :=
      flowKnown_some (hmeasure ▸ hgood) (hflow ▸ hvalid) (hflow ▸ hreading)
    have hhot := hoverheat (hanswers.trans hquiet)
    rw [hknown] at hhot hfrost
    refine ⟨fun hx => hhot.trans (if_pos hx), fun hx => ?_, fun hx => hfrost.trans (if_pos hx), fun hx => ?_,
      fun href hlow hhigh => ?_, fun href hlow hhigh => ?_⟩
    · have hnot : ¬ 950 ≤ x := by omega
      exact hhot.trans ((if_neg hnot).trans (if_pos hx))
    · have hnot : ¬ x < 50 := by omega
      exact hfrost.trans ((if_neg hnot).trans (if_pos hx))
    · have hnot : ¬ 950 ≤ x := by omega
      have hnot' : ¬ x < 850 := by omega
      exact hhot.trans ((if_neg hnot).trans ((if_neg hnot').trans (congrArg Prod.fst (hacts href))))
    · have hnot : ¬ x < 50 := by omega
      have hnot' : ¬ 80 ≤ x := by omega
      exact hfrost.trans ((if_neg hnot).trans ((if_neg hnot').trans (congrArg Prod.snd (hacts href))))
  · obtain ⟨hbg, hbkept, hbfaulted⟩ := hfaulted hoff (hmeasure ▸ hon)
    obtain ⟨hfault, hcause, hwindow, hfaulty, hfiltered, hvol, hv15⟩ := measureFaulted_empties s.gauge
    refine ⟨?_, ?_, ?_, ?_, ?_, ?_, ?_, fun hwas => ?_, fun hwas => ?_⟩
    · rw [hsamples Gauge.fault fun _ _ _ _ => rfl, hbg, hfault]
    · rw [hsamples Gauge.cause fun _ _ _ _ => rfl, hbg, hcause]
    · rw [hsamples Gauge.window fun _ _ _ _ => rfl, hbg, hwindow]
    · rw [hsamples Gauge.faulty fun _ _ _ _ => rfl, hbg, hfaulty]
    · rw [hsamples Gauge.filtered fun _ _ _ _ => rfl, hbg, hfiltered]
    · rw [hsamples Gauge.vol fun _ _ _ _ => rfl, hbg, hvol]
    · rw [hsamples Gauge.v15 fun _ _ _ _ => rfl, hbg, hv15]
    · rw [hsamples Gauge.offered fun _ _ _ _ => rfl, hbg, hfuel, hbkept hwas, Gauge.measureFaulted, if_pos hwas]
      exact ⟨rfl, rfl, rfl⟩
    · obtain ⟨hvalue, hstatus, hungauged, hsettling, hnotice⟩ := hbfaulted hwas
      rw [hsamples Gauge.offered fun _ _ _ _ => rfl, hsamples Gauge.status fun _ _ _ _ => rfl, hbg, hfuel, hvalue,
        hstatus, hungauged, hsettling, Gauge.measureFaulted, if_neg (ne_true_of_eq_false hwas)]
      exact ⟨hnotices _ hnotice, rfl, rfl, rfl, rfl, rfl, rfl⟩
  · obtain ⟨hbg, -⟩ := hsame (hmeasure ▸ hold)
    exact ⟨(hsamples Gauge.fault fun _ _ _ _ => rfl).trans (congrArg Gauge.fault hbg),
      (hsamples Gauge.window fun _ _ _ _ => rfl).trans (congrArg Gauge.window hbg)⟩
  · rw [hfrost, flowKnown_none (s := b) (hmeasure ▸ hflow ▸ hnone)]
    rfl

end Sys2Proof.Machine
end

section
/-! PROOF. An invariant of the record area through every step (O15): what it is kept by before and after the start. -/

namespace Sys2Proof.Machine

/-! ## STORE without its times -/

/-- STORE without its counter, its clock and the time an erase has left. -/
def Store.timeless (st : Store) : Store :=
  { st with
    runMinute := 0, minutesSet := false, timebase := 0, wall := 0, wallSet := false
    array := match st.array with
      | .erasing e _ => .erasing e 0
      | a => a }

theorem timeless_loseTime (st : Store) : st.loseTime.timeless = st.timeless := rfl

theorem timeless_minute (st : Store) : st.minute.timeless = st.timeless := rfl

theorem timeless_tick (st : Store) : st.tick.timeless = st.timeless := by
  unfold Store.tick Store.timeless
  cases st.array <;> rfl

theorem handTime_phase (s : State) : (handTime s).phase = s.phase ∧ (handTime s).store.timeless = s.store.timeless := by
  unfold handTime
  split <;> exact ⟨rfl, rfl⟩

/-- The scan has set what the next records go by: STORE's own state stands, or the hand-over is due (R150, R154). -/
def State.scanned (s : State) : Prop := s.phase = .supplyWait ∨ (s.phase = .scanning ∧ s.store.reErase = [])

/-- An invariant of STORE: it rests on the phase and on STORE without its times, and every change of STORE keeps it. -/
structure StoreInvariant (Q : State → Prop) : Prop where
  same {s t} : Q s → t.phase = s.phase → t.store.timeless = s.store.timeless → Q t
  onStore {s} {f : Store → Store} : s.storeActive = true → (f s.store).area = s.store.area →
    Q s → Q (s.onStore f)
  write {s} {f : Store → Store} {slot opens} : s.storeActive = true →
    (f s.store).area = (s.store.writeSlot slot opens).area → Q s → Q (s.onStore f)
  leave {s} {f : Store → Store} {i : Fin 4} {x : Sector} : s.storeActive = true → x.isValid = false →
    (f s.store).area = (s.store.sectors.set i x, s.store.head, s.store.nextSeq) → Q s → Q (s.onStore f)
  forward {s p} : s.storeActive = true → p = .derived ∨ p = .running → Q s → Q (s.withPhase p)
  starts {s p} : p = .unpowered ∨ p = .released → Q s → Q (abandonAll p s)
  scans {s} : s.phase = .unpowered ∨ s.phase = .released → Q s → Q (beginScan s)
  erased {s} : s.phase = .scanning → Q s → Q (s.onStore Store.scanErased)
  handed {s p} : s.scanned → p = .supplyWait ∨ p = .burnerWait → Q s → Q (s.withPhase p)

variable {Q : State → Prop} {s t : State}

namespace StoreInvariant

theorem of_hide (z : StoreInvariant Q) {F : List Block} (e : t.hide F = s.hide F) (hphase : Block.phase ∉ F)
    (hstore : Block.store ∉ F) (h : Q s) : Q t :=
  z.same h (hide_eq_iff.1 e .phase hphase) (by rw [hide_eq_iff.1 e .store hstore])

theorem persists (z : StoreInvariant Q) : Persists Q where
  rest e h := z.of_hide e (by decide) (by decide) h
  onSett _ h := z.same h rfl rfl
  onStore := z.onStore
  write := z.write
  leave := z.leave
  event _ e h := z.of_hide e.hide (by decide) (by decide) h
  holdBegins h := z.of_hide (F := [.loop, .zone, .posts]) (by simp) (by decide) (by decide) h
  holdEnds h := z.of_hide (F := [.loop, .zone, .posts]) (by simp) (by decide) (by decide) h
  tick h := z.same h rfl rfl
  derived hphase h := z.forward (storeActive_iff.2 (.inr (.inr hphase))) (.inl rfl) h
  begins {s t} hphase hrun e h := by
    have hforward : Q (s.withPhase .running) := z.forward (storeActive_iff.2 (.inr (.inl hphase))) (.inr rfl) h
    have hbegins : (zonesBegin t).hide [.loop, .zone, .posts] = t.hide [.loop, .zone, .posts] := by simp
    have hstore : t.store = s.store := hide_eq_iff.1 e .store (by decide)
    refine z.same hforward ((hide_eq_iff.1 hbegins .phase (by decide)).trans hrun) ?_
    rw [hide_eq_iff.1 hbegins .store (by decide), hstore]
    rfl
  starts := z.starts
  loses _ h := z.same h rfl (timeless_loseTime _)
  scans := z.scans

/-- The hand-over once MAINS_OK has its level, and while it waits for it (R154). -/
theorem handRest (z : StoreInvariant Q) (hscanned : s.scanned) (h : Q s) : Q (handRest s) := by
  unfold Machine.handRest
  split
  · next v _ =>
    have e : (handHistory (handSupply v s)).hide [.burn, .gauge, .fuel, .supply, .posts]
        = s.hide [.burn, .gauge, .fuel, .supply, .posts] := by simp
    have hstore : (handHistory (handSupply v s)).store = s.store := hide_eq_iff.1 e .store (by decide)
    have hhanded : z.persists.holds .burnerWait ((handHistory (handSupply v s)).withPhase .burnerWait) :=
      ⟨rfl, rfl, z.same (z.handed hscanned (.inr rfl) h) (show Phase.burnerWait = .burnerWait from rfl)
        (by rw [withPhase_store, hstore, withPhase_store])⟩
    exact hhanded.lookAtRotation.handMains.2.2
  · exact z.handed hscanned (.inl rfl) h

theorem handOver (z : StoreInvariant Q) (h : Q s) : Q (handOver s) := by
  unfold Machine.handOver
  split
  · next hdone =>
    obtain ⟨hphase, htime⟩ := handTime_phase s
    have e : (handSettings (handTime s)).hide [.loop, .link, .sett] = (handTime s).hide [.loop, .link, .sett] := by simp
    have hphase' : (handSettings (handTime s)).phase = s.phase := (hide_eq_iff.1 e .phase (by decide)).trans hphase
    have htime' : (handSettings (handTime s)).store.timeless = s.store.timeless := by
      rw [hide_eq_iff.1 e .store (by decide)]
      exact htime
    obtain ⟨hscanning, hover⟩ : s.phase = .scanning ∧ s.store.reErase = [] := by
      simpa [State.scanDone] using hdone
    have hover' : (handSettings (handTime s)).store.reErase = [] := by
      have hkept : (handSettings (handTime s)).store.timeless.reErase = s.store.timeless.reErase := by rw [htime']
      exact hkept.trans hover
    exact z.handRest (.inr ⟨hphase'.trans hscanning, hover'⟩) (z.same h hphase' htime')
  · split
    · next hwait => exact z.handRest (.inl hwait.1) h
    · exact h

/-- Every command keeps an invariant of STORE, as long as STORE waits for its own state. -/
theorem exec (z : StoreInvariant Q) (hw : s.storeWaits) (h : Q s) (c : Instr) : ∃ t, exec c s = .next t ∧ Q t := by
  by_cases hactive : s.storeActive = true
  · exact Persists.holds.exec (k := z.persists) ⟨rfl, hactive, h⟩ c
  have hwait : s.storeActive = false := by simpa using hactive
  obtain ⟨hrunning, hburning, -⟩ := inactive_of_waiting hwait
  by_cases hearly : actsEarly c = false
  · obtain ⟨t, ht, e⟩ := exec_waiting hwait hearly
    exact ⟨t, ht, z.persists.rest e h⟩
  cases c <;> simp only [actsEarly, not_true_eq_false] at hearly
  case powerOn => exact ⟨_, rfl, z.persists.powerOn h⟩
  case lossOfSupply => exact ⟨_, rfl, z.persists.loseSupply h⟩
  case restart =>
    refine ⟨_, rfl, ?_⟩
    split
    · exact h
    · exact z.persists.beginRestart h
  case resetNRelease =>
    refine ⟨_, rfl, ?_⟩
    split
    · next hphase => exact z.scans (.inr hphase) h
    · exact h
  case handOver => exact ⟨_, rfl, z.handOver h⟩
  case runMinute =>
    refine ⟨_, rfl, ?_⟩
    split
    · have hactive' : (s.onStore Store.minute).storeActive = false := hwait
      have hrunning' : (s.onStore Store.minute).running = false := hrunning
      have hburning' : (s.onStore Store.minute).burnActive = false := hburning
      have hminute : blocksMinute (s.onStore Store.minute) = settle (s.onStore Store.minute) := by
        simp [blocksMinute, whenRunning, ifBurning, hactive', hrunning', hburning']
      obtain ⟨hanswers, -⟩ := hw hwait
      rw [hminute, settle_quiet (s := s.onStore Store.minute) hanswers]
      exact z.same h rfl (timeless_minute _)
    · exact h
  case eraseCompletion =>
    refine ⟨_, rfl, ?_⟩
    split
    · next hphase => exact z.erased hphase h
    · simpa [hwait] using h

theorem exec_next (z : StoreInvariant Q) (hw : s.storeWaits) (h : Q s) {c : Instr} (e : Machine.exec c s = .next t) :
    Q t := by
  obtain ⟨u, hu, hkept⟩ := z.exec hw h c
  rw [hu] at e
  cases e
  exact hkept

theorem quiet (z : StoreInvariant Q) (h : Q s) : Q (quiet s) := by
  unfold Machine.quiet
  split
  · exact z.persists.rest (by simp [outerParts]) h
  · unfold passMillisecond
    split
    · exact h
    · exact z.same h rfl (timeless_tick s.store)

/-- Every step keeps an invariant of STORE. -/
theorem step (z : StoreInvariant Q) (hw : s.storeWaits) (h : Q s) (e : step s = .next t) : Q t := by
  unfold Machine.step idleStep at e
  split at e
  · next c rest _ => exact z.exec_next (s := s.withPending rest) hw (z.same h rfl rfl) e
  · split at e
    · exact z.exec_next hw h e
    · cases e
      exact z.quiet h

end StoreInvariant

/-! ## STORE rests until its own state begins (R151) -/

/-- Nothing waits for the array, and it is free or erases a sector. -/
def Store.idles (st : Store) : Prop :=
  st.answers = [] ∧ st.queue = [] ∧ st.eraseDue = [] ∧ st.carryWork = [] ∧ st.reading = none ∧ st.suspended = none
    ∧ st.keep = .none ∧ (st.array = .free ∨ ∃ i n, st.array = .erasing (.sector i) n)

theorem idles_timeless (st : Store) : st.timeless.idles ↔ st.idles := by
  have harray : (st.timeless.array = .free ∨ ∃ i n, st.timeless.array = .erasing (.sector i) n)
      ↔ (st.array = .free ∨ ∃ i n, st.array = .erasing (.sector i) n) := by
    unfold Store.timeless
    cases st.array <;> simp
  unfold Store.idles
  rw [harray]
  rfl

theorem idles_startScan {st : Store} (h : st.idles) : st.startScan.idles := by
  obtain ⟨hanswers, hqueue, hdue, hcarry, hreading, hsuspended, hkeep, harray⟩ := h
  unfold Store.startScan
  split
  · exact ⟨hanswers, hqueue, hdue, hcarry, hreading, hsuspended, hkeep, harray⟩
  · exact ⟨hanswers, hqueue, hdue, hcarry, hreading, hsuspended, hkeep, .inr ⟨_, _, rfl⟩⟩

theorem idles_scanErased {st : Store} (h : st.idles) : st.scanErased.idles := by
  obtain ⟨hanswers, hqueue, hdue, hcarry, hreading, hsuspended, hkeep, harray⟩ := h
  unfold Store.scanErased
  split
  · exact ⟨hanswers, hqueue, hdue, hcarry, hreading, hsuspended, hkeep, harray⟩
  · dsimp only
    split
    · exact ⟨hanswers, hqueue, hdue, hcarry, hreading, hsuspended, hkeep, .inl rfl⟩
    · exact ⟨hanswers, hqueue, hdue, hcarry, hreading, hsuspended, hkeep, .inr ⟨_, _, rfl⟩⟩

theorem storeActive_of_phase (e : t.phase = s.phase) : t.storeActive = s.storeActive := by
  simp only [State.storeActive, e]

theorem scanned_inactive (h : s.scanned) : s.storeActive = false := by
  unfold State.storeActive
  obtain h | ⟨h, -⟩ := h <;> rw [h] <;> rfl

theorem storeWaits_of_active (h : s.storeActive = true) : s.storeWaits := fun hnot => by
  rw [h] at hnot
  cases hnot

theorem storeWaits_invariant : StoreInvariant State.storeWaits where
  same {s t} h hphase hstore := fun hnot => by
    have hidles : s.store.idles := h ((storeActive_of_phase hphase).symm.trans hnot)
    exact (idles_timeless t.store).1 (hstore ▸ (idles_timeless s.store).2 hidles)
  onStore {s f} hactive _ _ := storeWaits_of_active (s := s.onStore f) hactive
  write {s f _ _} hactive _ _ := storeWaits_of_active (s := s.onStore f) hactive
  leave {s f _ _} hactive _ _ _ := storeWaits_of_active (s := s.onStore f) hactive
  forward {s p} _ hp _ := storeWaits_of_active (s := s.withPhase p) (by obtain rfl | rfl := hp <;> rfl)
  starts _ _ := fun _ => ⟨rfl, rfl, rfl, rfl, rfl, rfl, rfl, .inl rfl⟩
  scans {s} hphase h := fun _ => by
    have hidles : s.store.idles := h (by unfold State.storeActive; obtain hp | hp := hphase <;> rw [hp] <;> rfl)
    exact idles_startScan hidles
  erased {s} hphase h := fun _ => by
    have hidles : s.store.idles := h (by unfold State.storeActive; rw [hphase]; rfl)
    exact idles_scanErased hidles
  handed {s p} hscanned _ h := fun _ => h (scanned_inactive hscanned)

theorem storeWaits_step (h : s.storeWaits) (e : step s = .next t) : t.storeWaits :=
  storeWaits_invariant.step h h e

theorem reset_storeWaits : State.reset.storeWaits := fun _ => ⟨rfl, rfl, rfl, rfl, rfl, rfl, rfl, .inl rfl⟩

end Sys2Proof.Machine
end

section
/-! PROOF. No sequence number is given twice (R140), and the zones rest before the end of start-up (R61) (O15). -/

namespace Sys2Proof.Machine

variable {s t : State} {st : Store} {i h : Fin 4} {x : Sector} {v : Vector Sector 4} {head : Option (Fin 4)}
  {next : Nat}

/-! ## The record area's numbers -/

theorem sectors_set (v : Vector Sector 4) (i j : Fin 4) (x : Sector) :
    (v.set i x)[j] = if j = i then x else v[j] := by
  by_cases hj : j = i
  · subst hj
    simp
  · have hne : i.val ≠ j.val := fun e => hj (Fin.ext e.symm)
    simp [hj, hne]

/-- A slot of a VALID sector shares its number with no slot of another, and no VALID sector is without a slot. -/
def numbersApart (v : Vector Sector 4) : Prop :=
  (∀ (i j : Fin 4) (n m k l : Nat), v[i].mark = .valid n → v[j].mark = .valid m →
    k < v[i].slots.length → l < v[j].slots.length → n + k = m + l → i = j)
  ∧ ∀ (i : Fin 4) (n : Nat), v[i].mark = .valid n → v[i].slots ≠ []

/-- The next sequence follows the numbers given, at once those of the head. -/
def numbersFollow (v : Vector Sector 4) (head : Option (Fin 4)) (next : Nat) : Prop :=
  (∀ (i : Fin 4) (n : Nat), v[i].mark = .valid n → n + v[i].slots.length ≤ next)
  ∧ ∀ (h : Fin 4) (n : Nat), head = some h → v[h].mark = .valid n → n + v[h].slots.length = next

/-- The next sequence follows the numbers of STORE's area. -/
def Store.follows (st : Store) : Prop := numbersFollow st.sectors st.head st.nextSeq

/-- STORE's own state stands, or the scan has set what the next records go by. -/
def State.numbersStand (s : State) : Prop := s.storeActive = true ∨ s.scanned

theorem numbersOnce_iff : s.numbersOnce ↔ numbersApart s.store.sectors ∧ (s.numbersStand → s.store.follows)
    ∧ ((∃ p, s.store.array = .programming p) → s.storeActive = true) := by
  unfold State.numbersOnce numbersApart State.numbersStand State.scanned
  rw [and_assoc]
  rfl

theorem follows_congr {st' : Store} (e : st'.area = st.area) (hf : st.follows) : st'.follows := by
  simp only [Store.area, Prod.mk.injEq] at e
  obtain ⟨hsectors, hhead, hnext⟩ := e
  unfold Store.follows
  rw [hsectors, hhead, hnext]
  exact hf

/-! ## What the changes of the area leave -/

/-- A VALID sector of an area with one entry changed to one that is not VALID is another one. -/
theorem valid_of_set (hx : x.isValid = false) {j : Fin 4} {n : Nat} (hmark : (v.set i x)[j].mark = .valid n) :
    (v.set i x)[j] = v[j] := by
  rw [sectors_set] at hmark ⊢
  split at hmark
  · simp [Sector.isValid, hmark] at hx
  · next hj => exact if_neg hj

/-- A sector that is not VALID gives no numbers. -/
theorem apart_leaves (hx : x.isValid = false) (ha : numbersApart v) : numbersApart (v.set i x) := by
  obtain ⟨hapart, hslots⟩ := ha
  refine ⟨fun j j' n m k l hj hj' hk hl e => ?_, fun j n hj => ?_⟩
  · have hkept := valid_of_set hx hj
    have hkept' := valid_of_set hx hj'
    rw [hkept] at hj hk
    rw [hkept'] at hj' hl
    exact hapart j j' n m k l hj hj' hk hl e
  · have hkept := valid_of_set hx hj
    rw [hkept] at hj ⊢
    exact hslots j n hj

theorem follow_leaves (hx : x.isValid = false) (hf : numbersFollow v head next) :
    numbersFollow (v.set i x) head next := by
  obtain ⟨hbelow, hhead⟩ := hf
  refine ⟨fun j n hj => ?_, fun j n hj hmark => ?_⟩
  · have hkept := valid_of_set hx hj
    rw [hkept] at hj ⊢
    exact hbelow j n hj
  · have hkept := valid_of_set hx hmark
    rw [hkept] at hmark ⊢
    exact hhead j n hj hmark

/-- A sector opened with the next sequence takes a number above all others (R140, R142). -/
theorem apart_opens (slot : Slot) (ha : numbersApart v) (hf : numbersFollow v head next) :
    numbersApart (v.set i ⟨.valid next, [slot]⟩) := by
  obtain ⟨hapart, hslots⟩ := ha
  obtain ⟨hbelow, -⟩ := hf
  have hless : ∀ (j : Fin 4) (n k : Nat), v[j].mark = .valid n → k < v[j].slots.length → n + k < next :=
    fun j n k hj hk => by
      have hle := hbelow j n hj
      omega
  refine ⟨fun j j' n m k l hj hj' hk hl e => ?_, fun j n hj => ?_⟩
  · rw [sectors_set] at hj hj' hk hl
    by_cases hji : j = i <;> by_cases hji' : j' = i
    · rw [hji, hji']
    · rw [if_pos hji] at hj
      rw [if_neg hji'] at hj' hl
      cases hj
      have hlt := hless j' m l hj' hl
      omega
    · rw [if_neg hji] at hj hk
      rw [if_pos hji'] at hj'
      cases hj'
      have hlt := hless j n k hj hk
      omega
    · rw [if_neg hji] at hj hk
      rw [if_neg hji'] at hj' hl
      exact hapart j j' n m k l hj hj' hk hl e
  · rw [sectors_set] at hj ⊢
    split at hj
    · next hji =>
      rw [if_pos hji]
      exact List.cons_ne_nil _ _
    · next hji =>
      rw [if_neg hji]
      exact hslots j n hj

theorem follow_opens (slot : Slot) (hf : numbersFollow v head next) :
    numbersFollow (v.set i ⟨.valid next, [slot]⟩) (some i) (next + 1) := by
  obtain ⟨hbelow, -⟩ := hf
  refine ⟨fun j n hj => ?_, fun j n hj hmark => ?_⟩
  · rw [sectors_set] at hj ⊢
    split at hj
    · next hji =>
      rw [if_pos hji]
      cases hj
      exact le_rfl
    · next hji =>
      rw [if_neg hji]
      exact (hbelow j n hj).trans (Nat.le_succ next)
  · cases hj
    rw [sectors_set, if_pos rfl] at hmark ⊢
    cases hmark
    rfl

/-- The head with a slot more. -/
def Sector.grown (slot : Slot) (x : Sector) : Sector := { x with slots := x.slots ++ [slot] }

theorem grown_mark (v : Vector Sector 4) (h j : Fin 4) (slot : Slot) :
    (v.set h (v[h].grown slot))[j].mark = v[j].mark := by
  rw [sectors_set]
  split
  · next hj => rw [hj]; rfl
  · rfl

theorem grown_length (x : Sector) (slot : Slot) : (x.grown slot).slots.length = x.slots.length + 1 :=
  List.length_append

/-- A slot more of the head takes the next sequence (R140, R142). -/
theorem apart_grows (slot : Slot) (ha : numbersApart v) (hf : numbersFollow v (some h) next) :
    numbersApart (v.set h (v[h].grown slot)) := by
  obtain ⟨hapart, hslots⟩ := ha
  obtain ⟨hbelow, hnext⟩ := hf
  have hold : ∀ (j : Fin 4) (n k : Nat), v[j].mark = .valid n → k < (v.set h (v[h].grown slot))[j].slots.length →
      k < v[j].slots.length ∨ (j = h ∧ n + k = next) := fun j n k hj hk => by
    rw [sectors_set] at hk
    split at hk
    · next hjh =>
      subst hjh
      rw [grown_length] at hk
      have hlast := hnext j n rfl hj
      by_cases hlt : k < v[j].slots.length
      · exact .inl hlt
      · exact .inr ⟨rfl, by omega⟩
    · exact .inl hk
  refine ⟨fun j j' n m k l hj hj' hk hl e => ?_, fun j n hj => ?_⟩
  · rw [grown_mark] at hj hj'
    have hle := hbelow j n hj
    have hle' := hbelow j' m hj'
    obtain hk | ⟨hjh, hk⟩ := hold j n k hj hk <;> obtain hl | ⟨hjh', hl⟩ := hold j' m l hj' hl
    · exact hapart j j' n m k l hj hj' hk hl e
    · omega
    · omega
    · rw [hjh, hjh']
  · rw [grown_mark] at hj
    rw [sectors_set]
    split
    · exact List.append_ne_nil_of_right_ne_nil _ (List.cons_ne_nil _ _)
    · exact hslots j n hj

theorem follow_grows (slot : Slot) (hf : numbersFollow v (some h) next) :
    numbersFollow (v.set h (v[h].grown slot)) (some h) (next + 1) := by
  obtain ⟨hbelow, hnext⟩ := hf
  refine ⟨fun j n hj => ?_, fun j n hj hmark => ?_⟩
  · rw [grown_mark] at hj
    rw [sectors_set]
    split
    · next hjh =>
      subst hjh
      have hlast := hnext j n rfl hj
      rw [grown_length]
      omega
    · exact (hbelow j n hj).trans (Nat.le_succ next)
  · cases hj
    rw [grown_mark] at hmark
    have hlast := hnext h n rfl hmark
    rw [sectors_set, if_pos rfl, grown_length]
    omega

theorem writeSlot_numbers (slot : Slot) (opens : Option (Fin 4)) (ha : numbersApart st.sectors) (hf : st.follows) :
    numbersApart (st.writeSlot slot opens).sectors ∧ (st.writeSlot slot opens).follows := by
  unfold Store.follows at hf
  unfold Store.writeSlot
  split
  · exact ⟨apart_opens slot ha hf, follow_opens slot hf⟩
  · next hhead =>
    rw [hhead] at hf
    refine ⟨apart_grows slot ha hf, ?_⟩
    unfold Store.follows
    dsimp only
    rw [hhead]
    exact follow_grows slot hf
  · exact ⟨ha, hf⟩

/-! ## A reset (R142; log entry 19) -/

/-- What a reset leaves of a program in flight gives no number twice. -/
theorem cutArray_apart (ha : numbersApart s.store.sectors)
    (hf : (∃ p, s.store.array = .programming p) → s.store.follows) : numbersApart (cutArray s).store.sectors := by
  have hopens : ∀ {p : Program} (tears : Bool) (i : Fin 4), s.store.array = .programming p →
      numbersApart (s.store.cutProgram tears (some i)).sectors := fun {p} tears i harray => by
    obtain hcut | hcut := cutProgram_opens tears i s.store <;> rw [hcut]
    · exact apart_leaves rfl ha
    · exact apart_opens .bad ha (hf ⟨p, harray⟩)
  have hgrows : ∀ {p : Program}, s.store.array = .programming p →
      numbersApart (s.store.cutProgram false none).sectors := fun {p} harray => by
    have hfollows : numbersFollow s.store.sectors s.store.head s.store.nextSeq := hf ⟨p, harray⟩
    cases hhead : s.store.head with
    | none =>
      unfold Store.cutProgram
      rw [hhead]
      exact ha
    | some h =>
      rw [hhead] at hfollows
      rw [cutProgram_head hhead]
      exact apart_grows .bad ha hfollows
  unfold cutArray
  dsimp only
  split
  · next harray => exact hopens _ _ harray
  · next harray => exact hopens _ _ harray
  · next harray => exact hgrows harray
  · next harray => exact hgrows harray
  · exact ha

/-! ## The scan (R139, R150) -/

theorem firstSeq_eq (x : Sector) (n : Nat) : x.firstSeq = some n ↔ x.mark = .valid n := by
  unfold Sector.firstSeq
  split
  · next hmark => rw [hmark, Option.some_inj, SectorMark.valid.injEq]
  · next hnot => exact ⟨nofun, fun hmark => absurd hmark (hnot n)⟩

/-- The head, of the sectors of a list, is the VALID one with the highest first sequence, if there is one (R139). -/
def headAmong (v : Vector Sector 4) (l : List (Fin 4)) : Option (Fin 4) → Prop
  | none => ∀ i ∈ l, v[i].firstSeq = none
  | some h => ∃ n, v[h].firstSeq = some n ∧ ∀ i ∈ l, ∀ m, v[i].firstSeq = some m → m ≤ n

/-- One sector more against the best so far. -/
def betterHead (v : Vector Sector 4) (best : Option (Fin 4)) (i : Fin 4) : Option (Fin 4) :=
  match v[i].firstSeq, best with
  | none, b => b
  | some _, none => some i
  | some n, some b => if (v[b].firstSeq).getD 0 < n then some i else some b

theorem headAmong_snoc {l : List (Fin 4)} {best : Option (Fin 4)} (hbest : headAmong v l best) (i : Fin 4) :
    headAmong v (l ++ [i]) (betterHead v best i) := by
  unfold betterHead
  cases hi : v[i].firstSeq with
  | none =>
    cases best with
    | none =>
      intro j hj
      obtain hj | hj := List.mem_append.1 hj
      · exact hbest j hj
      · rw [List.mem_singleton.1 hj, hi]
    | some b =>
      obtain ⟨n, hn, hmost⟩ := hbest
      refine ⟨n, hn, fun j hj m hm => ?_⟩
      obtain hj | hj := List.mem_append.1 hj
      · exact hmost j hj m hm
      · rw [List.mem_singleton.1 hj, hi] at hm
        cases hm
  | some k =>
    cases best with
    | none =>
      refine ⟨k, hi, fun j hj m hm => ?_⟩
      obtain hj | hj := List.mem_append.1 hj
      · rw [hbest j hj] at hm
        cases hm
      · rw [List.mem_singleton.1 hj, hi] at hm
        exact (Option.some.inj hm).ge
    | some b =>
      obtain ⟨n, hn, hmost⟩ := hbest
      dsimp only
      rw [hn, Option.getD_some]
      split
      · next hless =>
        refine ⟨k, hi, fun j hj m hm => ?_⟩
        obtain hj | hj := List.mem_append.1 hj
        · exact (hmost j hj m hm).trans hless.le
        · rw [List.mem_singleton.1 hj, hi] at hm
          exact (Option.some.inj hm).ge
      · next hnot =>
        refine ⟨n, hn, fun j hj m hm => ?_⟩
        obtain hj | hj := List.mem_append.1 hj
        · exact hmost j hj m hm
        · rw [List.mem_singleton.1 hj, hi] at hm
          cases hm
          exact not_lt.1 hnot

theorem headOf_among (v : Vector Sector 4) : headAmong v allSectors (headOf v) := by
  have hfold : ∀ (l done : List (Fin 4)) (best : Option (Fin 4)), headAmong v done best →
      headAmong v (done ++ l) (l.foldl (betterHead v) best) := by
    intro l
    induction l with
    | nil =>
      intro done best hbest
      rwa [List.append_nil]
    | cons i rest ih =>
      intro done best hbest
      have hnext := ih (done ++ [i]) _ (headAmong_snoc hbest i)
      rwa [List.append_assoc] at hnext
  exact hfold allSectors [] none fun i hi => absurd hi List.not_mem_nil

/-- The next sequence that the scan finds follows all numbers given: a number above it would be shared with a slot of
the head (R140). -/
theorem scanRecords_follows (ha : numbersApart st.sectors) : st.scanRecords.follows := by
  obtain ⟨hapart, hslots⟩ := ha
  have hall : ∀ i : Fin 4, i ∈ allSectors := by decide
  have hamong := headOf_among st.sectors
  unfold Store.scanRecords Store.follows
  dsimp only
  cases hhead : headOf st.sectors with
  | none =>
    rw [hhead] at hamong
    have hnone : ∀ (i : Fin 4) (n : Nat), st.sectors[i].mark ≠ .valid n := fun i n hmark => by
      have hfirst := hamong i (hall i)
      rw [(firstSeq_eq _ n).2 hmark] at hfirst
      cases hfirst
    exact ⟨fun i n hmark => absurd hmark (hnone i n), nofun⟩
  | some h =>
    rw [hhead] at hamong
    obtain ⟨k, hk, hmost⟩ := hamong
    have hkmark : st.sectors[h].mark = .valid k := (firstSeq_eq _ k).1 hk
    have hklen : 0 < st.sectors[h].slots.length := List.length_pos_iff.2 (hslots h k hkmark)
    dsimp only
    rw [hk, Option.getD_some]
    refine ⟨fun i n hmark => ?_, fun j n hj hmark => ?_⟩
    · have hle : n ≤ k := hmost i (hall i) n ((firstSeq_eq _ n).2 hmark)
      by_contra hnot
      have hsame : i = h := hapart i h n k (k - n) 0 hmark hkmark (by omega) hklen (by omega)
      rw [hsame, hkmark] at hmark
      cases hmark
      rw [hsame] at hnot
      exact hnot le_rfl
    · cases hj
      rw [hkmark] at hmark
      cases hmark
      rfl

/-- The scan, begun or gone on: the numbers stay apart, and once nothing is left to erase the next sequence follows. -/
def Store.scansOn (st u : Store) : Prop :=
  numbersApart u.sectors ∧ (u.reErase = [] → u.follows)
    ∧ ((∃ p, u.array = .programming p) → ∃ p, st.array = .programming p)

theorem scanRecords_scansOn {u : Store} (ha : numbersApart u.sectors)
    (harray : (∃ p, u.array = .programming p) → ∃ p, st.array = .programming p) : st.scansOn u.scanRecords :=
  ⟨ha, fun _ => scanRecords_follows ha, harray⟩

theorem startScan_scansOn (ha : numbersApart st.sectors) : st.scansOn st.startScan := by
  unfold Store.startScan
  split
  · exact scanRecords_scansOn ha id
  · next i rest _ =>
    refine ⟨ha, fun hover => absurd hover (List.cons_ne_nil i rest), ?_⟩
    rintro ⟨p, hp⟩
    cases hp

theorem scanErased_scansOn (ha : numbersApart st.sectors) (hf : st.reErase = [] → st.follows) :
    st.scansOn st.scanErased := by
  unfold Store.scanErased
  split
  · exact ⟨ha, hf, id⟩
  · next i rest _ =>
    have hblank : numbersApart (st.sectors.set i Sector.blank) := apart_leaves rfl ha
    dsimp only
    cases rest with
    | nil =>
      refine scanRecords_scansOn hblank ?_
      rintro ⟨p, hp⟩
      cases hp
    | cons j more =>
      refine ⟨hblank, fun hover => absurd hover (List.cons_ne_nil j more), ?_⟩
      rintro ⟨p, hp⟩
      cases hp

/-! ## Every step -/

theorem numbersOnce_active (hactive : s.storeActive = true) (ha : numbersApart s.store.sectors)
    (hf : s.store.follows) : s.numbersOnce :=
  numbersOnce_iff.2 ⟨ha, fun _ => hf, fun _ => hactive⟩

theorem area_timeless (e : t.store.timeless = s.store.timeless) : t.store.area = s.store.area
    ∧ t.store.reErase = s.store.reErase
    ∧ ((∃ p, t.store.array = .programming p) → ∃ p, s.store.array = .programming p) := by
  have hfields : ∀ st : Store, st.timeless.area = st.area ∧ st.timeless.reErase = st.reErase
      ∧ ((∃ p, st.timeless.array = .programming p) ↔ ∃ p, st.array = .programming p) := fun st => by
    refine ⟨rfl, rfl, ?_⟩
    unfold Store.timeless
    cases st.array <;> simp
  obtain ⟨harea, herase, harray⟩ := hfields t.store
  obtain ⟨harea', herase', harray'⟩ := hfields s.store
  rw [e] at harea herase harray
  exact ⟨harea.symm.trans harea', herase.symm.trans herase', fun hp => harray'.1 (harray.2 hp)⟩

/-- While the scan goes on no program runs. -/
theorem numbersOnce_scanning (hphase : t.phase = .scanning) (hstill : s.storeActive = false)
    (hprogram : (∃ p, s.store.array = .programming p) → s.storeActive = true) (h : s.store.scansOn t.store) :
    t.numbersOnce := by
  obtain ⟨ha, hf, hp⟩ := h
  refine numbersOnce_iff.2 ⟨ha, fun hstand => hf ?_, fun hprogramming => ?_⟩
  · unfold State.numbersStand State.scanned State.storeActive at hstand
    rw [hphase] at hstand
    obtain hstand | hstand | ⟨-, hover⟩ := hstand
    · cases hstand
    · cases hstand
    · exact hover
  · have hactive := hprogram (hp hprogramming)
    rw [hstill] at hactive
    cases hactive

theorem numbersOnce_invariant : StoreInvariant State.numbersOnce where
  same {s t} h hphase hstore := by
    obtain ⟨ha, hf, hp⟩ := numbersOnce_iff.1 h
    obtain ⟨harea, herase, harray⟩ := area_timeless hstore
    have hactive := storeActive_of_phase hphase
    have hsectors : t.store.sectors = s.store.sectors := congrArg Prod.fst harea
    refine numbersOnce_iff.2 ⟨hsectors ▸ ha, fun hstand => follows_congr harea (hf ?_), fun ht => ?_⟩
    · unfold State.numbersStand State.scanned at hstand ⊢
      rwa [hactive, hphase, herase] at hstand
    · rw [hactive]
      exact hp (harray ht)
  onStore {s f} hactive harea h := by
    obtain ⟨ha, hf, -⟩ := numbersOnce_iff.1 h
    have hsectors : (f s.store).sectors = s.store.sectors := congrArg Prod.fst harea
    exact numbersOnce_active hactive (show numbersApart (f s.store).sectors from hsectors ▸ ha)
      (follows_congr harea (hf (.inl hactive)))
  write {s f slot opens} hactive harea h := by
    obtain ⟨ha, hf, -⟩ := numbersOnce_iff.1 h
    obtain ⟨ha', hf'⟩ := writeSlot_numbers slot opens ha (hf (.inl hactive))
    have hsectors : (f s.store).sectors = (s.store.writeSlot slot opens).sectors := congrArg Prod.fst harea
    exact numbersOnce_active hactive (show numbersApart (f s.store).sectors from hsectors ▸ ha')
      (follows_congr harea hf')
  leave {s f i x} hactive hx harea h := by
    obtain ⟨ha, hf, -⟩ := numbersOnce_iff.1 h
    have hsectors : (f s.store).sectors = s.store.sectors.set i x := congrArg Prod.fst harea
    refine numbersOnce_active hactive (show numbersApart (f s.store).sectors from hsectors ▸ apart_leaves hx ha) ?_
    exact follows_congr (st := { s.store with sectors := s.store.sectors.set i x }) harea
      (follow_leaves hx (hf (.inl hactive)))
  forward {s p} hactive hp h := by
    obtain ⟨ha, hf, -⟩ := numbersOnce_iff.1 h
    exact numbersOnce_active (s := s.withPhase p) (by obtain rfl | rfl := hp <;> rfl) ha (hf (.inl hactive))
  starts {s p} hp h := by
    obtain ⟨ha, hf, hprogram⟩ := numbersOnce_iff.1 h
    have hcut := cutArray_apart ha fun hp => hf (.inl (hprogram hp))
    refine numbersOnce_iff.2 ⟨hcut, fun hstand => absurd hstand ?_, fun ⟨p, hp⟩ => nomatch hp⟩
    unfold State.numbersStand State.scanned
    obtain rfl | rfl := hp <;> simp [abandonAll, State.storeActive]
  scans {s} hphase h := by
    obtain ⟨ha, -, hprogram⟩ := numbersOnce_iff.1 h
    have hstill : s.storeActive = false := by
      unfold State.storeActive
      obtain hwas | hwas := hphase <;> rw [hwas] <;> rfl
    exact numbersOnce_scanning (t := beginScan s) rfl hstill hprogram (startScan_scansOn ha)
  erased {s} hphase h := by
    obtain ⟨ha, hf, hprogram⟩ := numbersOnce_iff.1 h
    have hstill : s.storeActive = false := by rw [State.storeActive, hphase]; rfl
    exact numbersOnce_scanning (t := s.onStore Store.scanErased) hphase hstill hprogram
      (scanErased_scansOn ha fun hover => hf (.inr (.inr ⟨hphase, hover⟩)))
  handed {s p} hscanned hp h := by
    obtain ⟨ha, hf, hprogram⟩ := numbersOnce_iff.1 h
    refine numbersOnce_iff.2 ⟨ha, fun _ => hf (.inr hscanned), fun hprogramming => ?_⟩
    have hactive := hprogram hprogramming
    rw [scanned_inactive hscanned] at hactive
    cases hactive

theorem numbersOnce_step (hw : s.storeWaits) (h : s.numbersOnce) (e : step s = .next t) : t.numbersOnce :=
  numbersOnce_invariant.step hw h e

theorem reset_numbersOnce : State.reset.numbersOnce := by
  have hblank : ∀ (i : Fin 4) (n : Nat), State.reset.store.sectors[i].mark ≠ .valid n := fun i n => by
    simp [State.reset, Store.first, Sector.blank]
  refine numbersOnce_iff.2 ⟨⟨fun i _ n _ _ _ hmark => absurd hmark (hblank i n),
    fun i n hmark => absurd hmark (hblank i n)⟩,
    fun _ => ⟨fun i n hmark => absurd hmark (hblank i n), fun h _ hhead => ?_⟩, ?_⟩
  · cases hhead
  · rintro ⟨p, hp⟩
    cases hp

/-! ## The zones before the end of start-up (R61) -/

/-- A zone that rests. -/
def Zone.rests (zn : Zone) : Prop := zn.state = .idle ∧ zn.call = false

theorem zonesRest_congr (hzones : ∀ z : Fin 6, s.zone.zones[z].rests → t.zone.zones[z].rests)
    (hrun : t.running = s.running) (h : s.zonesRest) : t.zonesRest := fun hstill z =>
  hzones z (h (hrun ▸ hstill) z)

theorem zonesRest_running (hrun : s.running = true) : s.zonesRest := fun hstill => by
  rw [hrun] at hstill
  cases hstill

theorem zonesRest_invariant : ZoneInvariant State.zonesRest where
  same {s t} h hrun hzone _ := zonesRest_congr (fun z hz => by rw [hzone]; exact hz) hrun h
  still {s t} h hstill _ hzone := fun _ z => by
    rw [hzone]
    exact h hstill z
  first _ hzone := fun _ z => by
    rw [first_states hzone z]
    exact ⟨rfl, rfl⟩
  event {s t} hrun e _ := zonesRest_running ((running_of_hide _ e.hide (by decide)).trans hrun)
  holdBegins {s} h := by
    have e : (zonesHoldBegins s).hide [.loop, .zone, .posts] = s.hide [.loop, .zone, .posts] := by simp
    refine zonesRest_congr (fun z hz => ?_) (running_of_hide _ e (by decide)) h
    rw [(zonesHoldBegins_zone s).1 z]
    exact ⟨rfl, hz.2⟩
  holdEnds {s} h := by
    have e : (zonesHoldEnds s).hide [.zone, .posts] = s.hide [.zone, .posts] := by simp
    refine zonesRest_congr (fun z hz => ?_) (running_of_hide _ e (by decide)) h
    have hstays : ¬ (s.zone.zones[z].call = true ∧ s.zone.zones[z].state = .idle) := fun hcalls => by
      rw [hz.2] at hcalls
      cases hcalls.1
    rw [(zonesHoldEnds_zone s).1 z, Zone.holdEnded, if_neg hstays]
    exact hz
  tick {s} h := zonesRest_congr (s := s) (fun z hz => by simpa [Zone.tick, Zone.rests] using hz) rfl h
  begins {s t} _ hrun _ _ := by
    have e : (zonesBegin t).hide [.loop, .zone, .posts] = t.hide [.loop, .zone, .posts] := by simp
    exact zonesRest_running ((running_of_hide _ e (by decide)).trans hrun)

theorem zonesRest_step (h : s.zonesRest) (e : step s = .next t) : t.zonesRest := zonesRest_invariant.step h e

theorem reset_zonesRest : State.reset.zonesRest := zonesRest_invariant.first rfl rfl

end Sys2Proof.Machine
end

section
/-! PROOF. The edges of MAINS_OK that were held, as SUPPLY takes them in the hand-over (O15; R153, R154, R156). -/

namespace Sys2Proof.Machine

variable {s t u x : State}

/-! ## What the beginning of the hold leaves (R36, R61) -/

/-- The stages on their way to the blocks that take them (R132). -/
def Posts.stages (p : Posts) : List FuelStage × List FuelStage × List FuelStage :=
  (p.stageBurn, p.stageZone, p.stageLoop)

theorem stages_zoneKeeps : ZoneKeeps Posts.stages := ⟨fun _ _ => rfl, fun _ _ => rfl⟩

theorem outHoldBegins_stages (s : State) : (outHoldBegins s).posts.stages = s.posts.stages := by
  have hresolve : ∀ (v : State) (ch : Fin 10), (resolveChannel ch v).posts.stages = v.posts.stages := fun v ch => by
    have hpump : ∀ w : State, (evaluatePump w).posts.stages = w.posts.stages := fun w => by
      unfold evaluatePump
      split <;> rfl
    unfold resolveChannel
    dsimp only
    split
    · rfl
    · split
      · exact hpump _
      · rfl
  have hclear : (clearAllCounts (resolveAll s)).posts = (resolveAll s).posts :=
    hide_eq_iff.1 (show (clearAllCounts (resolveAll s)).hide [.out] = (resolveAll s).hide [.out] by simp)
      .posts (by decide)
  unfold outHoldBegins
  rw [hclear]
  unfold resolveAll eachChannel
  exact foldl_keeps (fun v => v.posts.stages) hresolve _ s

theorem zonesHoldBegins_stages (s : State) : (zonesHoldBegins s).posts.stages = s.posts.stages := by
  have hwrite : ∀ (z : Fin 6) (v : State), (writeToZoneNode z .faultLamp 0 v).posts = v.posts := fun z v =>
    hide_eq_iff.1 (hide_writeToZoneNode z _ _ v (F := [.loop]) (by decide)) .posts (by decide)
  have hzone : ∀ (z : Fin 6) (v : State), (zoneHoldBegins z v).posts.stages = v.posts.stages := fun z v => by
    unfold zoneHoldBegins
    dsimp only
    split
    · exact (congrArg Posts.stages (hwrite z _)).trans (stages_zoneKeeps.zoneTo _ _ _ _)
    · exact stages_zoneKeeps.zoneTo _ _ _ _
  exact (stages_zoneKeeps.formOutputs _).trans (ZoneKeeps.eachZone hzone s)

/-- With every zone at rest no lamp is put out. -/
theorem zonesHoldBegins_loop (hrests : ∀ z : Fin 6, s.zone.zones[z].rests) :
    (zonesHoldBegins s).loop = s.loop := by
  have hfold : ∀ (l : List (Fin 6)) (v : State), (∀ z : Fin 6, v.zone.zones[z].rests) →
      (l.foldl (fun v z => zoneHoldBegins z v) v).loop = v.loop := by
    intro l
    induction l with
    | nil => exact fun _ _ => rfl
    | cons z rest ih =>
      intro v hv
      have hlit : ¬ (v.zoneAt z).state = .fault := fun hfault => by
        have hidle : v.zone.zones[z].state = .idle := (hv z).1
        rw [show v.zone.zones[z].state = .fault from hfault] at hidle
        cases hidle
      have hone : zoneHoldBegins z v = zoneTo z .idle .stopped v := if_neg hlit
      have hloop : (zoneTo z .idle .stopped v).loop = v.loop :=
        hide_eq_iff.1 (hide_zoneTo z _ _ v (F := [.zone, .posts]) (by decide) (by decide)) .loop (by decide)
      refine (ih (zoneHoldBegins z v) fun y => ?_).trans (hone ▸ hloop)
      rw [zoneHoldBegins_entry]
      split
      · exact ⟨rfl, (hv z).2⟩
      · exact hv y
  have hform : ∀ v : State, (formOutputs v).loop = v.loop := fun v =>
    hide_eq_iff.1 (show (formOutputs v).hide [.zone, .posts] = v.hide [.zone, .posts] by simp) .loop (by decide)
  exact (hform _).trans (hfold allZones s hrests)

/-! ## An edge that was held (R156, R157) -/

/-- SUPPLY has its level, BURN has not derived its state, and the zones and STORE rest (R61, R151). -/
def State.awaitsBurner (s : State) : Prop :=
  s.phase = .burnerWait ∧ s.store.answers = [] ∧ ∀ z : Fin 6, s.zone.zones[z].rests

/-- What SUPPLY's edges leave, and what they leave of the rest, before BURN has derived its state. -/
structure State.edgesTaken (s t : State) : Prop where
  same : t.hide [.inputs, .out, .zone, .gauge, .supply, .link, .posts]
    = s.hide [.inputs, .out, .zone, .gauge, .supply, .link, .posts]
  stages : t.posts.stages = s.posts.stages
  gauge : ∃ d, t.gauge = { s.gauge with due := d }
  zones : ∀ z : Fin 6, t.zone.zones[z].rests
  notices : ∀ n ∈ s.link.notices, n ∈ t.link.notices

namespace State.edgesTaken

theorem refl (h : s.awaitsBurner) : s.edgesTaken s := ⟨rfl, rfl, ⟨_, rfl⟩, h.2.2, fun _ h => h⟩

theorem trans (h : s.edgesTaken u) (ht : u.edgesTaken t) : s.edgesTaken t := by
  obtain ⟨hsame, hstages, ⟨_, hgauge⟩, -, hnotices⟩ := h
  obtain ⟨tsame, tstages, ⟨d, tgauge⟩, tzones, tnotices⟩ := ht
  refine ⟨tsame.trans hsame, tstages.trans hstages, ⟨d, ?_⟩, tzones, fun n hn => tnotices n (hnotices n hn)⟩
  rw [tgauge, hgauge]

/-- A change of the inputs and of SUPPLY after them. -/
theorem quiet (h : s.edgesTaken u) (e : t.hide [.inputs, .supply] = u.hide [.inputs, .supply]) : s.edgesTaken t := by
  have hsame := hide_eq_iff.1 e
  obtain ⟨hsames, hstages, ⟨d, hgauge⟩, hzones, hnotices⟩ := h
  refine ⟨(hide_of_subset (by decide) e).trans hsames, ?_, ⟨d, ?_⟩, fun z => ?_, fun n hn => ?_⟩
  · rw [show t.posts = u.posts from hsame .posts (by decide)]
    exact hstages
  · rw [show t.gauge = u.gauge from hsame .gauge (by decide)]
    exact hgauge
  · rw [show t.zone = u.zone from hsame .zone (by decide)]
    exact hzones z
  · rw [show t.link = u.link from hsame .link (by decide)]
    exact hnotices n hn

theorem awaits (h : s.awaitsBurner) (ht : s.edgesTaken t) : t.awaitsBurner := by
  obtain ⟨hphase, hanswers, -⟩ := h
  have hsame := hide_eq_iff.1 ht.same
  refine ⟨(hsame .phase (by decide)).trans hphase, ?_, ht.zones⟩
  rw [show t.store = s.store from hsame .store (by decide)]
  exact hanswers

end State.edgesTaken

/-- The state in which the blocks are told that the hold stands (R156). -/
def holdStanding (s : State) : State :=
  postNotice .mains (s.onSupply fun p => { p with hold := true, holdStart := s.now, returnTimer := none })

/-- Before BURN has derived its state a hold that begins rests the plant, and its telling waits (R154, R156). -/
theorem beginHold_awaiting (h : s.awaitsBurner) (order : HoldOrder) : beginHold order s
    = (plantHeld (holdStanding s)).onInputs fun i => { i with held := i.held ++ [.hold true] } := by
  obtain ⟨hphase, hanswers, -⟩ := h
  have e := plantHeld_hide (holdStanding s)
  have hinactive : (plantHeld (holdStanding s)).burnActive = false := by
    rw [burnActive_of_hide _ e (by decide)]
    change s.burnActive = false
    rw [State.burnActive, hphase]
    rfl
  have hstore : (plantHeld (holdStanding s)).store = s.store := hide_eq_iff.1 e .store (by decide)
  have htold := tellBurn_before true (burnTakesHold order) hinactive
  have hbegins : beginHold order s = settle (tellBurn true (burnTakesHold order) (plantHeld (holdStanding s))) := rfl
  rw [hbegins, htold]
  refine settle_without_answers _ ?_
  rw [onInputs_store, hstore]
  exact hanswers

theorem plantHeld_edgesTaken (h : s.awaitsBurner) : s.edgesTaken (plantHeld s) := by
  have hzones : ∀ z : Fin 6, s.zone.zones[z].rests := h.2.2
  have e := plantHeld_hide s
  obtain ⟨-, hzone, hzone', hgauge⟩ := plantHeld_parts s
  have hloop : (plantHeld s).loop = s.loop := by
    have hout : (outHoldBegins s).loop = s.loop :=
      hide_eq_iff.1 (hide_outHoldBegins s (F := [.out, .posts]) (by decide) (by decide)) .loop (by decide)
    unfold plantHeld
    rw [onGauge_loop, zonesHoldBegins_loop, hout]
    intro z
    rw [hzone']
    exact hzones z
  have hothers : ∀ b : Block, b ∉ [.inputs, .out, .zone, .gauge, .supply, .link, .posts] → b ≠ .loop →
      b ∉ [.out, .loop, .zone, .gauge, .posts] := fun b => by cases b <;> decide
  refine ⟨hide_eq_iff.2 fun b hb => ?_, ?_, ⟨none, hgauge⟩, fun z => ?_, fun n hn => ?_⟩
  · by_cases hb' : b = .loop
    · subst hb'
      exact hloop
    exact hide_eq_iff.1 e b (hothers b hb hb')
  · unfold plantHeld
    rw [onGauge_posts, zonesHoldBegins_stages, outHoldBegins_stages]
  · have hrests := (zonesHoldBegins_zone (outHoldBegins s)).1 z
    rw [hzone'] at hrests
    rw [hzone, hrests]
    exact ⟨rfl, (hzones z).2⟩
  · rw [show (plantHeld s).link = s.link from hide_eq_iff.1 e .link (by decide)]
    exact hn

theorem beginHold_edgesTaken (h : s.awaitsBurner) (order : HoldOrder) : s.edgesTaken (beginHold order s)
    ∧ (beginHold order s).inputs = { s.inputs with held := s.inputs.held ++ [.hold true] }
    ∧ (beginHold order s).supply = { s.supply with hold := true, holdStart := s.store.runMinute, returnTimer := none }
    ∧ .mains ∈ (beginHold order s).link.notices := by
  obtain ⟨u, hu⟩ : ∃ u, u = holdStanding s := ⟨_, rfl⟩
  have hstands : s.edgesTaken u := by
    rw [hu]
    exact ⟨by simp [holdStanding], rfl, ⟨_, rfl⟩, h.2.2, fun n hn => mem_insertNotice.2 (.inr hn)⟩
  have hheld := plantHeld_edgesTaken (hstands.awaits h)
  have hsame := hide_eq_iff.1 (plantHeld_hide u)
  have hinputs : (plantHeld u).inputs = u.inputs := hsame .inputs (by decide)
  have hsupply : (plantHeld u).supply = u.supply := hsame .supply (by decide)
  have hmains : .mains ∈ u.link.notices := by
    rw [hu]
    exact mem_insertNotice.2 (.inl rfl)
  have hwaits : s.edgesTaken ((plantHeld u).onInputs fun i => { i with held := i.held ++ [.hold true] }) :=
    (hstands.trans hheld).quiet (hide_onInputs _ _ List.mem_cons_self)
  rw [beginHold_awaiting h order, ← hu]
  refine ⟨hwaits, ?_, ?_, ?_⟩
  · rw [onInputs_inputs, hinputs, hu]
    rfl
  · rw [onInputs_supply, hsupply, hu]
    rfl
  · rw [onInputs_link]
    exact hheld.notices _ hmains

theorem supplyActive_awaiting (h : s.awaitsBurner) : s.supplyActive = true := by
  obtain ⟨hphase, -⟩ := h
  rw [State.supplyActive, hphase]
  rfl

/-- SUPPLY takes an edge that was held. -/
theorem supplyTakesHeld_edgesTaken (h : s.awaitsBurner) (e : Held) : s.edgesTaken (supplyTakesHeld s e) := by
  cases e with
  | hold _ => exact .refl h
  | edge x v =>
    have hlevel : s.edgesTaken (setLevel x v s) := (State.edgesTaken.refl h).quiet (by unfold setLevel; simp)
    unfold supplyTakesHeld
    dsimp only
    split
    · refine hlevel.quiet ?_
      unfold mainsRises
      split <;> simp
    · unfold mainsFalls
      split
      · split
        · exact hlevel.quiet (by simp)
        · exact hlevel.trans (beginHold_edgesTaken (hlevel.awaits h) _).1
      · exact hlevel

/-- SUPPLY takes the edges of MAINS_OK that came before it took the first level (R153; log entries 27, 85). -/
theorem handMains_edgesTaken (h : s.awaitsBurner) : s.edgesTaken (handMains s) := by
  have hfold : ∀ (l : List Held) (v : State), v.awaitsBurner → v.edgesTaken (l.foldl supplyTakesHeld v) := by
    intro l
    induction l with
    | nil => exact fun v hv => .refl hv
    | cons e rest ih =>
      intro v hv
      have htaken := supplyTakesHeld_edgesTaken hv e
      exact htaken.trans (ih _ (htaken.awaits hv))
  have hfirst : s.edgesTaken (s.onInputs fun i => { i with held := i.held.filter fun h => !Held.ofSupply h }) :=
    ⟨by simp, rfl, ⟨_, rfl⟩, h.2.2, fun _ hn => hn⟩
  exact hfirst.trans (hfold _ _ (hfirst.awaits h))

/-! ## None held, and one held -/

/-- What waits of the inputs once SUPPLY has taken its edges. -/
def Inputs.supplyServed (i : Inputs) : Inputs := { i with held := i.held.filter fun h => !Held.ofSupply h }

theorem handMains_eq (s : State) :
    handMains s = (s.inputs.held.filter Held.ofSupply).foldl supplyTakesHeld (s.onInputs Inputs.supplyServed) := rfl

theorem handMains_none (hnone : ∀ up : Bool, .edge .mainsOk up ∉ s.inputs.held) : handMains s = s := by
  have hsort : ∀ e ∈ s.inputs.held, Held.ofSupply e = false := fun e he => by
    cases e with
    | hold _ => rfl
    | edge x v =>
      refine decide_eq_false fun hx => hnone v ?_
      rw [← hx]
      exact he
  have hserved : s.inputs.supplyServed = s.inputs := by
    have hheld : s.inputs.held.filter (fun h => !Held.ofSupply h) = s.inputs.held :=
      List.filter_eq_self.2 fun e he => by rw [hsort e he]; rfl
    unfold Inputs.supplyServed
    rw [hheld]
  have hall : s.onInputs Inputs.supplyServed = s := by
    unfold State.onInputs
    rw [hserved]
  have hempty : s.inputs.held.filter Held.ofSupply = [] :=
    List.filter_eq_nil_iff.2 fun e he => by rw [hsort e he]; exact Bool.false_ne_true
  rw [handMains_eq, hempty, hall]
  rfl

theorem handMains_one {v : Bool} (hheld : s.inputs.held = [.edge .mainsOk v]) :
    handMains s = supplyTakesHeld (s.onInputs Inputs.supplyServed) (.edge .mainsOk v) := by
  rw [handMains_eq, hheld]
  rfl

theorem supplyServed_one {v : Bool} {i : Inputs} (hheld : i.held = [.edge .mainsOk v]) :
    i.supplyServed = { i with held := [] } := by
  unfold Inputs.supplyServed
  rw [hheld]
  rfl

/-- A fall held, and no hold yet: the hold begins, and its telling waits for BURN (R156; log entries 83, 85). -/
theorem handMains_falls (h : s.awaitsBurner) (hhold : s.supply.hold = false)
    (hheld : s.inputs.held = [.edge .mainsOk false]) :
    (handMains s).inputs = { s.inputs with mainsOk := some false, held := [.hold true] }
    ∧ (handMains s).supply = { s.supply with hold := true, holdStart := s.store.runMinute, returnTimer := none }
    ∧ .mains ∈ (handMains s).link.notices := by
  obtain ⟨u, hu⟩ : ∃ u, u = setLevel .mainsOk false (s.onInputs Inputs.supplyServed) := ⟨_, rfl⟩
  have hawaits : u.awaitsBurner := by rw [hu]; exact h
  have hinputs : u.inputs = { s.inputs with mainsOk := some false, held := [] } := by
    rw [hu, setLevel, onInputs_inputs, onInputs_inputs, supplyServed_one hheld]
    rfl
  have hsupply : u.supply = s.supply := by rw [hu]; rfl
  have hstore : u.store = s.store := by rw [hu]; rfl
  have hholds : ¬ u.supply.hold = true := by
    rw [hsupply, hhold]
    exact Bool.false_ne_true
  have hfalls : handMains s = beginHold .supplyFirst u := by
    rw [handMains_one hheld, supplyTakesHeld, if_neg Bool.false_ne_true, ← hu, mainsFalls,
      if_pos (supplyActive_awaiting hawaits), if_neg hholds]
  obtain ⟨-, hinputs', hsupply', hmains⟩ := beginHold_edgesTaken hawaits .supplyFirst
  rw [hfalls, hinputs', hsupply', hinputs, hsupply, hstore]
  exact ⟨rfl, rfl, hmains⟩

/-- A rise held, in the hold: the return timer is loaded (R157; log entry 85). -/
theorem handMains_rises (h : s.awaitsBurner) (hhold : s.supply.hold = true)
    (hheld : s.inputs.held = [.edge .mainsOk true]) :
    (handMains s).inputs = { s.inputs with mainsOk := some true, held := [] }
    ∧ (handMains s).supply = { s.supply with returnTimer := some 30000 } := by
  obtain ⟨u, hu⟩ : ∃ u, u = setLevel .mainsOk true (s.onInputs Inputs.supplyServed) := ⟨_, rfl⟩
  have hawaits : u.awaitsBurner := by rw [hu]; exact h
  have hinputs : u.inputs = { s.inputs with mainsOk := some true, held := [] } := by
    rw [hu, setLevel, onInputs_inputs, onInputs_inputs, supplyServed_one hheld]
    rfl
  have hsupply : u.supply = s.supply := by rw [hu]; rfl
  have hholds : (u.supplyActive && u.supply.hold) = true := by
    rw [supplyActive_awaiting hawaits, hsupply, hhold]
    rfl
  have hrises : handMains s = u.onSupply fun p => { p with returnTimer := secondsTimer returnSeconds } := by
    rw [handMains_one hheld, supplyTakesHeld, if_pos rfl, ← hu, mainsRises, if_pos hholds]
  rw [hrises, onSupply_inputs, onSupply_supply, hinputs, hsupply]
  exact ⟨rfl, rfl⟩

end Sys2Proof.Machine
end

section
/-! PROOF. What the records found give GAUGE, FUEL and BURN at a start (O15; R102, R120, R135). -/

namespace Sys2Proof.Machine

variable {st : Store} {r : Record} {p stop : Record → Bool}

/-! ## The newest records of a history -/

theorem newest_history (hn : st.numbered) : newest p st.history = some r ↔ st.newestOf p r := by
  obtain ⟨hsorted, hkeeps⟩ := history_sorted st hn
  rw [newest_eq_some_iff hsorted]
  simp only [hkeeps]
  rfl

theorem newest_history_none (hn : st.numbered) (hnone : ∀ x, st.keeps x → p x = false) :
    newest p st.history = none := by
  obtain ⟨-, hkeeps⟩ := history_sorted st hn
  unfold newest
  rw [List.getLast?_eq_none_iff, List.filter_eq_nil_iff]
  intro x hx
  rw [hnone x ((hkeeps x).1 hx)]
  exact Bool.false_ne_true

/-- The newest of a kind is listed alone when none of `stop` follows it. -/
theorem newestUnless_history (hn : st.numbered) (hnewest : st.newestOf p r) (hnot : ¬ st.followed stop r) :
    newestUnless p stop st.history = [r] := by
  have hmem : r ∈ newestUnless p stop st.history := (mem_newestUnless_history hn).2 ⟨hnewest, hnot⟩
  unfold newestUnless at hmem ⊢
  rw [(newest_history hn).2 hnewest] at hmem ⊢
  dsimp only [standing] at hmem ⊢
  split at hmem
  · cases hmem
  · next hnone => exact if_neg hnone

theorem newestUnless_history_none (hn : st.numbered) (hfollowed : ∀ r, st.newestOf p r → st.followed stop r) :
    newestUnless p stop st.history = [] := by
  refine List.eq_nil_iff_forall_not_mem.2 fun r hr => ?_
  obtain ⟨hnewest, hnot⟩ := (mem_newestUnless_history hn).1 hr
  exact hnot (hfollowed r hnewest)

/-! ## The account (R120, R135) -/

theorem restoredGauge_newest (hn : st.numbered) {x m f l : Nat}
    (hnewest : st.newestOf Record.isGauge r) (hpayload : r.payload = .gauge x m f l) :
    restoredGauge st.history = (x, r.stamp, l) := by
  unfold restoredGauge
  rw [(newest_history hn).2 hnewest]
  simp only [hpayload]

theorem restoredGauge_none (hn : st.numbered) (hnone : ∀ x, st.keeps x → x.isGauge = false) :
    restoredGauge st.history = (0, 0, 0) := by
  unfold restoredGauge
  rw [newest_history_none hn hnone]

theorem restoredLeak_iff (hn : st.numbered) : restoredLeak st.history = true ↔
    ∃ r, st.newestOf Record.isLeak r ∧ r.isSuspect = true ∧ ¬ st.followed Record.isDelivery r := by
  have hlisted : ∀ l : List Record, (l.length != 0) = true ↔ ∃ r, r ∈ l := fun l => by
    rw [bne_iff_ne, Ne, List.length_eq_zero_iff, List.eq_nil_iff_forall_not_mem]
    push Not
    rfl
  unfold restoredLeak
  rw [hlisted]
  refine exists_congr fun r => ?_
  rw [List.mem_filter, mem_newestUnless_history hn, and_assoc]
  exact and_congr_right fun _ => and_comm

/-! ## BURN's history (R102) -/

/-- A RESET of AUTO or HOST younger than a day (R102). -/
def Record.countsReset (now : Nat) (r : Record) : Bool :=
  match r.payload with
  | .reset o _ _ => o.nonAttended && decide (now < r.stamp + 1440)
  | _ => false

theorem countsReset_iff (now : Nat) (r : Record) : r.countsReset now = true ↔ now < r.stamp + 1440
    ∧ ∃ o a n, r.payload = .reset o a n ∧ (o = .auto ∨ o = .host) := by
  have hauto : ∀ o : Origin, o.nonAttended = true ↔ o = .auto ∨ o = .host := fun o => by cases o <;> decide
  unfold Record.countsReset
  cases r.payload <;> simp [hauto, and_comm]

theorem restoredWindow_eq (now : Nat) (h : List Record) : restoredWindow now h
    = ((h.filter (Record.countsReset now)).drop ((h.filter (Record.countsReset now)).length - 3)).map Record.stamp := by
  rw [List.map_drop, ← List.length_map (f := Record.stamp) (as := h.filter (Record.countsReset now))]
  rfl

theorem restoredWindow_list (hn : st.numbered) {now : Nat} {l : List Record}
    (hsorted : l.Pairwise fun x y => x.origin < y.origin)
    (hl : ∀ r, r ∈ l ↔ st.keeps r ∧ now < r.stamp + 1440
      ∧ ∃ o a n, r.payload = .reset o a n ∧ (o = .auto ∨ o = .host)) :
    restoredWindow now st.history = (l.drop (l.length - 3)).map Record.stamp := by
  obtain ⟨hhistory, hkeeps⟩ := history_sorted st hn
  have hyoung : st.history.filter (Record.countsReset now) = l :=
    eq_of_origin_sorted (hhistory.filter _) hsorted fun r => by
      rw [List.mem_filter, hkeeps, countsReset_iff, hl]
  rw [restoredWindow_eq, hyoung]

theorem restoredRelock_list (hn : st.numbered) {l : List Record} (hsorted : l.Pairwise fun x y => x.origin < y.origin)
    (hl : ∀ r, r ∈ l ↔ st.failing r) : restoredRelock st.history = min l.length 2 := by
  obtain ⟨hhistory, -⟩ := history_sorted st hn
  have hfailures : (failuresSince st.history).Pairwise fun x y => x.origin < y.origin := by
    unfold failuresSince newerThan
    split
    · exact hhistory.filter _
    · exact (hhistory.filter _).filter _
  have hsame : failuresSince st.history = l :=
    eq_of_origin_sorted hfailures hsorted fun r => (mem_failuresSince_history hn).trans (hl r).symm
  rw [restoredRelock, hsame]

theorem restoredPending_newest (hn : st.numbered) {o : Origin} {a : Bool} {n : Nat}
    (hnewest : st.newestOf Record.isReset r) (hpayload : r.payload = .reset o a n)
    (hnot : ¬ st.followed Record.isOutcome r) : restoredPending st.history = some o := by
  unfold restoredPending
  rw [newestUnless_history hn hnewest hnot]
  simp only [hpayload]

theorem restoredPending_none (hn : st.numbered)
    (hfollowed : ∀ r, st.newestOf Record.isReset r → st.followed Record.isOutcome r) :
    restoredPending st.history = none := by
  rw [restoredPending, newestUnless_history_none hn hfollowed]

theorem standingLatch_newest (hn : st.numbered) {why : LatchReason} {n : Nat} (hnewest : st.newestOf Record.isLatch r)
    (hpayload : r.payload = .latch why n) (hnot : ¬ st.followed Record.isAck r) :
    standingLatch st.history = some why := by
  unfold standingLatch
  rw [newestUnless_history hn hnewest hnot]
  simp only [hpayload]

theorem standingLatch_none (hn : st.numbered)
    (hfollowed : ∀ r, st.newestOf Record.isLatch r → st.followed Record.isAck r) :
    standingLatch st.history = none := by
  rw [standingLatch, newestUnless_history_none hn hfollowed]

/-- A LOCKOUT of starvation that no RESET and no ACK follows. -/
def Store.starved (st : Store) (r : Record) : Prop :=
  st.newestOf Record.isLockout r ∧ r.isStarvation = true ∧ ¬ st.followed (fun x => x.isReset || x.isAck) r

theorem anyStarved_iff (hn : st.numbered) :
    (newestUnless Record.isLockout (fun r => r.isReset || r.isAck) st.history).any Record.isStarvation = true
      ↔ ∃ r, st.starved r := by
  rw [List.any_eq_true]
  refine exists_congr fun r => ?_
  rw [mem_newestUnless_history hn, and_assoc]
  exact and_congr_right fun _ => and_comm

theorem missingLatch_starved (hn : st.numbered) (h : st.starved r) : missingLatch st.history = some .starvation :=
  if_pos ((anyStarved_iff hn).2 ⟨r, h⟩)

theorem missingLatch_unstarved (hn : st.numbered) (h : ∀ r, ¬ st.starved r) : missingLatch st.history
    = if restoredRelock st.history == 2 && latchUnacknowledged st.history then some .relock else none :=
  if_neg fun hany => by
    obtain ⟨r, hr⟩ := (anyStarved_iff hn).1 hany
    exact h r hr

theorem latchUnacknowledged_none (hn : st.numbered) (hnone : ∀ x, st.keeps x → x.isLatch = false) :
    latchUnacknowledged st.history = true := by
  rw [latchUnacknowledged, newest_history_none hn hnone]

theorem latchUnacknowledged_followed (hn : st.numbered) (hnewest : st.newestOf Record.isLatch r)
    (hfollowed : st.followed Record.isAck r) : latchUnacknowledged st.history = false := by
  obtain ⟨-, hkeeps⟩ := history_sorted st hn
  obtain ⟨x, hkept, hack, hnewer⟩ := hfollowed
  have hany : (newerThan r st.history).any Record.isAck = true :=
    List.any_eq_true.2 ⟨x, List.mem_filter.2 ⟨(hkeeps x).2 hkept, decide_eq_true hnewer⟩, hack⟩
  rw [latchUnacknowledged, (newest_history hn).2 hnewest]
  dsimp only
  rw [hany]
  rfl

end Sys2Proof.Machine
end

section
/-! PROOF. The hand-over's counter and working set, and STORE's first look at rotation (O15; R137, R144, R154, R175). -/

namespace Sys2Proof.Machine

variable {st st' : Store} {s t : State} {r : Record}

/-! ## The run-minute counter (R137) -/

theorem foldl_max_stamp (l : List Record) (m : Nat) : m ≤ l.foldl (fun m x => max m x.stamp) m
    ∧ (∀ x ∈ l, x.stamp ≤ l.foldl (fun m x => max m x.stamp) m)
    ∧ (l.foldl (fun m x => max m x.stamp) m = m ∨ ∃ x ∈ l, l.foldl (fun m x => max m x.stamp) m = x.stamp) := by
  induction l generalizing m with
  | nil => exact ⟨le_refl m, nofun, .inl rfl⟩
  | cons a rest ih =>
    obtain ⟨hbelow, hall, hreached⟩ := ih (max m a.stamp)
    rw [List.foldl_cons]
    refine ⟨le_trans (le_max_left _ _) hbelow, fun x hx => ?_, ?_⟩
    · obtain rfl | hx := List.mem_cons.1 hx
      · exact le_trans (le_max_right _ _) hbelow
      · exact hall x hx
    · obtain hreached | ⟨x, hx, hreached⟩ := hreached
      · rw [hreached]
        obtain hm | ha := max_choice m a.stamp
        · exact .inl hm
        · exact .inr ⟨a, List.mem_cons_self, ha⟩
      · exact .inr ⟨x, List.mem_cons_of_mem _ hx, hreached⟩

/-- The counter goes on after the highest stamp found. -/
theorem countFrom_found (hr : st.found r) (hmost : ∀ x, st.found x → x.stamp ≤ r.stamp) :
    st.countFrom = min (r.stamp + 1) 4294967295 := by
  have hmem : ∀ x, x ∈ st.available ↔ st.found x := mem_available st
  unfold Store.countFrom
  cases havailable : st.available with
  | nil =>
    rw [← hmem, havailable] at hr
    cases hr
  | cons a rest =>
    have hfound : ∀ x ∈ a :: rest, x.stamp ≤ r.stamp := fun x hx => hmost x ((hmem x).1 (havailable ▸ hx))
    have hr' : r ∈ a :: rest := havailable ▸ (hmem r).2 hr
    obtain ⟨hbelow, hall, hreached⟩ := foldl_max_stamp rest a.stamp
    have hhighest : rest.foldl (fun m x => max m x.stamp) a.stamp = r.stamp := by
      refine le_antisymm ?_ ?_
      · obtain hreached | ⟨x, hx, hreached⟩ := hreached
        · rw [hreached]
          exact hfound a List.mem_cons_self
        · rw [hreached]
          exact hfound x (List.mem_cons_of_mem _ hx)
      · obtain rfl | hr' := List.mem_cons.1 hr'
        · exact hbelow
        · exact hall r hr'
    dsimp only
    rw [hhighest]

theorem countFrom_none (hnone : ∀ r, ¬ st.found r) : st.countFrom = 0 := by
  have hempty : st.available = [] :=
    List.eq_nil_iff_forall_not_mem.2 fun x hx => hnone x ((mem_available st x).1 hx)
  rw [Store.countFrom, hempty]

/-- The counter stands or goes on from the records found, and is set (R137). -/
theorem handTime_store (s : State) : (handTime s).store.minutesSet = true
    ∧ (s.store.minutesSet = true → (handTime s).store.runMinute = s.store.runMinute)
    ∧ (s.store.minutesSet = false → (handTime s).store.runMinute = s.store.countFrom) := by
  unfold handTime
  split
  · next hset => exact ⟨hset, fun _ => rfl, fun hunset => by rw [hset] at hunset; cases hunset⟩
  · next hunset => exact ⟨rfl, fun hset => absurd hset hunset, fun _ => rfl⟩

theorem handTime_hide (s : State) : (handTime s).hide [.store] = s.hide [.store] := by
  unfold handTime
  split <;> simp

/-! ## The working set (R175) -/

/-- Binding the nodes changes them alone (R45). -/
theorem handSettings_bound (s : State) : (handSettings s).hide [.loop] = (loadSettings s).hide [.loop] := by
  unfold handSettings
  dsimp only
  refine hide_foldl _ (fun u n => ?_) _ _
  split
  · unfold bindNode
    simp
  · rfl

theorem handSettings_image {w : Settings} (himage : s.store.settings = .image w) :
    (handSettings s).sett.working = w ∧ (handSettings s).sett.defaulted = false := by
  rw [show (handSettings s).sett = (loadSettings s).sett from hide_eq_iff.1 (handSettings_bound s) .sett (by decide),
    loadSettings, himage]
  exact ⟨rfl, rfl⟩

theorem handSettings_invalid (hinvalid : s.store.settings = .invalid) :
    (handSettings s).sett.working = factorySettings ∧ (handSettings s).sett.defaulted = true
    ∧ .settings ∈ (handSettings s).link.notices := by
  have hsame := hide_eq_iff.1 (handSettings_bound s)
  rw [show (handSettings s).sett = (loadSettings s).sett from hsame .sett (by decide),
    show (handSettings s).link = (loadSettings s).link from hsame .link (by decide), loadSettings, hinvalid]
  exact ⟨rfl, rfl, mem_insertNotice.2 (.inl rfl)⟩

/-! ## A look at rotation with nothing asked (R144) -/

theorem lookRotation_asks (hold : Bool) (st : Store) : (st.lookRotation hold).queue = st.queue
    ∧ (st.lookRotation hold).reading = st.reading ∧ (st.lookRotation hold).answers = st.answers
    ∧ (st.lookRotation hold).eraseDue = st.eraseDue ∧ (st.lookRotation hold).minutesSet = st.minutesSet := by
  unfold Store.lookRotation
  repeat' split
  all_goals exact ⟨rfl, rfl, rfl, rfl, rfl⟩

/-- Nothing is asked of STORE and KEEP's erase is not due; from `s` to `t` the settings and the counter's mark
stand. -/
def State.looks (s t : State) : Prop :=
  t.store.unasked ∧ .settings ∉ t.store.eraseDue ∧ t.store.minutesSet = s.store.minutesSet ∧ t.sett = s.sett

theorem serveInner_looks (hqueue : st.queue = []) (hdue : .settings ∉ st.eraseDue) (e : st.serveInner = some st') :
    .settings ∉ st'.eraseDue ∧ st'.minutesSet = st.minutesSet := by
  have happend : st.serveAppend = none := by rw [Store.serveAppend, hqueue]
  unfold Store.serveInner at e
  rw [happend] at e
  dsimp only at e
  split at e
  · next hcarry =>
    cases e
    unfold Store.serveCarry at hcarry
    repeat' split at hcarry
    all_goals cases hcarry
    · exact ⟨hdue, rfl⟩
    · exact ⟨hdue, rfl⟩
    · exact ⟨hdue, rfl⟩
    · refine ⟨fun hmem => ?_, rfl⟩
      obtain hmem | hmem := List.mem_append.1 hmem
      · exact hdue hmem
      · cases List.mem_singleton.1 hmem
  · unfold Store.serveKeep Store.serveSuspended at e
    repeat' split at e
    all_goals cases e
    · next hkeep =>
      split at hkeep
      · cases hkeep
        exact ⟨hdue, rfl⟩
      · cases hkeep
    · exact ⟨hdue, rfl⟩

namespace State.looks

theorem refl (h : s.store.unasked) (hdue : .settings ∉ s.store.eraseDue) : s.looks s := ⟨h, hdue, rfl, rfl⟩

theorem startErase (h : s.looks t) {u : State} (e : startErase t = some u) : s.looks u := by
  obtain ⟨hunasked, hdue, hset, hsett⟩ := h
  unfold Machine.startErase at e
  repeat' split at e
  all_goals cases e
  · next hlist => exact ⟨hunasked, fun hmem => hdue (hlist ▸ List.mem_cons_of_mem _ hmem), hset, hsett⟩
  · next hlist => exact absurd (hlist ▸ List.mem_cons_self) hdue

theorem serveOnce (h : s.looks t) {u : State} (e : serveOnce t = some u) : s.looks u := by
  have hunasked' := (State.idles.serveOnce h.1 e).1
  obtain ⟨⟨hqueue, hreading, hanswers⟩, hdue, hset, hsett⟩ := h
  unfold Machine.serveOnce at e
  rw [hreading] at e
  dsimp only at e
  split at e
  · next hinner =>
    cases e
    obtain ⟨hdue', hset'⟩ := serveInner_looks hqueue hdue hinner
    exact ⟨hunasked', hdue', hset'.trans hset, hsett⟩
  · exact startErase ⟨⟨hqueue, hreading, hanswers⟩, hdue, hset, hsett⟩ e

theorem serve (n : Nat) (h : s.looks t) : s.looks (serve n t) := by
  induction n generalizing t with
  | zero => exact h
  | succ n ih =>
    unfold Machine.serve
    split
    · split
      · next e => exact ih (h.serveOnce e)
      · exact h
    · exact h

theorem lookAtRotation (h : s.store.unasked) (hdue : .settings ∉ s.store.eraseDue) : s.looks (lookAtRotation s) := by
  obtain ⟨u, hu⟩ : ∃ u, u = s.onStore (Store.lookRotation s.supply.hold) := ⟨_, rfl⟩
  have hlook : s.looks u := by
    obtain ⟨hqueue, hreading, hanswers⟩ := h
    obtain ⟨equeue, ereading, eanswers, edue, eset⟩ := lookRotation_asks s.supply.hold s.store
    rw [hu]
    exact ⟨⟨equeue.trans hqueue, ereading.trans hreading, eanswers.trans hanswers⟩, fun hmem => hdue (edue ▸ hmem),
      eset, rfl⟩
  have hkicked : Machine.lookAtRotation s = kick u := by rw [hu]; rfl
  rw [hkicked]
  unfold kick
  split
  · exact hlook.serve _
  · split
    · refine State.looks.serve serveTurns ?_
      obtain ⟨hunasked, hdue', hset, hsett⟩ := hlook
      exact ⟨hunasked, hdue', hset, hsett⟩
    · exact hlook
  · exact hlook

end State.looks

end Sys2Proof.Machine
end

section
/-! PROOF. What the hand-over leaves once MAINS_OK has its level (O15; R102, R120, R135, R154). -/

namespace Sys2Proof.Machine

variable {s t u a x : State} {v : Bool}

/-! ## GAUGE, FUEL and BURN after a start -/

/-- GAUGE with the history's basis (R120). -/
def Gauge.restored (h : List Record) (g : Gauge) : Gauge :=
  { g with
    basis := (restoredGauge h).1, basisGood := false, offered := (restoredGauge h).1, status := .restored }

/-- FUEL with the history's account (R135). -/
def Fuel.restored (p : Settings) (h : List Record) (f : Fuel) : Fuel :=
  { f with
    value := (restoredGauge h).1, status := .restored, reference := (restoredGauge h).1
    refStamp := (restoredGauge h).2.1, refGood := false, awaiting := .start, lifetime := (restoredGauge h).2.2
    leakFlag := restoredLeak h, stage := plainStage p (restoredGauge h).1 }

/-- BURN with its recovery history (R102). -/
def Burn.restored (now : Nat) (h : List Record) (b : Burn) : Burn :=
  { b with
    window := restoredWindow now h
    relock := restoredRelock h
    proofPending := (restoredPending h).isSome
    pendingOrigin := restoredPending h
    latchReason := match standingLatch h with | some r => some r | none => missingLatch h
    latchMissing := (standingLatch h).isNone && (missingLatch h).isSome }

/-- The stage on its way to each of its takers (R132). -/
def Posts.staged (g : FuelStage) (p : Posts) : Posts :=
  { p with
    stageBurn := p.stageBurn ++ [g], stageZone := p.stageZone ++ [g], stageLoop := p.stageLoop ++ [g] }

theorem handHistory_parts (s : State) : (handHistory s).gauge = s.gauge.restored s.store.history
    ∧ (handHistory s).fuel = s.fuel.restored s.par s.store.history
    ∧ (handHistory s).burn = s.burn.restored s.now s.store.history
    ∧ (handHistory s).posts = s.posts.staged (s.fuel.restored s.par s.store.history).stage := by
  obtain ⟨u, hu⟩ : ∃ u, u = restoreGauge s := ⟨_, rfl⟩
  have hgauge : u.gauge = s.gauge.restored s.store.history := by rw [hu]; rfl
  have hsame := hide_eq_iff.1 (show u.hide [.gauge] = s.hide [.gauge] by rw [hu]; simp)
  have hpar : u.par = s.par := by rw [hu]; rfl
  have hstore : u.store = s.store := hsame .store (by decide)
  obtain ⟨w, hw⟩ : ∃ w, w = restoreFuel u := ⟨_, rfl⟩
  have hfuel : w.fuel = u.fuel.restored u.par u.store.history := by rw [hw]; rfl
  have hposts : w.posts = u.posts.staged (u.fuel.restored u.par u.store.history).stage := by rw [hw]; rfl
  have hsame' := hide_eq_iff.1 (show w.hide [.fuel, .posts] = u.hide [.fuel, .posts] by rw [hw]; simp)
  have hstore' : w.store = s.store := (hsame' .store (by decide)).trans hstore
  have hgauge' : w.gauge = u.gauge := hsame' .gauge (by decide)
  have hburn : w.burn = s.burn := (hsame' .burn (by decide)).trans (hsame .burn (by decide))
  have hfuelu : u.fuel = s.fuel := hsame .fuel (by decide)
  have hpostsu : u.posts = s.posts := hsame .posts (by decide)
  have hlast : handHistory s = w.onBurn (Burn.restored w.store.runMinute w.store.history) := by rw [hw, hu]; rfl
  rw [hlast, onBurn_gauge, onBurn_fuel, onBurn_burn, onBurn_posts, hgauge', hgauge, hfuel, hposts, hburn, hstore', hpar,
    hstore, hfuelu, hpostsu]
  exact ⟨rfl, rfl, rfl, rfl⟩

/-! ## Steps 3 to 5 (R154) -/

/-- The blocks as steps 3 to 5 leave them, from the records and the working set. -/
structure State.restores (a t : State) : Prop where
  phase : t.phase = .burnerWait
  sett : t.sett = a.sett
  loop : t.loop = a.loop
  minutesSet : t.store.minutesSet = a.store.minutesSet
  runMinute : t.store.runMinute = a.store.runMinute
  burn : t.burn = a.burn.restored a.store.runMinute a.store.history
  fuel : t.fuel = a.fuel.restored a.par a.store.history
  stages : t.posts.stages = (a.posts.staged (a.fuel.restored a.par a.store.history).stage).stages
  gauge : ∃ d, t.gauge = { a.gauge.restored a.store.history with due := d }
  notices : ∀ n ∈ a.link.notices, n ∈ t.link.notices

/-- SUPPLY with the level's hold (R154). -/
def Supply.atLevel (v : Bool) (now : Nat) (p : Supply) : Supply :=
  if v then p else { p with hold := true, holdStart := now, returnTimer := none }

/-- Nothing is asked of STORE, no erase of KEEP is due, and every zone rests. -/
def State.handsOn (s : State) : Prop :=
  s.store.unasked ∧ .settings ∉ s.store.eraseDue ∧ ∀ z : Fin 6, s.zone.zones[z].rests

/-- Steps 3 to 5 up to the edges of MAINS_OK that were held. -/
theorem handRest_restores (h : a.handsOn) (hmains : a.inputs.mainsOk = some v) :
    ∃ x, handRest a = handMains x ∧ x.awaitsBurner ∧ a.restores x ∧ x.inputs = a.inputs
      ∧ x.supply = a.supply.atLevel v a.store.runMinute := by
  obtain ⟨hunasked, hdue, hzones⟩ := h
  obtain ⟨u, hu⟩ : ∃ u, u = handSupply v a := ⟨_, rfl⟩
  have husupply : u.supply = a.supply.atLevel v a.store.runMinute := by rw [hu]; rfl
  have husame := hide_eq_iff.1 (show u.hide [.supply] = a.hide [.supply] by rw [hu]; simp [handSupply])
  have hupar : u.par = a.par := by rw [hu]; rfl
  have hustore : u.store = a.store := husame .store (by decide)
  have huburn : u.burn = a.burn := husame .burn (by decide)
  have hufuel : u.fuel = a.fuel := husame .fuel (by decide)
  have huposts : u.posts = a.posts := husame .posts (by decide)
  have hugauge : u.gauge = a.gauge := husame .gauge (by decide)
  obtain ⟨w, hw⟩ : ∃ w, w = (handHistory u).withPhase .burnerWait := ⟨_, rfl⟩
  obtain ⟨hgauge, hfuel, hburn, hposts⟩ := handHistory_parts u
  have hwsame := hide_eq_iff.1 (show w.hide [.phase, .burn, .gauge, .fuel, .posts]
    = u.hide [.phase, .burn, .gauge, .fuel, .posts] by rw [hw]; simp)
  have hwstore : w.store = a.store := (hwsame .store (by decide)).trans hustore
  have hwphase : w.phase = .burnerWait := by rw [hw]; rfl
  have hwgauge : w.gauge = a.gauge.restored a.store.history := by
    rw [hw, withPhase_gauge, hgauge, hugauge, hustore]
  have hwfuel : w.fuel = a.fuel.restored a.par a.store.history := by
    rw [hw, withPhase_fuel, hfuel, hufuel, hupar, hustore]
  have hwburn : w.burn = a.burn.restored a.store.runMinute a.store.history := by
    rw [hw, withPhase_burn, hburn, huburn, State.now, hustore]
  have hwposts : w.posts = a.posts.staged (a.fuel.restored a.par a.store.history).stage := by
    rw [hw, withPhase_posts, hposts, huposts, hufuel, hupar, hustore]
  obtain ⟨x, hx⟩ : ∃ x, x = lookAtRotation w := ⟨_, rfl⟩
  have hwunasked : w.store.unasked := hwstore ▸ hunasked
  obtain ⟨⟨-, -, hanswers⟩, -, hset, hsett⟩ := State.looks.lookAtRotation hwunasked (hwstore ▸ hdue)
  obtain ⟨-, -, hidle⟩ := State.idles.lookAtRotation hwunasked
  obtain ⟨-, ⟨hclock, -⟩, -⟩ := State.serves.lookAtRotation w
  have hrun : (lookAtRotation w).store.runMinute = w.store.runMinute := congrArg Prod.fst hclock
  rw [← hx] at hanswers hset hsett hidle hrun
  have hsame := hide_eq_iff.1 hidle
  have hphase : x.phase = .burnerWait := (hsame .phase (by decide)).trans hwphase
  have hzone : x.zone = a.zone :=
    (hsame .zone (by decide)).trans ((hwsame .zone (by decide)).trans (husame .zone (by decide)))
  have hloop : x.loop = a.loop :=
    (hsame .loop (by decide)).trans ((hwsame .loop (by decide)).trans (husame .loop (by decide)))
  have hlink : x.link = a.link :=
    (hsame .link (by decide)).trans ((hwsame .link (by decide)).trans (husame .link (by decide)))
  have hinputs : x.inputs = a.inputs :=
    (hsame .inputs (by decide)).trans ((hwsame .inputs (by decide)).trans (husame .inputs (by decide)))
  have hsupply : x.supply = u.supply := (hsame .supply (by decide)).trans (hwsame .supply (by decide))
  have hxposts : x.posts = w.posts := hsame .posts (by decide)
  have hxgauge : x.gauge = w.gauge := hsame .gauge (by decide)
  refine ⟨x, ?_, ⟨hphase, hanswers, fun z => hzone ▸ hzones z⟩, ?_, hinputs, hsupply.trans husupply⟩
  · rw [handRest, hmains, hx, hw, hu]
  exact {
    phase := hphase
    sett := hsett.trans ((hwsame .sett (by decide)).trans (husame .sett (by decide)))
    loop := hloop
    minutesSet := hset.trans (by rw [hwstore])
    runMinute := hrun.trans (by rw [hwstore])
    burn := (hsame .burn (by decide)).trans hwburn
    fuel := (hsame .fuel (by decide)).trans hwfuel
    stages := by rw [hxposts, hwposts]
    gauge := ⟨_, by rw [hxgauge, hwgauge]⟩
    notices := fun n hn => hlink ▸ hn }

/-- SUPPLY's edges leave what steps 3 to 5 restored. -/
theorem State.restores.edges (h : a.restores x) (ht : x.edgesTaken t) : a.restores t := by
  have hsame := hide_eq_iff.1 ht.same
  have hstore : t.store = x.store := hsame .store (by decide)
  obtain ⟨e, hgauge⟩ := h.gauge
  obtain ⟨d, hgauge'⟩ := ht.gauge
  exact {
    phase := (hsame .phase (by decide)).trans h.phase
    sett := (hsame .sett (by decide)).trans h.sett
    loop := (hsame .loop (by decide)).trans h.loop
    minutesSet := hstore ▸ h.minutesSet
    runMinute := hstore ▸ h.runMinute
    burn := (hsame .burn (by decide)).trans h.burn
    fuel := (hsame .fuel (by decide)).trans h.fuel
    stages := ht.stages.trans h.stages
    gauge := ⟨d, by rw [hgauge', hgauge]⟩
    notices := fun n hn => ht.notices n (h.notices n hn) }

/-- SUPPLY after the hand-over: the level's hold, and the edges of MAINS_OK taken after it. -/
theorem handRest_supply (h : a.handsOn) (hmains : a.inputs.mainsOk = some v) : a.restores (handRest a)
    ∧ ((∀ up : Bool, .edge .mainsOk up ∉ a.inputs.held) → (handRest a).inputs = a.inputs
      ∧ (handRest a).supply = a.supply.atLevel v a.store.runMinute)
    ∧ (v = true → a.supply.hold = false → a.inputs.held = [.edge .mainsOk false] →
      (handRest a).inputs = { a.inputs with mainsOk := some false, held := [.hold true] }
      ∧ (handRest a).supply = { a.supply with hold := true, holdStart := a.store.runMinute, returnTimer := none }
      ∧ .mains ∈ (handRest a).link.notices)
    ∧ (v = false → a.inputs.held = [.edge .mainsOk true] →
      (handRest a).inputs = { a.inputs with mainsOk := some true, held := [] }
      ∧ (handRest a).supply.hold = true ∧ (handRest a).supply.returnTimer = some 30000) := by
  obtain ⟨x, hrest, hawaits, hrestores, hinputs, hsupply⟩ := handRest_restores h hmains
  have hrun := hrestores.runMinute
  rw [hrest]
  refine ⟨hrestores.edges (handMains_edgesTaken hawaits), fun hnone => ?_, ?_, ?_⟩
  · rw [handMains_none (hinputs ▸ hnone)]
    exact ⟨hinputs, hsupply⟩
  · rintro rfl hhold hheld
    have hfirst : x.supply = a.supply := hsupply
    obtain ⟨hinputs', hsupply', hnotice⟩ :=
      handMains_falls hawaits (by rw [hfirst]; exact hhold) (by rw [hinputs]; exact hheld)
    rw [hinputs', hsupply', hinputs, hfirst, hrun]
    exact ⟨rfl, rfl, hnotice⟩
  · rintro rfl hheld
    have hhold : x.supply.hold = true := by rw [hsupply]; rfl
    obtain ⟨hinputs', hsupply'⟩ := handMains_rises hawaits hhold (by rw [hinputs]; exact hheld)
    rw [hinputs', hsupply', hinputs]
    exact ⟨rfl, hhold, rfl⟩

end Sys2Proof.Machine
end

section
/-! PROOF. The hand-over, begun after the scan or gone on with (O15; R154). -/

namespace Sys2Proof.Machine

variable {s t a : State} {v : Bool}

/-! ## The state from which the hand-over goes on -/

/-- From `s` the settings and the counter alone have been handed over: `a` has the same records. -/
structure State.handing (s a : State) : Prop where
  same : a.hide [.loop, .store, .link, .sett] = s.hide [.loop, .store, .link, .sett]
  history : a.store.history = s.store.history
  hands : a.handsOn

theorem history_of_sectors {st st' : Store} (e : st'.sectors = st.sectors) : st'.history = st.history := by
  unfold Store.history Store.available
  rw [e]

theorem handsOn_waiting (hw : s.storeWaits) (hz : s.zonesRest) (hwait : s.storeActive = false) : s.handsOn := by
  obtain ⟨hanswers, hqueue, hdue, -, hreading, -⟩ := hw hwait
  refine ⟨⟨hqueue, hreading, hanswers⟩, ?_, fun z => hz (inactive_of_waiting hwait).1 z⟩
  rw [hdue]
  exact List.not_mem_nil

theorem handing_begun (h : s.handsOn) : s.handing (handSettings (handTime s)) := by
  obtain ⟨hunasked, hdue, hzones⟩ := h
  have htime : (handTime s).store.timeless = s.store.timeless := (handTime_phase s).2
  have hset : (handSettings (handTime s)).hide [.loop, .link, .sett] = (handTime s).hide [.loop, .link, .sett] := by
    simp
  have hstore : (handSettings (handTime s)).store = (handTime s).store := hide_eq_iff.1 hset .store (by decide)
  have hsame : (handSettings (handTime s)).hide [.loop, .store, .link, .sett] = s.hide [.loop, .store, .link, .sett] :=
    (hide_of_subset (by decide) hset).trans (hide_of_subset (by decide) (handTime_hide s))
  have hqueue : (handTime s).store.queue = s.store.queue := congrArg (·.queue) htime
  have hreading : (handTime s).store.reading = s.store.reading := congrArg (·.reading) htime
  have hanswers : (handTime s).store.answers = s.store.answers := congrArg (·.answers) htime
  have hdue' : (handTime s).store.eraseDue = s.store.eraseDue := congrArg (·.eraseDue) htime
  obtain ⟨hq, hr, ha⟩ := hunasked
  refine ⟨hsame, ?_, ⟨?_, ?_, fun z => ?_⟩⟩
  · rw [hstore]
    exact history_of_sectors (congrArg (·.sectors) htime)
  · rw [hstore]
    exact ⟨hqueue.trans hq, hreading.trans hr, hanswers.trans ha⟩
  · rw [hstore, hdue']
    exact hdue
  · rw [show (handSettings (handTime s)).zone = s.zone from hide_eq_iff.1 hsame .zone (by decide)]
    exact hzones z

theorem handOver_begins (hphase : s.phase = .scanning) (hover : s.store.reErase = []) :
    handOver s = handRest (handSettings (handTime s)) := by
  have hdone : s.scanDone = true := by rw [State.scanDone, hphase, hover]; rfl
  rw [handOver, if_pos hdone]

theorem handOver_goesOn (hphase : s.phase = .supplyWait) (hmains : s.inputs.mainsOk ≠ none) :
    handOver s = handRest s := by
  have hdone : ¬ s.scanDone = true := by rw [State.scanDone, hphase]; exact Bool.false_ne_true
  rw [handOver, if_neg hdone, if_pos ⟨hphase, Option.isSome_iff_ne_none.2 hmains⟩]

/-! ## What it leaves, with and without the level -/

/-- The settings, the nodes and the counter stand, and no notice is gone. -/
structure State.handsOver (a t : State) : Prop where
  sett : t.sett = a.sett
  loop : t.loop = a.loop
  minutesSet : t.store.minutesSet = a.store.minutesSet
  runMinute : t.store.runMinute = a.store.runMinute
  notices : ∀ n ∈ a.link.notices, n ∈ t.link.notices

theorem handRest_waits (hmains : a.inputs.mainsOk = none) : handRest a = a.withPhase .supplyWait := by
  rw [handRest, hmains]

theorem handRest_handsOver (h : a.handsOn) : a.handsOver (handRest a) := by
  cases hmains : a.inputs.mainsOk with
  | none =>
    rw [handRest_waits hmains]
    exact ⟨rfl, rfl, rfl, rfl, fun _ hn => hn⟩
  | some v =>
    obtain ⟨h, -⟩ := handRest_supply h hmains
    exact ⟨h.sett, h.loop, h.minutesSet, h.runMinute, h.notices⟩

/-- The counter and the working set after the scan (R137, R175). -/
theorem handsOver_begun (h : (handSettings (handTime s)).handsOver t) : t.store.minutesSet = true
    ∧ (s.store.minutesSet = true → t.store.runMinute = s.store.runMinute)
    ∧ (s.store.minutesSet = false → t.store.runMinute = s.store.countFrom)
    ∧ (∀ w, s.store.settings = .image w → t.sett.working = w ∧ t.sett.defaulted = false)
    ∧ (s.store.settings = .invalid →
      t.sett.working = factorySettings ∧ t.sett.defaulted = true ∧ .settings ∈ t.link.notices) := by
  obtain ⟨hset, hkept, hcounts⟩ := handTime_store s
  have hstore : (handSettings (handTime s)).store = (handTime s).store :=
    hide_eq_iff.1 (hide_handSettings (handTime s) (F := [.loop, .link, .sett]) (by decide) (by decide) (by decide))
      .store (by decide)
  have hsettings : (handTime s).store.settings = s.store.settings := congrArg (·.settings) (handTime_phase s).2
  refine ⟨?_, fun hs => ?_, fun hs => ?_, fun w himage => ?_, fun hinvalid => ?_⟩
  · rw [h.minutesSet, hstore]
    exact hset
  · rw [h.runMinute, hstore]
    exact hkept hs
  · rw [h.runMinute, hstore]
    exact hcounts hs
  · rw [h.sett]
    exact handSettings_image (hsettings.trans himage)
  · obtain ⟨hworking, hdefaulted, hnotice⟩ := handSettings_invalid (hsettings.trans hinvalid)
    rw [h.sett]
    exact ⟨hworking, hdefaulted, h.notices _ hnotice⟩

/-! ## The latch (R102) -/

/-- A start with a LATCH record that stands, with one that is missing, and with none. -/
theorem restored_latch {st : Store} (hn : st.numbered) (now : Nat) (b : Burn) :
    (∀ r why n, st.newestOf Record.isLatch r → r.payload = .latch why n → ¬ st.followed Record.isAck r →
      (b.restored now st.history).latchReason = some why ∧ (b.restored now st.history).latchMissing = false)
    ∧ ((∀ r, st.newestOf Record.isLatch r → st.followed Record.isAck r) →
      (∀ r, st.newestOf Record.isLockout r → r.isStarvation = true →
        ¬ st.followed (fun x => x.isReset || x.isAck) r →
        (b.restored now st.history).latchReason = some .starvation
          ∧ (b.restored now st.history).latchMissing = true)
      ∧ ((∀ r, st.newestOf Record.isLockout r → r.isStarvation = true →
          st.followed (fun x => x.isReset || x.isAck) r) →
        ((b.restored now st.history).relock = 2 → (∀ r, st.keeps r → r.isLatch = false) →
          (b.restored now st.history).latchReason = some .relock
            ∧ (b.restored now st.history).latchMissing = true)
        ∧ ((b.restored now st.history).relock ≠ 2 ∨ (∃ r, st.newestOf Record.isLatch r) →
          (b.restored now st.history).latchReason = none
            ∧ (b.restored now st.history).latchMissing = false))) := by
  have hstands : ∀ why, standingLatch st.history = some why → (b.restored now st.history).latchReason = some why
      ∧ (b.restored now st.history).latchMissing = false := fun why e => by
    unfold Burn.restored
    rw [e]
    exact ⟨rfl, rfl⟩
  have hmissing : standingLatch st.history = none → (b.restored now st.history).latchReason = missingLatch st.history
      ∧ (b.restored now st.history).latchMissing = (missingLatch st.history).isSome := fun e => by
    unfold Burn.restored
    rw [e]
    exact ⟨rfl, rfl⟩
  refine ⟨fun r why n hnewest hpayload hnot => hstands why (standingLatch_newest hn hnewest hpayload hnot),
    fun hfollowed => ?_⟩
  obtain ⟨hreason, hflag⟩ := hmissing (standingLatch_none hn hfollowed)
  rw [hreason, hflag]
  refine ⟨fun r hnewest hstarved hnot => ?_, fun hunstarved => ?_⟩
  · rw [missingLatch_starved hn ⟨hnewest, hstarved, hnot⟩]
    exact ⟨rfl, rfl⟩
  have hmissed := missingLatch_unstarved hn fun r hr => hr.2.2 (hunstarved r hr.1 hr.2.1)
  have hrelock : (b.restored now st.history).relock = restoredRelock st.history := rfl
  rw [hmissed, hrelock]
  refine ⟨fun htwo hnone => ?_, fun hnot => ?_⟩
  · rw [htwo, latchUnacknowledged_none hn hnone]
    exact ⟨rfl, rfl⟩
  · have hanswered : ¬ (restoredRelock st.history == 2 && latchUnacknowledged st.history) = true := by
      obtain hnot | ⟨r, hnewest⟩ := hnot
      · rw [beq_eq_false_iff_ne.2 hnot]
        exact Bool.false_ne_true
      · rw [latchUnacknowledged_followed hn hnewest (hfollowed r hnewest), Bool.and_false]
        exact Bool.false_ne_true
    rw [if_neg hanswered]
    exact ⟨rfl, rfl⟩

end Sys2Proof.Machine
end

section
/-! PROOF. HAND_OVER restores the blocks (O15). -/

namespace Sys2Proof.Machine

variable {s t a : State} {v : Bool}

/-- The account after a start (R120, R135). -/
theorem restored_account {st : Store} (hn : st.numbered) (p : Settings) (f : Fuel) :
    (∀ r x m q l, st.newestOf Record.isGauge r → r.payload = .gauge x m q l →
      (f.restored p st.history).value = x ∧ (f.restored p st.history).refStamp = r.stamp
        ∧ (f.restored p st.history).lifetime = l)
    ∧ ((∀ r, st.keeps r → r.isGauge = false) → (f.restored p st.history).value = 0
      ∧ (f.restored p st.history).refStamp = 0 ∧ (f.restored p st.history).lifetime = 0) := by
  refine ⟨fun r x m q l hnewest hpayload => ?_, fun hnone => ?_⟩
  · unfold Fuel.restored
    rw [restoredGauge_newest hn hnewest hpayload]
    exact ⟨rfl, rfl, rfl⟩
  · unfold Fuel.restored
    rw [restoredGauge_none hn hnone]
    exact ⟨rfl, rfl, rfl⟩

/-- The pending proof after a start (R102). -/
theorem restored_pending {st : Store} (hn : st.numbered) (now : Nat) (b : Burn) :
    (∀ r o a n, st.newestOf Record.isReset r → r.payload = .reset o a n → ¬ st.followed Record.isOutcome r →
      (b.restored now st.history).proofPending = true ∧ (b.restored now st.history).pendingOrigin = some o)
    ∧ ((∀ r, st.newestOf Record.isReset r → st.followed Record.isOutcome r) →
      (b.restored now st.history).proofPending = false ∧ (b.restored now st.history).pendingOrigin = none) := by
  refine ⟨fun r o a n hnewest hpayload hnot => ?_, fun hfollowed => ?_⟩
  · unfold Burn.restored
    rw [restoredPending_newest hn hnewest hpayload hnot]
    exact ⟨rfl, rfl⟩
  · unfold Burn.restored
    rw [restoredPending_none hn hfollowed]
    exact ⟨rfl, rfl⟩

/-- The hand-over goes on from a state with the same records. -/
theorem handOver_handing (hw : s.storeWaits) (hz : s.zonesRest)
    (hstart : (s.phase = .scanning ∧ s.store.reErase = [])
      ∨ (s.phase = .supplyWait ∧ s.inputs.mainsOk ≠ none)) :
    ∃ a, handOver s = handRest a ∧ s.handing a ∧ (s.phase = .supplyWait → a = s)
      ∧ (s.phase = .scanning → a = handSettings (handTime s)) := by
  obtain ⟨hphase, hover⟩ | ⟨hphase, hmains⟩ := hstart
  · have hands := handsOn_waiting hw hz (by rw [State.storeActive, hphase]; rfl)
    refine ⟨handSettings (handTime s), handOver_begins hphase hover, handing_begun hands, fun hwait => ?_, fun _ => rfl⟩
    rw [hphase] at hwait
    cases hwait
  · have hands := handsOn_waiting hw hz (by rw [State.storeActive, hphase]; rfl)
    refine ⟨s, handOver_goesOn hphase hmains, ⟨rfl, rfl, hands⟩, fun _ => rfl, fun hscan => ?_⟩
    rw [hphase] at hscan
    cases hscan

/-- Settles O15: STORE's invariants go through every step, and the hand-over restores the blocks from the records. -/
theorem handOverRestoresTheBlocks : Obligations.HandOverRestoresTheBlocks := by
  refine ⟨reset_storeWaits, fun _ _ => storeWaits_step, reset_zonesRest, fun _ _ => zonesRest_step, reset_numbersOnce,
    fun _ _ => numbersOnce_step, fun s hw hz hn hstart => ?_⟩
  obtain ⟨a, hover, ⟨hsame, hhistory, hands⟩, hwait, hscan⟩ := handOver_handing hw hz hstart
  have hexec : exec .handOver s = .next (handRest a) := congrArg Host.Outcome.next hover
  have hover' := handRest_handsOver hands
  have hsame := hide_eq_iff.1 hsame
  have hinputs : a.inputs = s.inputs := hsame .inputs (by decide)
  have hsupply : a.supply = s.supply := hsame .supply (by decide)
  refine ⟨handRest a, hexec, exec_changesOnly hexec, fun hphase => ?_, fun hphase => ?_, fun hmains => ?_,
    fun v hmains hhold => ?_⟩
  · obtain rfl := hwait hphase
    exact ⟨hover'.sett, hover'.loop, hover'.minutesSet, hover'.runMinute⟩
  · rw [hscan hphase] at hover' ⊢
    obtain ⟨hset, hkept, hcounts, himage, hinvalid⟩ := handsOver_begun hover'
    refine ⟨hset, hkept, fun hs => ⟨fun r hr hmost => ?_, fun hnone => ?_⟩, himage, hinvalid⟩
    · rw [hcounts hs, countFrom_found hr hmost]
    · rw [hcounts hs, countFrom_none hnone]
  · rw [handRest_waits (hinputs ▸ hmains)]
    exact ⟨rfl, hsupply, hsame .burn (by decide), hsame .fuel (by decide), hsame .gauge (by decide),
      hsame .posts (by decide)⟩
  obtain ⟨h, hnone, hfalls, hrises⟩ := handRest_supply hands (hinputs ▸ hmains)
  obtain ⟨d, hgauge⟩ := h.gauge
  have hposts : a.posts = s.posts := hsame .posts (by decide)
  have hburn := h.burn
  have hfuel := h.fuel
  have hstages := h.stages
  have hpar : (handRest a).sett.working = a.par := congrArg (·.working) h.sett
  rw [hhistory] at hburn hfuel hgauge hstages
  rw [← h.runMinute] at hburn hnone hfalls
  rw [hsupply] at hnone hfalls
  rw [hinputs] at hnone hfalls hrises
  rw [hposts, ← hfuel] at hstages
  obtain ⟨hstageBurn, hstageZone, hstageLoop⟩ :
      (handRest a).posts.stageBurn = s.posts.stageBurn ++ [(handRest a).fuel.stage]
      ∧ (handRest a).posts.stageZone = s.posts.stageZone ++ [(handRest a).fuel.stage]
      ∧ (handRest a).posts.stageLoop = s.posts.stageLoop ++ [(handRest a).fuel.stage] :=
    ⟨congrArg (·.1) hstages, congrArg (·.2.1) hstages, congrArg (·.2.2) hstages⟩
  obtain ⟨haccount, hempty⟩ := restored_account hn a.par a.fuel
  obtain ⟨hpending, hproved⟩ := restored_pending hn (handRest a).store.runMinute a.burn
  obtain ⟨hstanding, hmissing⟩ := restored_latch hn (handRest a).store.runMinute a.burn
  rw [← hfuel] at haccount hempty
  rw [← hburn] at hpending hproved hstanding hmissing
  refine ⟨h.phase, fun hheld => ?_, fun hv hheld => ?_, fun hv hheld => ?_, haccount, hempty, by rw [hfuel]; rfl,
    by rw [hgauge, hfuel]; rfl, by rw [hgauge, hfuel]; rfl, by rw [hgauge]; rfl, by rw [hgauge]; rfl,
    by rw [hfuel]; rfl, by rw [hfuel]; rfl, by rw [hfuel]; rfl, by rw [hpar, hfuel]; rfl,
    hstageBurn, hstageZone, hstageLoop, ?_, ?_, ?_,
    hpending, hproved, hstanding, hmissing⟩
  · obtain ⟨hinputs', hsupply'⟩ := hnone hheld
    rw [hinputs', hsupply']
    refine ⟨rfl, ?_, ?_, ?_⟩
    · cases v
      · rfl
      · exact hhold
    · rintro rfl
      rfl
    · rintro rfl
      exact ⟨rfl, rfl⟩
  · obtain ⟨hinputs', hsupply', hnotice⟩ := hfalls hv hhold hheld
    rw [hinputs', hsupply']
    exact ⟨rfl, rfl, rfl, rfl, hnotice⟩
  · obtain ⟨hinputs', hholds, htimer⟩ := hrises hv hheld
    rw [hinputs', hholds, htimer]
    exact ⟨rfl, rfl, rfl, rfl⟩
  · rw [hfuel]
    exact restoredLeak_iff hn
  · intro l hsorted hl
    rw [hburn]
    exact restoredWindow_list hn hsorted hl
  · intro l hsorted hl
    rw [hburn]
    exact restoredRelock_list hn hsorted hl

end Sys2Proof.Machine
end
